-- ==== Sys2Proof/Word.lean ====
section
/-! DEFINITION. The word types of the module: a 32-bit register or memory word, a byte, a 64-bit Quill bundle. -/

namespace Sys2Proof

/-- A register or memory word; registers are 32 bits wide and little-endian. -/
abbrev Word := BitVec 32

/-- One byte of the fabric address space. -/
abbrev Byte := BitVec 8

/-- One 64-bit bundle of a Quill program memory (R236), X slot in bits [31:0]. -/
abbrev Bundle := BitVec 64

end Sys2Proof
end

