-- ==== Sys2Proof/Syntax.lean ====
section
/-! DEFINITION. The commands of the EL96 render module: one constructor per row of spec/opcode_table.json, with the
operands a row needs, and the operand types. A command is an access by a master, a host command with its argument words, a
bundle that a Quill core issues, or an event (a boundary, a deadline, a frame received, a timer, a reading) of one unit. -/

namespace Sys2Proof

/-- R18: the masters that read and write BAR0: the host, Scribe core k, and DBG_ACCESS. -/
inductive Master where
  | host
  | scribe (k : Nat)
  | dbg
  deriving DecidableEq, Repr

/-- The three-register X-slot operations of R241 (opcodes 0x02 to 0x0D). -/
inductive Alu where
  | add | sub | adds | subs | and | or | xor | min | max | asr | lsl | lsr
  deriving DecidableEq, Repr

/-- An X-slot operation (R240 to R242), with its fields. -/
inductive XOp where
  | nop
  | mac (aca da1 da2 acb db1 db2 opa opb : Nat)
  | alu (op : Alu) (dd ds dt : Nat)
  | cmp (ds dt : Nat)
  | neg (dd ds : Nat)
  | abs (dd ds : Nat)
  | not (dd ds : Nat)
  | addi (dd ds : Nat) (imm : BitVec 18)
  | cmpi (ds : Nat) (imm : BitVec 18)
  | asri (dd ds k : Nat)
  | lsli (dd ds k : Nat)
  | lsri (dd ds k : Nat)
  | aclr (acd : Nat)
  | acmov (acd acs : Nat)
  | acadd (acd acs : Nat)
  | acsub (acd acs : Nat)
  | acsh (acd : Nat) (sh : BitVec 6)
  | acld (acd ds : Nat)
  | acneg (acd : Nat)
  deriving DecidableEq, Repr

/-- A Y-slot operation (R244, R245), with its fields. -/
inductive YOp where
  | nop
  | ld (r an mm : Nat) (pm : Bool)
  | st (r an mm : Nat) (pm : Bool)
  | stac (ac an mm : Nat) (pm : Bool)
  | lds (r a : Nat)
  | sts (r a : Nat)
  | stacs (ac a : Nat)
  | mvac (d ac : Nat)
  | mov (dst src : Nat)
  | ldi (dd : Nat) (imm : BitVec 16)
  | ldih (dd : Nat) (imm : BitVec 16)
  | rdac (d ac p : Nat)
  | lia (an : Nat) (imm : BitVec 24)
  | lim (mn : Nat) (imm : BitVec 23)
  | wrac (d ac p : Nat)
  | adda (an mm : Nat)
  | addai (an : Nat) (imm : BitVec 23)
  | fold (an : Nat)
  | setb (bit : Nat) (v : Bool)
  | sscl (sc : BitVec 5)
  | br (t : Nat)
  | bcc (c t : Nat)
  | call (t : Nat)
  | bra (an : Nat)
  | rti
  | loop (d t : Nat)
  | repi (count t : Nat)
  | repd (d t : Nat)
  | wait
  | brk
  deriving DecidableEq, Repr

/-- R261, R263: what a port of a bank does with a word in one CORE cycle. -/
inductive PortOp where
  | idle
  | read
  | write (v : Word)
  | add (v : Word)
  | swap (v : Word)
  deriving DecidableEq, Repr

/-- R416, R417: a request that arrives at a port of a DRAM controller: a read or write of one 64-byte unit, with the enabled bytes
and the data of each of its words. `port` is 0 to 2 for RT0 to RT2 and 3 to 5 for U0 to U2; `buf` is the real-time port's buffer
(R429). -/
structure DramArr where
  port : Nat
  wr : Bool
  a : Nat
  words : List (BitVec 4 × Word)
  buf : Nat
  deriving DecidableEq, Repr

/-- R264: an atomic request: the 32-bit swap, or one of the requests that a bank does not perform as such. -/
inductive AtomReq where
  | swap
  /-- The host's CAS or a 64-bit AtomicOp; a Scribe core's other or 64-bit AMO. -/
  | other
  /-- LR.W and SC.W of a Scribe core. -/
  | loadReserved
  | storeConditional
  deriving DecidableEq, Repr

/-- R518, R523: the registers of configuration space that the model holds: Vendor ID and Device ID, Command, class code, the power
state of PMCSR, MSI-X Message Control, and AER's uncorrectable status and mask (log entry 120). -/
inductive CfgReg where
  | id | command | classCode | power | msix | aerStatus | aerMask
  deriving DecidableEq, Repr

/-- R518, R519, R569: an access of a memory word: the host's write or read through BAR2, or a Scribe core's plain load, fetch or
store; or the host's configuration read or write of the endpoint, which has no command of its own. -/
inductive MemAcc where
  | write
  | read
  | load (core : Nat)
  | fetch (core : Nat)
  | store (core : Nat)
  | cfgRead (r : CfgReg)
  | cfgWrite (r : CfgReg)
  deriving DecidableEq, Repr

/-- R573, R574: what the RESET_N pad does: a whole low pulse, low for some time so far, or a release. -/
inductive ResetEdge where
  | pulse | low | release
  deriving DecidableEq, Repr

/-- R337: a continuation fragment as received: its SMD, its fragment count and its bytes, mCRC or FCS included. -/
structure RxFrag where
  smd : Nat
  count : Nat
  bytes : List Byte
  deriving DecidableEq, Repr

/-- The commands: one constructor per row of spec/opcode_table.json. An operand with a default is one that most senders leave out:
no access on the other port, no word in the same cycle, no sixteenths past the counter cycle, no request whose timing is met.
Each meaning takes such operands after the state. -/
inductive Instr where
  /-- BOUNDARY_PULSE, R43: When MST reaches a multiple of B, BN increments and each domain performs every epoch-bound action of the boundary on its first cycle after the pulse. -/
  | boundaryPulse
  /-- RELEASE_FADE_COMPLETE, R60: When N' blocks of a release have passed, the object becomes FREE at boundary F + N' + 1, with its record reset and its segment queue emptied. -/
  | releaseFadeComplete (obj : Nat)
  /-- PARTITION_MUTE_END, R152: After W/B muted blocks following a partition switch, the sum tree stops delivering 0, and PART_MUTE and MUTE_LEFT clear. -/
  | partitionMuteEnd
  /-- INKWELL_WRITE_PATH_COPY, R123: From cycle 16 the write path copies block i − 1 of every LIVE or RELEASING object that is not fed by a Quill core from its source buffer into its window. -/
  | inkwellWritePathCopy
  /-- RULING_PASS, R85: From cycle 64 the Ruling engine computes the crosspoint records of block i − 1 for every LIVE or RELEASING object whose group starts, step by step. -/
  | rulingPass (finish : Nat)
  /-- OVERRIDE_MERGE, R116: From cycle 360,000 the Ruling engine pops override pairs from queue 16 and applies, holds or discards each of them. -/
  | overrideMerge
  /-- RULING_DEADLINE, R33: At the Ruling deadline, crosspoints that have not been recomputed keep their previous records, and GLB_OVERRUN.RULE sets. -/
  | rulingDeadline (reached : Nat)
  /-- QUILL_DEADLINE, R34: At the Quill deadline, an object block that has not been submitted whole is filled with BLOT zeros, and GLB_OVERRUN.QUILL sets. -/
  | quillDeadline
  /-- NIB_GROUP_RENDER, R140: From cycle 256 each Nib tile renders its active crosspoints for output groups 0 to 7 in order, into the partial sums. -/
  | nibGroupRender (tile : Nat) (g : Nat) (finish : Nat)
  /-- NIB_BIST_PASS, R146: An idle lane completes a self-test pass, compares the signature and counts a pass or a failure. -/
  | nibBistPass (tile : Nat) (lane : Nat) (sigOk : Bool) (crcOk : Bool)
  /-- NIB_DEADLINE, R35: At the Nib deadline, a tile that has not finished stops, its unrendered crosspoints contribute nothing, and GLB_OVERRUN.NIB sets. -/
  | nibDeadline (part : List (Nat × Nat))
  /-- SUM_TREE_REDUCE, R29: Once every present tile has finished an output group, the sum tree reduces it and scales each output into a 24-bit sample. -/
  | sumTreeReduce (g : Nat)
  /-- OUTPUT_GROUP_PROCESS, R156: The output stage processes a reduced output group through gain, bulk delay, RCC, limiter, ceiling and mute, and writes it to the egress buffer. -/
  | outputGroupProcess (g : Nat) (finish : Nat)
  /-- OUTPUT_STAGE_DEADLINE, R36: At the output-stage deadline, unwritten outputs egress zero, and GLB_OVERRUN.OUT sets. -/
  | outputStageDeadline (written : Nat := 0)
  /-- COMMIT_VERDICT, R194: At cycle 392,000 the commit controller latches GO or DEFER for each commit whose target is the next boundary, and sends it to every domain. -/
  | commitVerdict
  /-- COMMIT_SEAL, R188: A write of GLB_COMMIT_EPOCH_HI seals every open shadow into a new or joined commit, or is refused under R190. -/
  | commitSeal (m : Master) (v : Word)
  /-- COMMIT_ABANDON, R191: A write of 1 to GLB_COMMIT_ABANDON.OPEN returns every open shadow to its live value. -/
  | commitAbandon (m : Master) (v : Word)
  /-- ARM_RAISE, R192: A participant raises ARM for a commit once its staging slot is loaded, or once its withholding ends. -/
  | armRaise (cid : Nat) (p : Nat)
  /-- SHADOW_WRITE, R188: A write to an RWE register goes to its open shadow, replacing any earlier open value. -/
  | shadowWrite (m : Master) (off : Nat) (v : Word)
  /-- REGISTER_WRITE, R14: A write to a register that has no row of its own acts as its access code gives. -/
  | registerWrite (m : Master) (off : Nat) (v : Word)
  /-- RC_READ, R14: A read of an RC field returns its value and leaves 0 or the restart value. -/
  | rcRead (m : Master) (off : Nat)
  /-- LATCHING_READ, R18: A read of the first word of a latched group latches the other words for the reading master. -/
  | latchingRead (m : Master) (off : Nat)
  /-- MISALIGNED_ACCESS, R12: A BAR0 access that is not an aligned 32-bit access reads 0, ignores a write and is counted. -/
  | misalignedAccess (m : Master) (off : Nat) (write : Bool)
  /-- NOP, R529: Command NOP completes with no effect. -/
  | nop (q : Nat) (tag : Word) (args : List Word)
  /-- RENDER_CFG, R530: Command RENDER_CFG sets the render rate and block length, and every zone's SPM. -/
  | renderCfg (q : Nat) (tag : Word) (args : List Word)
  /-- RENDER_START, R531: Command RENDER_START schedules render to start at boundary GLB_BN + 2 and returns that BN. -/
  | renderStart (q : Nat) (tag : Word) (args : List Word)
  /-- POWER_REQ, R531: Command POWER_REQ acts as a write of PWR_CTL.REQ. -/
  | powerReq (q : Nat) (tag : Word) (args : List Word)
  /-- CLOCK_SET, R487: Epoch-bound command CLOCK_SET stages PWR_CLK.CORE_LP for boundary E. -/
  | clockSet (q : Nat) (tag : Word) (args : List Word)
  /-- ABORT, R532: Command ABORT starts stopping the unit named by its unit code. -/
  | abort (q : Nat) (tag : Word) (args : List Word)
  /-- FOLIO_LOAD, R538: Command FOLIO_LOAD verifies a Folio under R501 and loads its payload into the allowed region. -/
  | folioLoad (q : Nat) (tag : Word) (args : List Word)
  /-- MRAM_WRITE, R537: Command MRAM_WRITE copies data into the image bank that is not running. -/
  | mramWrite (q : Nat) (tag : Word) (args : List Word)
  /-- MRAM_COMMIT, R537: Command MRAM_COMMIT checks a directory image and writes it over the older or invalid directory copy with a new GEN. -/
  | mramCommit (q : Nat) (tag : Word) (args : List Word)
  /-- DMA_COPY, R534: Command DMA_COPY starts a transfer on the DMA engine channel of its queue. -/
  | dmaCopy (q : Nat) (tag : Word) (args : List Word)
  /-- OBJ_SPAWN, R57: Command OBJ_SPAWN stages a whole object record at epoch E and makes a FREE object ARMED. -/
  | objSpawn (q : Nat) (tag : Word) (args : List Word)
  /-- OBJ_SET, R58: Command OBJ_SET stages the selected record words of an ARMED or LIVE object at epoch E. -/
  | objSet (q : Nat) (tag : Word) (args : List Word)
  /-- OBJ_RELEASE, R57: Command OBJ_RELEASE stages the release of a LIVE object at epoch F. -/
  | objRelease (q : Nat) (tag : Word) (args : List Word)
  /-- OBJ_GET, R53: Command OBJ_GET returns the live object record. -/
  | objGet (q : Nat) (tag : Word) (args : List Word)
  /-- TRAJ_PUSH, R62: Command TRAJ_PUSH appends a trajectory segment to the object's queue. -/
  | trajPush (q : Nat) (tag : Word) (args : List Word)
  /-- TRAJ_FLUSH, R63: Command TRAJ_FLUSH empties the segment queue and sets the held position. -/
  | trajFlush (q : Nat) (tag : Word) (args : List Word)
  /-- SPK_SET, R75: Command SPK_SET stages a speaker record, to be taken at E + 1 and E + 2. -/
  | spkSet (q : Nat) (tag : Word) (args : List Word)
  /-- SPK_GET, R53: Command SPK_GET returns the live speaker record. -/
  | spkGet (q : Nat) (tag : Word) (args : List Word)
  /-- ZONE_SET, R78: Command ZONE_SET stages a zone record. -/
  | zoneSet (q : Nat) (tag : Word) (args : List Word)
  /-- ZONE_GET, R53: Command ZONE_GET returns the live zone record. -/
  | zoneGet (q : Nat) (tag : Word) (args : List Word)
  /-- MASK_SET, R100: Command MASK_SET stages the 1,024 bits of one mask set. -/
  | maskSet (q : Nat) (tag : Word) (args : List Word)
  /-- VBAP_SET, R95: Command VBAP_SET stages 1 to 64 triplet entries read from a source address. -/
  | vbapSet (q : Nat) (tag : Word) (args : List Word)
  /-- PARTITION_SET, R149: Command PARTITION_SET stages a change of partition when every object is FREE. -/
  | partitionSet (q : Nat) (tag : Word) (args : List Word)
  /-- ROUTE_SET, R183: Command ROUTE_SET stages 1 to 64 routing entries read from a source address. -/
  | routeSet (q : Nat) (tag : Word) (args : List Word)
  /-- RCC_LOAD, R166: Command RCC_LOAD checks a profile image and, if accepted, makes the slot LOADING and queues the copy. -/
  | rccLoad (q : Nat) (tag : Word) (args : List Word)
  /-- RCC_LOAD_COMPLETE, R166: The profile loader finishes copying an image, the slot becomes LOADED and RCC_LOAD completes with OK. -/
  | rccLoadComplete (slot : Nat)
  /-- RCC_CLEAR, R166: Command RCC_CLEAR returns a slot to IDENTITY. -/
  | rccClear (q : Nat) (tag : Word) (args : List Word)
  /-- TWIN_HANDOVER, R466: Epoch-bound command TWIN_HANDOVER stages a change of transmitter at boundary E + 3. -/
  | twinHandover (q : Nat) (tag : Word) (args : List Word)
  /-- STRAY_QUEUE_WORD, R526: A command-queue word that arrives outside a well-formed command is completed as E_FORMAT or E_LOST, or is discarded. -/
  | strayQueueWord (q : Nat)
  /-- HIF_ABORT_WRITE, R532: A write of HIF_ABORT.UNIT starts an ABORT of the named unit within 16 cycles, bypassing the queues. -/
  | hifAbortWrite (m : Master) (v : Word)
  /-- ABORT_COMPLETE, R533: The aborted unit reaches HALTED, HIF_ABORT.BUSY clears and the ABORT completes. -/
  | abortComplete (unit : Nat)
  /-- DMA_TRANSFER_COMPLETE, R534: A DMA transfer writes its last byte, or ends by abort or link loss, and DMA_COPY completes. -/
  | dmaTransferComplete (ch : Nat) (own : List (Nat × PortOp) := [])
  /-- PCIE_LINK_LOSS, R522: PERST# or link loss resets only the PCIe endpoint and ends host DMA transfers with E_LINK. -/
  | pcieLinkLoss
  /-- HIF_DRAM_WIN_WRITE, R520: A write of HIF_DRAM_WIN moves the BAR2 DRAM window for every later access. -/
  | hifDramWinWrite (m : Master) (v : Word)
  /-- HOST_BOOT_DOORBELL, R541: A write of HIF_BOOT_DOORBELL.GO in HOST_WAIT makes the ROM verify the host-written boot Folio. -/
  | hostBootDoorbell (m : Master) (v : Word)
  /-- POWER_GOOD, R573: All main rails reach regulation, PGOOD rises, BOOT_SRC is sampled and the boot ROM begins. -/
  | powerGood (bootSrc : Bool)
  /-- BOOT_STAGE_COMPLETE, R539: A boot stage ends and the next begins; at READY, BOOT_READY fires. -/
  | bootStageComplete
  /-- FEED_RISE, R573: A feed reaches 10.8 V from OFF and power-up begins. -/
  | feedRise (feed : Nat) (mv : Nat)
  /-- RESET_N, R574: A low pulse on RESET_N that is taken puts every domain except AON into reset; its release boots as from power good. -/
  | resetN (ns : Nat) (bootSrc : Bool) (edge : ResetEdge := .pulse)
  /-- MSIX_MESSAGE, R547: A pending MSI-X request is sent as one message once the masks are clear and the holdoff has passed. -/
  | msixMessage (vec : Nat)
  /-- SNAP_REQUEST, R550: A write of STAT_SNAP.REQ arms a counter snapshot for the next boundary, optionally with clear. -/
  | snapRequest (m : Master) (v : Word)
  /-- SNAP_DONE, R552: Every domain has latched its counters, BUSY clears, SNAP_DONE fires and the snapshot BN is recorded. -/
  | snapDone
  /-- STAT_SHD_DATA_READ, R553: A read of STAT_SHD_DATA returns the shadow at OFFSET and advances OFFSET by 4. -/
  | statShdDataRead (m : Master)
  /-- TRACE_PACKET, R555: The trace port sends a SYNC, FLOW, TRAP, TIME or OVERFLOW packet from its buffer. -/
  | tracePacket (core : Nat)
  /-- QUILL_NOP, R236: A NOP in either slot of a Quill bundle does nothing. -/
  | quillNop (core : Nat) (x : XOp) (y : YOp)
  /-- MAC, R242: MAC adds, subtracts or sets one or two exact products into accumulators. -/
  | mac (core : Nat) (aca : Nat) (da1 : Nat) (da2 : Nat) (acb : Nat) (db1 : Nat) (db2 : Nat) (opa : Nat) (opb : Nat) (y : YOp)
  /-- ADD, R241: ADD writes the wrapping sum of two D registers and sets the flags. -/
  | add (core : Nat) (dd : Nat) (ds : Nat) (dt : Nat) (y : YOp)
  /-- SUB, R241: SUB writes the wrapping difference of two D registers and sets the flags. -/
  | sub (core : Nat) (dd : Nat) (ds : Nat) (dt : Nat) (y : YOp)
  /-- ADDS, R241: ADDS writes the saturated sum of two D registers and sets the flags. -/
  | adds (core : Nat) (dd : Nat) (ds : Nat) (dt : Nat) (y : YOp)
  /-- SUBS, R241: SUBS writes the saturated difference of two D registers and sets the flags. -/
  | subs (core : Nat) (dd : Nat) (ds : Nat) (dt : Nat) (y : YOp)
  /-- AND, R241: AND writes the bitwise AND of two D registers. -/
  | and (core : Nat) (dd : Nat) (ds : Nat) (dt : Nat) (y : YOp)
  /-- OR, R241: OR writes the bitwise OR of two D registers. -/
  | or (core : Nat) (dd : Nat) (ds : Nat) (dt : Nat) (y : YOp)
  /-- XOR, R241: XOR writes the bitwise XOR of two D registers. -/
  | xor (core : Nat) (dd : Nat) (ds : Nat) (dt : Nat) (y : YOp)
  /-- MIN, R241: MIN writes the signed minimum of two D registers. -/
  | min (core : Nat) (dd : Nat) (ds : Nat) (dt : Nat) (y : YOp)
  /-- MAX, R241: MAX writes the signed maximum of two D registers. -/
  | max (core : Nat) (dd : Nat) (ds : Nat) (dt : Nat) (y : YOp)
  /-- ASR, R241: ASR shifts a D register right arithmetically by a register amount. -/
  | asr (core : Nat) (dd : Nat) (ds : Nat) (dt : Nat) (y : YOp)
  /-- LSL, R241: LSL shifts a D register left by a register amount. -/
  | lsl (core : Nat) (dd : Nat) (ds : Nat) (dt : Nat) (y : YOp)
  /-- LSR, R241: LSR shifts a D register right logically by a register amount. -/
  | lsr (core : Nat) (dd : Nat) (ds : Nat) (dt : Nat) (y : YOp)
  /-- CMP, R241: CMP sets the flags of the difference of two D registers. -/
  | cmp (core : Nat) (ds : Nat) (dt : Nat) (y : YOp)
  /-- NEG, R241: NEG writes the wrapping negation of a D register. -/
  | neg (core : Nat) (dd : Nat) (ds : Nat) (y : YOp)
  /-- ABS, R241: ABS writes the saturated absolute value of a D register. -/
  | abs (core : Nat) (dd : Nat) (ds : Nat) (y : YOp)
  /-- NOT, R241: NOT writes the bitwise complement of a D register. -/
  | not (core : Nat) (dd : Nat) (ds : Nat) (y : YOp)
  /-- ADDI, R241: ADDI adds a sign-extended 18-bit immediate to a D register. -/
  | addi (core : Nat) (dd : Nat) (ds : Nat) (imm : BitVec 18) (y : YOp)
  /-- CMPI, R241: CMPI sets the flags of a D register minus an immediate. -/
  | cmpi (core : Nat) (ds : Nat) (imm : BitVec 18) (y : YOp)
  /-- ASRI, R241: ASRI shifts a D register right arithmetically by an immediate. -/
  | asri (core : Nat) (dd : Nat) (ds : Nat) (k : Nat) (y : YOp)
  /-- LSLI, R241: LSLI shifts a D register left by an immediate. -/
  | lsli (core : Nat) (dd : Nat) (ds : Nat) (k : Nat) (y : YOp)
  /-- LSRI, R241: LSRI shifts a D register right logically by an immediate. -/
  | lsri (core : Nat) (dd : Nat) (ds : Nat) (k : Nat) (y : YOp)
  /-- ACLR, R241: ACLR clears an accumulator. -/
  | aclr (core : Nat) (acd : Nat) (y : YOp)
  /-- ACMOV, R241: ACMOV copies one accumulator to another. -/
  | acmov (core : Nat) (acd : Nat) (acs : Nat) (y : YOp)
  /-- ACADD, R241: ACADD adds one accumulator into another, wrapping at 72 bits. -/
  | acadd (core : Nat) (acd : Nat) (acs : Nat) (y : YOp)
  /-- ACSUB, R241: ACSUB subtracts one accumulator from another, wrapping at 72 bits. -/
  | acsub (core : Nat) (acd : Nat) (acs : Nat) (y : YOp)
  /-- ACSH, R241: ACSH shifts an accumulator by a signed immediate. -/
  | acsh (core : Nat) (acd : Nat) (sh : BitVec 6) (y : YOp)
  /-- ACLD, R241: ACLD loads an accumulator with a D register scaled by 2^31. -/
  | acld (core : Nat) (acd : Nat) (ds : Nat) (y : YOp)
  /-- ACNEG, R241: ACNEG negates an accumulator. -/
  | acneg (core : Nat) (acd : Nat) (y : YOp)
  /-- LD, R245: LD loads a word into a register, with optional post-modification of the address register. -/
  | ld (core : Nat) (r : Nat) (an : Nat) (mm : Nat) (pm : Bool) (x : XOp)
  /-- ST, R245: ST stores a register to memory, with optional post-modification. -/
  | st (core : Nat) (r : Nat) (an : Nat) (mm : Nat) (pm : Bool) (x : XOp)
  /-- STAC, R245: STAC stores the converted value of an accumulator to memory. -/
  | stac (core : Nat) (ac : Nat) (an : Nat) (mm : Nat) (pm : Bool) (x : XOp)
  /-- LDS, R245: LDS loads a register from a short absolute address. -/
  | lds (core : Nat) (r : Nat) (a : Nat) (x : XOp)
  /-- STS, R245: STS stores a register to a short absolute address. -/
  | sts (core : Nat) (r : Nat) (a : Nat) (x : XOp)
  /-- STACS, R245: STACS stores a converted accumulator to a short absolute address. -/
  | stacs (core : Nat) (ac : Nat) (a : Nat) (x : XOp)
  /-- MVAC, R205: MVAC moves an accumulator into a D register with scaling and saturation. -/
  | mvac (core : Nat) (d : Nat) (ac : Nat) (x : XOp)
  /-- MOV, R245: MOV copies one register to another through the class conversions. -/
  | mov (core : Nat) (dst : Nat) (src : Nat) (x : XOp)
  /-- LDI, R245: LDI loads a sign-extended 16-bit immediate into a D register. -/
  | ldi (core : Nat) (dd : Nat) (imm : BitVec 16) (x : XOp)
  /-- LDIH, R245: LDIH loads an immediate into the high half of a D register. -/
  | ldih (core : Nat) (dd : Nat) (imm : BitVec 16) (x : XOp)
  /-- RDAC, R245: RDAC reads one part of an accumulator exactly into a D register. -/
  | rdac (core : Nat) (d : Nat) (ac : Nat) (p : Nat) (x : XOp)
  /-- LIA, R245: LIA loads an address register with an immediate address. -/
  | lia (core : Nat) (an : Nat) (imm : BitVec 24) (x : XOp)
  /-- LIM, R245: LIM loads a modifier register with a sign-extended immediate. -/
  | lim (core : Nat) (mn : Nat) (imm : BitVec 23) (x : XOp)
  /-- WRAC, R245: WRAC writes one part of an accumulator from a D register. -/
  | wrac (core : Nat) (d : Nat) (ac : Nat) (p : Nat) (x : XOp)
  /-- ADDA, R245: ADDA adds a modifier register to an address register. -/
  | adda (core : Nat) (an : Nat) (mm : Nat) (x : XOp)
  /-- ADDAI, R245: ADDAI adds an immediate to an address register. -/
  | addai (core : Nat) (an : Nat) (imm : BitVec 23) (x : XOp)
  /-- FOLD, R218: FOLD maps an address register into its circular window. -/
  | fold (core : Nat) (an : Nat) (x : XOp)
  /-- SETB, R245: SETB sets or clears one bit of ST. -/
  | setb (core : Nat) (bit : Nat) (v : Bool) (x : XOp)
  /-- SSCL, R245: SSCL sets ST.SCALE. -/
  | sscl (core : Nat) (sc : BitVec 5) (x : XOp)
  /-- BR, R248: BR branches to a target after two delay slots. -/
  | br (core : Nat) (t : Nat) (x : XOp)
  /-- BCC, R248: BCC branches when its condition holds, after two delay slots. -/
  | bcc (core : Nat) (c : Nat) (t : Nat) (x : XOp)
  /-- CALL, R248: CALL stores the return address in A7 and branches. -/
  | call (core : Nat) (t : Nat) (x : XOp)
  /-- BRA, R248: BRA branches to the address held in an address register. -/
  | bra (core : Nat) (an : Nat) (x : XOp)
  /-- RTI, R223: RTI restores PC and ST from QL_EPC and QL_EST and returns from an interrupt. -/
  | rti (core : Nat) (x : XOp)
  /-- LOOP, R220: LOOP decrements a D register and branches back to the loop target while it is nonzero. -/
  | loop (core : Nat) (d : Nat) (t : Nat) (x : XOp)
  /-- REPI, R249: REPI repeats a body of at most 32 bundles an immediate number of times. -/
  | repi (core : Nat) (count : Nat) (t : Nat) (x : XOp)
  /-- REPD, R249: REPD repeats a body a number of times taken from a D register. -/
  | repd (core : Nat) (d : Nat) (t : Nat) (x : XOp)
  /-- WAIT, R250: WAIT holds issue until an enabled interrupt is pending. -/
  | wait (core : Nat) (x : XOp)
  /-- BRK, R250: BRK halts the core with CAUSE 3 at the next interrupt point. -/
  | brk (core : Nat) (x : XOp)
  /-- BLOCK_INTERRUPT, R221: At cycle 16 of every interval the BLOCK bit of every core's QL_IPEND sets. -/
  | blockInterrupt
  /-- TIMER_INTERRUPT, R221: When QL_CYCLE reaches QL_TIMER.CYCLE with EN = 1, the TIMER bit of QL_IPEND sets. -/
  | timerInterrupt (core : Nat)
  /-- QCORE_DOORBELL, R235: A write of QCORE_DOORBELL.RING sets bit 3 of the core's QL_IPEND. -/
  | qcoreDoorbell (m : Master) (core : Nat) (v : Word)
  /-- INTERRUPT_ENTRY, R222: At an interrupt point the core takes the lowest enabled pending source, saving PC and ST and clearing IE. -/
  | interruptEntry (core : Nat)
  /-- STALL_END, R215: The data of a stalled load arrives and the frozen core resumes. -/
  | stallEnd (core : Nat) (cycles : Nat)
  /-- POSTED_STORE_COMPLETE, R215: A posted store leaves the write buffer and reaches its stall region. -/
  | postedStoreComplete (core : Nat) (own : PortOp := .idle)
  /-- START, R230: A write of QCORE_CTL.START starts a core from its start PC or resumes it. -/
  | start (m : Master) (core : Nat)
  /-- HALT, R231: A write of QCORE_CTL.HALT requests a halt at the next interrupt point. -/
  | halt (m : Master) (core : Nat)
  /-- HALT_TAKEN, R231: A pending halt request or armed breakpoint halts the core at an interrupt point. -/
  | haltTaken (core : Nat)
  /-- STEP, R231: A write of QCORE_CTL.STEP while HALTED executes one bundle or one whole REP and halts with CAUSE 4. -/
  | step (m : Master) (core : Nat)
  /-- RESET, R235: A write of QCORE_CTL.RESET puts the core into IDLE at once. -/
  | reset (m : Master) (core : Nat)
  /-- QCORE_PM_HI_WRITE, R234: A write of QCORE_PM_HI stores a whole bundle into program memory if the core is not RUNNING. -/
  | qcorePmHiWrite (m : Master) (core : Nat) (v : Word)
  /-- QCORE_PM_LO_READ, R235: A read of QCORE_PM_LO fetches the bundle and latches its high word. -/
  | qcorePmLoRead (m : Master) (core : Nat)
  /-- MEMC_WIN_LEN_WRITE, R267: A write of MEMC_WIN_LEN makes the held BASE and the new LEN live together, or is refused. -/
  | memcWinLenWrite (m : Master) (bank : Nat) (w : Nat) (v : Word)
  /-- MEMC_BANK_PWR_WRITE, R274: A write of MEMC_BANK_PWR.REQ starts a bank power transition, or is refused while render runs. -/
  | memcBankPwrWrite (m : Master) (bank : Nat) (v : Word)
  /-- BANK_PWR_TRANSITION_DONE, R274: A bank power transition ends and BUSY clears. -/
  | bankPwrTransitionDone (bank : Nat)
  /-- ATOMIC_ADD, R263: A 32-bit atomic add on a bank word returns the old word and writes the sum. -/
  | atomicAdd (m : Master) (a : Nat) (v : Word) (other : PortOp := .idle)
  /-- ATOMIC_SWAP, R263: A 32-bit atomic swap on a bank word returns the old word and writes the new one. -/
  | atomicSwap (m : Master) (a : Nat) (v : Word) (req : AtomReq := .swap) (other : PortOp := .idle)
  /-- SUB_WORD_WRITE, R271: A byte or halfword write merges into the word over two port cycles. -/
  | subWordWrite (m : Master) (a : Nat) (be : BitVec 4) (v : Word) (own : PortOp := .idle)
  /-- QUEUE_PUSH, R286: A write of QUEUE_PUSH_HI pushes a word, which is stored or dropped with GAP marking. -/
  | queuePush (m : Master) (q : Nat) (v : Word) (same : Bool := false)
  /-- QUEUE_POP, R285: A read of QUEUE_POP_LO pops the head word, or returns DRY, and latches its high half. -/
  | queuePop (m : Master) (q : Nat)
  /-- QUEUE_FLUSH, R292: A write of QUEUE_FLUSH.FLUSH empties the queue, optionally leaving a GAP marker. -/
  | queueFlush (m : Master) (q : Nat) (v : Word)
  /-- QUEUE_ENABLE_WRITE, R282: A write of QUEUE_CFG.ENABLE enables or disables a queue and empties it, or is refused. -/
  | queueEnableWrite (m : Master) (q : Nat) (v : Word)
  /-- QUEUE_WM_WRITE, R290: A write of QUEUE_WM.LEVEL changes L from the next cycle and re-judges the arming. -/
  | queueWmWrite (m : Master) (q : Nat) (v : Word)
  /-- DUAL_CLOCK_ARRIVAL, R293: A word pushed across a clock domain arrives at the consumer, where it is judged. -/
  | dualClockArrival (q : Nat) (same : Bool := false)
  /-- TIME_OFS_HI_WRITE, R307: A write of TIME_OFS_HI presents the offset, steps the counter if it exceeds the threshold, and moves the servo state. -/
  | timeOfsHiWrite (m : Master) (v : Word)
  /-- ANCHOR_SEAL, R314: The Time unit seals its own commit staging O := O_req, or seals it again at a boundary after a refusal or failure. -/
  | anchorSeal
  /-- TIME_FREQ_WRITE, R298: A write of TIME_FREQ sets the clamped rate adjustment in the next PTP cycle, unless in HOLDOVER. -/
  | timeFreqWrite (m : Master) (v : Word)
  /-- TIME_GM_ID_HI_WRITE, R306: A write of TIME_GM_ID_HI that changes the grandmaster identity moves TRACKING to HOLDOVER. -/
  | timeGmIdHiWrite (m : Master) (v : Word)
  /-- FORCE_HOLD_WRITE, R306: A write of TIME_CTL.FORCE_HOLD = 1 enters HOLDOVER. -/
  | forceHoldWrite (m : Master) (v : Word)
  /-- SYNC_TIMEOUT, R306: No TIME_OFS_HI write for TIME_SYNC_TIMEOUT.MS moves TRACKING to HOLDOVER. -/
  | syncTimeout
  /-- TIME_NOW_SEC_HI_WRITE, R323: A write of TIME_NOW_SEC_HI loads the counter with the held values, which is a step. -/
  | timeNowSecHiWrite (m : Master) (v : Word)
  /-- TIME_TXTS_ID_READ, R304: A read of TIME_TXTS_ID pops the oldest transmit timestamp and latches its words. -/
  | timeTxtsIdRead (m : Master) (port : Nat)
  /-- PPS_OUT_EDGE, R318: The counter passes a whole second and PPS_OUT rises. -/
  | ppsOutEdge
  /-- PPS_OUT_WIDTH_END, R318: WIDTH milliseconds after its rise, PPS_OUT falls. -/
  | ppsOutWidthEnd
  /-- PPS_IN_EDGE, R319: A rising PPS_IN edge latches the counter into TIME_PPSIN. -/
  | ppsInEdge (sub : Nat := 0)
  /-- TIME_PPSIN_SUB_READ, R319: A read of TIME_PPSIN_SUB clears VALID and latches the other words. -/
  | timePpsinSubRead (m : Master)
  /-- MEDIA_RUN_WRITE, R310: A write of CLK_MEDIA_CTL.RUN starts the media clock, loading MST and setting O to 0, or stops it. -/
  | mediaRunWrite (m : Master) (v : Word)
  /-- MEDIA_LOCK, R312: After 1 s with |e| within 100 ns at every edge, LOCKED sets. -/
  | mediaLock
  /-- MEDIA_UNLOCK, R312: A sample edge with |e| over 1 µs clears LOCKED, sets UNLOCK and fires MEDIA_UNLOCK. -/
  | mediaUnlock
  /-- WCLK_IN_GATE_END, R321: At the end of each 1 s gate the rate and phase of WCLK_IN are recorded. -/
  | wclkInGateEnd (rate : Nat) (phase : Int)
  /-- WCLK_IN_LOSS, R321: With no WCLK_IN edge for 2 ms, PRESENT clears and WCLK_IN_LOSS fires. -/
  | wclkInLoss
  /-- RX_FRAME, R329: A frame received whole is judged and discarded, handled as PAUSE, or delivered to a ring or to the stream engine. -/
  | rxFrame (port : Nat) (bytes : List Byte) (codeErr : Bool) (reasmErr : Bool) (ago : Nat := 0) (sub : Nat := 0) (smd : Nat := 0xD5)
      (more : List RxFrag := [])
  /-- TX_FRAME_SELECT, R336: At each frame boundary the port chooses and starts the next frame from the highest ready class. -/
  | txFrameSelect (port : Nat) (sub : Nat := 0)
  /-- PREEMPT, R337: An express frame becoming ready interrupts a preemptable frame on the wire. -/
  | preempt (port : Nat) (sent : Nat) (sub : Nat := 0)
  /-- PREEMPT_VERIFY, R337: The verification handshake with the partner ends, and preemption becomes active or verification fails. -/
  | preemptVerify (port : Nat) (ok : Bool)
  /-- NET_LINK, R326: LINK of a port changes; LINK_CHG sets, the change is counted and NET_LINK fires. -/
  | netLink (port : Nat) (lock : Bool) (an : Bool := true) (full : Bool := true)
  /-- RING_TAIL_WRITE, R333: A write of RING_TAIL hands descriptors to the hardware. -/
  | ringTailWrite (m : Master) (off : Nat) (v : Word)
  /-- PAUSE_TIMER_EXPIRY, R340: The pause timer reaches 0 and the port may start frames again. -/
  | pauseTimerExpiry (port : Nat)
  /-- NET_PAUSE_WD, R341: The port has been held by PAUSE for WD_MS: the timer clears, the watchdog fires and a holdoff begins. -/
  | netPauseWd (port : Nat)
  /-- PAUSE_HOLDOFF_END, R341: HOLDOFF_MS after the watchdog, the holdoff ends. -/
  | pauseHoldoffEnd (port : Nat)
  /-- NET_CBS_SLOPE_WRITE, R338: A write of IDLE_SLOPE sets the shaper slope, or is ignored with CBS_REJECT. -/
  | netCbsSlopeWrite (m : Master) (port : Nat) (cls : Nat) (v : Word)
  /-- MGMT_MDIO_WRITE, R345: A write of MGMT_MDIO starts a Clause 22 read or write transaction. -/
  | mgmtMdioWrite (m : Master) (v : Word)
  /-- MDIO_TRANSACTION_COMPLETE, R345: An MDIO transaction ends, BUSY clears and read data is stored. -/
  | mdioTransactionComplete (rd : BitVec 16)
  /-- STREAM_FINALISATION, R354: In interval i the engine finalises block i of every live receive stream, filling missing frames with fades. -/
  | streamFinalisation
  /-- STREAM_PATH_TIMEOUT, R353: No matching frame on a path for 16 blocks clears PRI_OK or SEC_OK and fires STRM_PATH. -/
  | streamPathTimeout (n : Nat) (sec : Bool)
  /-- SPILL_RING_CLEAR_DONE, R359: The DRAM ring of a newly live spill entry is cleared, and frames are accepted again. -/
  | spillRingClearDone (n : Nat)
  /-- STREAM_PACKET_HANDOFF, R360: At the start of the interval in which a packet's last frame reaches egress, the engine builds it and hands it to the port classes. -/
  | streamPacketHandoff (n : Nat)
  /-- TDM_ENABLE_WRITE, R370: A write of TDM_CTL.ENABLE = 1 starts the port or is refused with CFG_ERR. -/
  | tdmEnableWrite (m : Master) (port : Nat) (v : Word)
  /-- TDM_RX_FRAME, R371: A received TDM frame is written into the receive ring by MST, slip rule or frame count. -/
  | tdmRxFrame (port : Nat) (slots : List Word) (ok : Bool) (phase : Int)
  /-- TDM_TX_FRAME, R372: A TDM frame sync starts the frame that carries egress MST m_e from the transmit data. -/
  | tdmTxFrame (port : Nat) (late : Bool := false)
  /-- TDM_MASK_HANDOFF, R377: At cycle 392,000 the controller hands a new slot mask, stamped with S, to the bit-clock domain. -/
  | tdmMaskHandoff
  /-- FS_ABSENT, R382: With no frame sync for 2 frame periods, FS_PRESENT clears. -/
  | fsAbsent (port : Nat)
  /-- TDM_RATE_GATE_END, R384: At the end of each 1 s gate the port reports its rate and fires TDM_RATE or TDM_FAMILY on a change. -/
  | tdmRateGateEnd (port : Nat) (rate : Nat)
  /-- COND_BLOCK_OUTPUT, R389: The conditioning chain writes block j of every channel into the output ring by cycle 1,024. -/
  | condBlockOutput (bits : List Nat)
  /-- RESAMPLER_BLOCK, R399: A resampler group computes a block at its ratio, slipping if the fill leaves its bounds. -/
  | resamplerBlock (port : Nat) (tx : Bool)
  /-- LEVEL_DETECTOR_EVALUATION, R407: By cycle 4,000 each detector evaluates block j, changes state, pushes UP, DOWN or REPORT words and updates the guards. -/
  | levelDetectorEvaluation
  /-- DRAM_READ, R424: A DRAM read issues and its syndrome gives a clean, corrected, poisoned or uncorrectable word. -/
  | dramRead (c : Nat) (arr : List DramArr) (ready : List Nat := []) (syn : List Nat := []) (hits : List (Nat × Nat) := [])
  /-- DRAM_WRITE, R418: A queued DRAM write issues, with read-merge-write for a partial mask. -/
  | dramWrite (c : Nat) (arr : List DramArr) (ready : List Nat) (syn : List Nat) (fails : Nat) (onSpare : Bool := false)
  /-- CORRECTED_WRITE_BACK, R425: A corrected unit is written back at the lowest priority, unless a write overtakes it. -/
  | correctedWriteBack (c : Nat) (ready : List Nat := [])
  /-- PANIC_RISE, R420: A real-time port's backlog or request age reaches its limit and it raises PANIC. -/
  | panicRise (c : Nat) (port : Nat)
  /-- REFRESH_TICK, R428: At every tREFI tick each rank's owed count rises by 1. -/
  | refreshTick (c : Nat)
  /-- REFAB, R428: An opportunistic or forced REFab issues to a rank and its owed count falls. -/
  | refab (c : Nat) (rank : Nat) (ready : List Nat := [])
  /-- DDR_TEMP_READING, R430: Every 100 µs the controller reads its package temperatures and sets or clears HOT. -/
  | ddrTempReading (c : Nat) (t : BitVec 16)
  /-- DDR_ENABLE_WRITE, R441: A write of DDR_CTL.ENABLE = 1 leaves TRAINING for READY. -/
  | ddrEnableWrite (m : Master) (c : Nat) (v : Word)
  /-- APPLY, R433: A write of DDR_CTL.APPLY holds training delays for loading at cycle 394,000 of the next interval. -/
  | apply (m : Master) (c : Nat) (v : Word)
  /-- APPLY_PAUSE, R433: At cycle 394,000 the held delays load, pausing the controller for at most 2 µs. -/
  | applyPause (c : Nat)
  /-- RETIRE, R436: A write of DDR_CTL.RETIRE retires an active rank and starts migration, or reports that no spare exists. -/
  | retire (m : Master) (c : Nat) (v : Word)
  /-- MIGRATION_COPY, R437: The copy engine moves one unit from the failing rank to the spare. -/
  | migrationCopy (c : Nat) (bad : List Nat) (ready : List Nat := []) (soft : List Nat := []) (cmdErr : Bool := false)
  /-- MIGRATION_COMPLETE, R439: The last unit is copied, the logical rank maps to the former spare, and DDR_MIGRATE fires. -/
  | migrationComplete (c : Nat)
  /-- PATROL_SCRUB_READ, R440: The patrol scrubber reads one unit at the lowest priority. -/
  | patrolScrubRead (a : Nat) (syn : List Nat) (ready : List Nat := [])
  /-- DDR_TEST_START, R435: A write of DDR_TEST_CTL.START runs a test on a physical rank, or is refused. -/
  | ddrTestStart (m : Master) (c : Nat) (v : Word)
  /-- DDR_TEST_DONE, R435: A DRAM test ends, DONE sets and its results are recorded. -/
  | ddrTestDone (c : Nat) (bits : Word) (ecc : BitVec 8) (mrr : BitVec 16) (beats : Nat) (more : List (Nat × Nat) := [])
      (ready : List Nat := [])
  /-- HEARTBEAT, R453: In the first 16 cycles of interval j the module sends HEARTBEAT(j) if it is fit, or withholds it. -/
  | heartbeat
  /-- HEARTBEAT_MISS, R454: A heartbeat not accepted by the receiver's boundary j + 1 is counted missed, and a second miss declares the peer failed. -/
  | heartbeatMiss
  /-- FRAGMENT_RECEIVE, R448: A Ligature fragment is received, checked and kept or discarded. -/
  | fragmentReceive (bytes : List Byte)
  /-- MESSAGE_ACCEPT, R450: A message whose fragments are all held and whose CMAC is valid is accepted and acted on. -/
  | messageAccept
  /-- FRAGMENT_RESEND, R449: An unacknowledged fragment is resent, or after three resends the lanes are forced to retrain. -/
  | fragmentResend
  /-- LIGATURE_LANE_CHANGE, R447: A lane gains or loses block lock, and TWIN_LINK fires on a change of the link state. -/
  | ligatureLaneChange (lane : Nat) (lock : Bool)
  /-- COMMIT, R455: The transmitting module forwards a commit, or joined values, to the peer in a COMMIT message. -/
  | commit
  /-- COMMIT_ACK, R455: A peer whose participants have armed answers a COMMIT with COMMIT_ACK. -/
  | commitAck
  /-- VERDICT, R456: At cycle 392,000 the transmitting module sends the verdict for the next boundary, with released CSEQ. -/
  | verdict
  /-- BLOCK, R458: After the verdict the transmitting module sends the BLOCK state record of the interval. -/
  | block
  /-- RECORD_APPLY, R459: The peer applies a complete record and compares each section with its own snapshot. -/
  | recordApply
  /-- RECORD_LATE, R459: A record not applied by boundary i + 3 makes the peer STALE. -/
  | recordLate
  /-- REPAIR_REQUEST, R460: The transmitting module answers a REPAIR REQUEST with REPAIR DATA from its Inkwell. -/
  | repairRequest (block : Nat) (objs : List Nat)
  /-- REPAIR_DATA, R460: The peer writes repaired history words into the object's block slots in the guard slot. -/
  | repairData (block : Nat) (entries : List (Nat × List Word))
  /-- BULK_SYNC_REQUEST, R468: A STALE module with the link UP requests BULK_SYNC, and the transmitter streams the image. -/
  | bulkSyncRequest
  /-- IMAGE, R468: The receiving module writes a BULK_SYNC IMAGE message as it arrives. -/
  | image (addr : Nat) (bytes : List Byte)
  /-- END, R468: At the boundary after END the receiving module makes every imaged register value live. -/
  | endMsg (crc : Nat) (len : Nat)
  /-- HELLO, R470: A STALE module acts on the first HELLO it accepts. -/
  | hello (role : Nat) (state : Nat) (since : Nat)
  /-- TAKEOVER, R462: A transmitting module that accepts TAKEOVER stops at the named boundary and goes STALE. -/
  | takeover (x : Nat)
  /-- YIELD, R471: A YIELD names the boundary at which the yielding module stops and requests BULK_SYNC. -/
  | yield (x : Nat)
  /-- FAIL, R462: The peer that receives FAIL takes over at the named boundary. -/
  | fail (x : Nat)
  /-- REVERT_REQ, R467: A PREFERRED standby that has been healthy for HOLDOFF_S sends REVERT_REQ, and the transmitter seals a handover. -/
  | revertReq
  /-- HEALTH, R473: Once per second each module computes its health word and sends it in HEALTH. -/
  | health (eye0 : Nat) (eye1 : Nat)
  /-- SPLIT_WAIT_EXPIRY, R461: After SPLIT_WAIT_MS with no frame from TWIN_PEER_MAC, the module takes over cold. -/
  | splitWaitExpiry
  /-- SYNC_LIMIT_EXPIRY, R445: A SYNCING module that has not converged within SYNC_LIMIT_S goes STALE and fires TWIN_SYNC_FAIL. -/
  | syncLimitExpiry
  /-- TWIN_ALIVE_TOGGLE, R446: TWIN_ALIVE rises at boundaries with BN mod 3 = 0 and falls 500 µs later. -/
  | twinAliveToggle
  /-- PEER_ALIVE_ABSENT, R446: 600 µs after the peer's last TWIN_ALIVE edge, the peer's TWIN_ALIVE becomes absent. -/
  | peerAliveAbsent
  /-- TWIN_SEL_CONFIRM_LOSS, R444: Two boundaries without CORE confirmation drop TWIN_SEL, stop TWIN_ALIVE and float the TDM outputs. -/
  | twinSelConfirmLoss
  /-- TWIN_EN_WRITE, R445: A write of TWIN_CTL.EN moves the module to ISOLATED or STALE at the next boundary. -/
  | twinEnWrite (m : Master) (v : Word)
  /-- KICK, R453: A write of TWIN_CTL.KICK renews the fitness kick for heartbeats. -/
  | kick (m : Master) (v : Word)
  /-- RESTART, R445: A write of TWIN_CTL.RESTART moves FAULT to STALE at the next boundary. -/
  | restart (m : Master) (v : Word)
  /-- FAULT, R462: A write of TWIN_CTL.FAULT enters FAULT, with FAIL to a STANDBY peer. -/
  | fault (m : Master) (v : Word)
  /-- FEED_SAMPLE, R476: Every 10 µs the power feed manager samples each feed and confirms its state. -/
  | feedSample (a : Nat) (b : Nat)
  /-- HOLD_UP_END, R479: If no feed returns within 1 ms of a brownout, the module enters OFF. -/
  | holdUpEnd
  /-- FEED_COLLAPSE, R478: One feed collapses and the ideal-diode stage moves the whole load to the other within 5 µs. -/
  | feedCollapse (feed : Nat)
  /-- REQ_ACTIVE, R482: A request for ACTIVE from QUIET turns the banks ON. -/
  | reqActive (m : Master) (v : Word)
  /-- REQ_QUIET, R483: A request for QUIET chooses boundary X and defers every commit to it. -/
  | reqQuiet (m : Master) (v : Word)
  /-- REQ_STANDBY, R485: A request for STANDBY passes through QUIET and then switches off every domain but AON. -/
  | reqStandby (m : Master) (v : Word)
  /-- QUIET_ENTRY, R483: At boundary X render halts: commits fail, outputs go silent, cores abort, objects free and banks retain. -/
  | quietEntry
  /-- BANKS_ON_COMPLETE, R482: Every bank is ON after a return from QUIET; the state changes and PWR_STATE fires. -/
  | banksOnComplete
  /-- STANDBY_ENTRY, R485: From QUIET the MRAM log write completes, debug sessions end and every domain but AON switches off. -/
  | standbyEntry
  /-- WAKE, R485: An enabled wake source fires in STANDBY and the module boots from the beginning. -/
  | wake (src : Nat) (bootSrc : Bool)
  /-- THERMAL_TRIP, R486: The junction reaches 115 °C and hardware enters STANDBY at once. -/
  | thermalTrip
  /-- SENSOR_UPDATE, R488: A sensor class updates its reading, and threshold crossings act under R489. -/
  | sensorUpdate (cls : Nat) (idx : Nat) (v : Word)
  /-- AVS_STEP_REQ_WRITE, R490: A write of PWR_AVS.STEP_REQ sets the target core-supply step, or is refused below STEP_NOW while render runs. -/
  | avsStepReqWrite (m : Master) (v : Word)
  /-- AVS_REGULATOR_STEP, R490: Every 10 µs the regulator moves one step toward STEP_REQ. -/
  | avsRegulatorStep
  /-- PWR_AVS_GUARD, R491: A path-replica canary fails and STEP_REQ rises by one. -/
  | pwrAvsGuard
  /-- OPERATING_HOUR, R492: A whole operating hour passes, PWR_HOURS counts and is written to MRAM. -/
  | operatingHour
  /-- MARGIN_PLANNER_RUN, R493: The margin planner reads sensors, sets the step, re-plans, predicts margin and logs a record. -/
  | marginPlannerRun (gain : Int) (after : Int) (eyes : List (Nat × Nat × Int) := [])
  /-- SVN_COMMIT, R504: A write of SEC_CTL.SVN_COMMIT burns SVN fuse bits up to the running SVN. -/
  | svnCommit (m : Master) (v : Word)
  /-- FUSE_BURN_START, R505: A write of SEC_FUSE_CTL.START starts burning a fuse field, or is refused with ERR. -/
  | fuseBurnStart (m : Master) (v : Word)
  /-- FUSE_BURN_COMPLETE, R505: A fuse burn ends, BUSY clears and any held request acts. -/
  | fuseBurnComplete
  /-- CHALLENGE, R511: A write of DBG_CTL.CHALLENGE draws a new 32-byte nonce. -/
  | challenge (m : Master) (v : Word)
  /-- GO, R511: A write of DBG_CTL.GO starts verification of the debug response. -/
  | go (m : Master) (v : Word)
  /-- DEBUG_VERIFY_COMPLETE, R511: Verification ends: a session opens, or a failure is counted and lockout may set. -/
  | debugVerifyComplete
  /-- DEBUG_SESSION_END, R513: A write of DBG_CTL.END ends the debug session. -/
  | debugSessionEnd (m : Master) (v : Word)
  /-- STORE, R515: A write of SEC_TWIN_KEY_CTL.STORE wraps and stores the twin pairing key, or sets KEY_REJECT. -/
  | store (m : Master) (v : Word)
  /-- BYPASS, R509: TAP instruction BYPASS selects the one-bit bypass register. -/
  | bypass (tdi : List Bool)
  /-- IDCODE, R509: TAP instruction IDCODE selects the identification register. -/
  | idcode (tdi : List Bool)
  /-- SAMPLE_PRELOAD, R509: TAP instruction SAMPLE/PRELOAD captures and preloads the boundary scan. -/
  | samplePreload (tdi : List Bool)
  /-- EXTEST, R509: TAP instruction EXTEST drives the pads from the boundary register. -/
  | extest (tdi : List Bool)
  /-- SEC_AUTH, R509: TAP instruction SEC_AUTH reaches the DBG unit's registers. -/
  | secAuth (off : Nat) (write : Bool) (v : Word)
  /-- DBG_ACCESS, R509: TAP instruction DBG_ACCESS performs a 32-bit read or write of BAR0 or the fabric. -/
  | dbgAccess (a : Nat) (write : Bool) (v : Word) (own : PortOp := .idle)
  /-- SCRIBE_DM, R509: TAP instruction SCRIBE_DM reaches the Scribe debug module. -/
  | scribeDm (acc : Option (Nat × Option Word) := none)
  /-- PANIC_MUTE_WRITE, R181: A write of OUT_CTL.PANIC_MUTE mutes or unmutes every output from the next output group. -/
  | panicMuteWrite (m : Master) (v : Word)
  /-- NIB_PARTITION_WRITE, R149: A direct write of NIB_PARTITION.WIDE stages the partition, or is ignored with PART_REJECT. -/
  | nibPartitionWrite (m : Master) (v : Word)
  /-- SAMPLE_EDGE, R308: At each render-rate sample edge MST increments by 1, the PLL compares the edge with the counter, WCLK_OUT rises in Fs mode, and SLIP ports repeat or drop a frame where no frame or two frames completed. -/
  | sampleEdge (dev : Int)
  /-- TWIN_ALIVE_IN_EDGE, R446: An edge on the partner's TWIN_ALIVE input is timed, and after 4 edges with spacings between 400 and 600 µs the peer's TWIN_ALIVE becomes present again, changing reachability between ISOLATED and ACTIVE. -/
  | twinAliveInEdge (us : Nat)
  /-- PCIE_LINK_UP, R522: After PERST# is released or the link is lost, the PCIe link finishes training, HIF_STATUS.LINK_UP sets, and in a host boot the ROM enters HOST_WAIT. -/
  | pcieLinkUp
  /-- BAR2_WRITE, R519: A whole-word host write through the BAR2 SRAM window is performed on the bank or refused, with writes to the Inkwell counted in NIB_TILE_INK_REJECT_CNT and writes to Commons banks 10 and 11 counted in MEMC_PROTECT_CNT. -/
  | bar2Write (a : Nat) (v : Word) (own : PortOp := .idle) (acc : MemAcc := .write)
  /-- UNDEFINED_ENCODING, R237: A Quill core decodes a bundle whose opcode, zero field or register code is undefined and enters FAULT with CAUSE 5. -/
  | undefinedEncoding (core : Nat)
  /-- USER_URGENCY_RISE, R421: A user DRAM request ages past its port's TARGET, reaches urgency 2, and DDR_URGENT_CNT counts. -/
  | userUrgencyRise (c : Nat) (port : Nat)
  deriving DecidableEq, Repr

end Sys2Proof
end

