-- ==== Sys2Proof/Machine/Bits.lean ====
section
/-! DEFINITION. Bit fields, sign, saturation and rounding helpers (R11), list access, and integer square root. -/

namespace Sys2Proof.Machine

/-- Field [hi:lo] of a word taken as a number. -/
def getF (w hi lo : Nat) : Nat := (w / 2 ^ lo) % 2 ^ (hi - lo + 1)

/-- The word with field [hi:lo] replaced by `v` (taken modulo the field's width). -/
def setF (w hi lo v : Nat) : Nat := w - getF w hi lo * 2 ^ lo + (v % 2 ^ (hi - lo + 1)) * 2 ^ lo

/-- Bit `b` of a number. -/
def bitOf (w b : Nat) : Bool := (w / 2 ^ b) % 2 == 1

/-- 1 for true, 0 for false. -/
def b2n (b : Bool) : Nat := if b then 1 else 0

/-- The signed value of an n-bit number. -/
def sgn (n w : Nat) : Int := if w % 2 ^ n < 2 ^ (n - 1) then ((w % 2 ^ n : Nat) : Int) else ((w % 2 ^ n : Nat) : Int) - ((2 ^ n : Nat) : Int)

/-- A signed value as an n-bit two's-complement number. -/
def uns (n : Nat) (x : Int) : Nat := (x % ((2 ^ n : Nat) : Int)).toNat

/-- R11: saturate to the signed n-bit range. -/
def satS (n : Nat) (x : Int) : Int := Max.max (-((2 ^ (n - 1) : Nat) : Int)) (Min.min x (((2 ^ (n - 1) : Nat) : Int) - 1))

/-- R11: floor of a quotient by a positive number. -/
def fdiv (x : Int) (n : Nat) : Int := x / (n : Int)

/-- A number as a 32-bit word. -/
def toW (n : Nat) : Word := BitVec.ofNat 32 n

/-- A signed number as a 32-bit word. -/
def intW (x : Int) : Word := BitVec.ofInt 32 x

/-- Integer square root by bits: `r` holds the root found so far; `k` bits are left. -/
def isqrtGo (n : Nat) : Nat → Nat → Nat
  | 0, r => r
  | k + 1, r => let c := r + 2 ^ k; if c * c ≤ n then isqrtGo n k c else isqrtGo n k r

/-- R87: the largest integer whose square does not exceed `n`. -/
def isqrt (n : Nat) : Nat := isqrtGo n (n.log2 / 2 + 1) 0

/-- Entry `i` of a list, or `d`. -/
def nth {α : Type} (d : α) (l : List α) (i : Nat) : α := l.getD i d

/-- The list with entry `i` replaced (unchanged beyond its end). -/
def upd {α : Type} (l : List α) (i : Nat) (v : α) : List α := l.set i v

/-- Insert into a strictly rising list of numbers. -/
def insNat : List Nat → Nat → List Nat
  | [], k => [k]
  | i :: m, k => if k < i then k :: i :: m else if k = i then i :: m else i :: insNat m k

/-- Little-endian number of a list of bytes. -/
def leNat : List Byte → Nat
  | [] => 0
  | b :: bs => b.toNat + 256 * leNat bs

/-- Big-endian number of a list of bytes. -/
def beNat (bs : List Byte) : Nat := bs.foldl (fun a b => a * 256 + b.toNat) 0

/-- `n` bytes of a number, little-endian. -/
def leBytes : Nat → Nat → List Byte
  | 0, _ => []
  | n + 1, v => BitVec.ofNat 8 v :: leBytes n (v / 256)

/-- `n` bytes of a number, big-endian. -/
def beBytes (n v : Nat) : List Byte := (leBytes n v).reverse

/-- Bytes `i` to `i + n − 1` of a list. -/
def slice (bs : List Byte) (i n : Nat) : List Byte := (bs.drop i).take n

end Sys2Proof.Machine
end

