-- ==== Sys2Proof/Machine/Bundle.lean ====
section
/-! DEFINITION. The encoding of a Quill bundle (R236, R237, R240, R241, R244, R245): the operation of each slot, or none where
the encoding is undefined; and the encoder of the same tables. -/

namespace Sys2Proof.Machine

/-- R241: the three-register operations by opcode. -/
def aluOf : Nat → Option Alu
  | 0x02 => some .add | 0x03 => some .sub | 0x04 => some .adds | 0x05 => some .subs | 0x06 => some .and | 0x07 => some .or
  | 0x08 => some .xor | 0x09 => some .min | 0x0A => some .max | 0x0B => some .asr | 0x0C => some .lsl | 0x0D => some .lsr
  | _ => none

/-- A guarded operation: undefined unless the zero fields and ranges hold (R237). -/
def when' {α : Type} (b : Bool) (x : α) : Option α := if b then some x else none

/-- R240, R241: the X-slot operation of a 32-bit slot word. -/
def decodeX (w : Nat) : Option XOp :=
  let op := getF w 31 26
  let dd := getF w 25 22
  let ds := getF w 21 18
  let dt := getF w 17 14
  let z := getF w 13 0 == 0
  let imm := BitVec.ofNat 18 (getF w 17 0)
  let k := getF w 17 0
  let acd := getF w 25 24
  let acs := getF w 23 22
  let za := getF w 17 6 == 0
  let sh := getF w 5 0
  if op = 0 then when' (w == 0) .nop
  else if op = 1 then
    let aa := getF w 25 24; let a1 := getF w 23 20; let a2 := getF w 19 16
    let ab := getF w 15 14; let b1 := getF w 13 10; let b2 := getF w 9 6
    let oa := getF w 5 4; let ob := getF w 3 2
    when' (getF w 1 0 == 0 && (oa != 0 || (aa == 0 && a1 == 0 && a2 == 0)) && (ob != 0 || (ab == 0 && b1 == 0 && b2 == 0)))
      (.mac aa a1 a2 ab b1 b2 oa ob)
  else if op = 0x0E then when' (z && dd == 0) (.cmp ds dt)
  else if op = 0x0F then when' (z && dt == 0) (.neg dd ds)
  else if op = 0x10 then when' (z && dt == 0) (.abs dd ds)
  else if op = 0x11 then when' (z && dt == 0) (.not dd ds)
  else if op = 0x12 then some (.addi dd ds imm)
  else if op = 0x13 then when' (dd == 0) (.cmpi ds imm)
  else if op = 0x14 then when' (decide (k < 32)) (.asri dd ds k)
  else if op = 0x15 then when' (decide (k < 32)) (.lsli dd ds k)
  else if op = 0x16 then when' (decide (k < 32)) (.lsri dd ds k)
  else if op = 0x18 then when' (za && acs == 0 && ds == 0 && sh == 0) (.aclr acd)
  else if op = 0x19 then when' (za && ds == 0 && sh == 0) (.acmov acd acs)
  else if op = 0x1A then when' (za && ds == 0 && sh == 0) (.acadd acd acs)
  else if op = 0x1B then when' (za && ds == 0 && sh == 0) (.acsub acd acs)
  else if op = 0x1C then when' (za && acs == 0 && ds == 0) (.acsh acd (BitVec.ofNat 6 sh))
  else if op = 0x1D then when' (za && acs == 0 && sh == 0) (.acld acd ds)
  else if op = 0x1E then when' (za && acs == 0 && ds == 0 && sh == 0) (.acneg acd)
  else match aluOf op with
    | some a => when' z (.alu a dd ds dt)
    | none => none

/-- R244, R245: the Y-slot operation of a 32-bit slot word. -/
def decodeY (w : Nat) : Option YOp :=
  let op := getF w 31 26
  let r := getF w 25 20
  let an := getF w 19 17
  let mm := getF w 16 14
  let pm := bitOf w 13
  let zm := getF w 12 0 == 0
  let ab := getF w 12 0
  let zs := getF w 19 13 == 0 && decide (ab < 0x1008)
  let d := getF w 25 22
  let acn := getF w 21 20
  let p := getF w 19 18
  let za := getF w 17 0 == 0
  let zk := getF w 21 16 == 0
  let imm16 := BitVec.ofNat 16 (getF w 15 0)
  let n := getF w 25 23
  let imm := getF w 22 0
  let pan := getF w 25 23
  let pmm := getF w 22 20
  let zp := getF w 19 0 == 0
  let bit := getF w 25 21
  let v := bitOf w 20
  let zb := getF w 19 5 == 0
  let sc := getF w 4 0
  let c := getF w 25 22
  let zc := getF w 21 12 == 0
  let t := getF w 11 0
  let zn := getF w 25 0 == 0
  match op with
  | 0x00 => when' (w == 0) .nop
  | 0x01 => when' (zm && decide (r < 32)) (.ld r an mm pm)
  | 0x02 => when' (zm && decide (r < 32)) (.st r an mm pm)
  | 0x03 => when' (zm && decide (r < 4)) (.stac r an mm pm)
  | 0x04 => when' (zs && decide (r < 32)) (.lds r ab)
  | 0x05 => when' (zs && decide (r < 32)) (.sts r ab)
  | 0x06 => when' (zs && decide (r < 4)) (.stacs r ab)
  | 0x07 => when' (za && p == 0) (.mvac d acn)
  | 0x08 => when' (getF w 13 0 == 0 && (decide (r < 32) || r == 35 || r == 36) && decide (getF w 19 14 < 38)) (.mov r (getF w 19 14))
  | 0x09 => when' zk (.ldi d imm16)
  | 0x0A => when' zk (.ldih d imm16)
  | 0x0B => when' (za && decide (p < 3)) (.rdac d acn p)
  | 0x0C => some (.lia n (BitVec.ofNat 24 imm))
  | 0x0D => some (.lia n (BitVec.ofNat 24 (2 ^ 23 + imm)))
  | 0x0E => some (.lim n (BitVec.ofNat 23 imm))
  | 0x0F => when' (za && decide (p < 3)) (.wrac d acn p)
  | 0x10 => when' zp (.adda pan pmm)
  | 0x11 => some (.addai n (BitVec.ofNat 23 imm))
  | 0x12 => when' (zp && pmm == 0) (.fold pan)
  | 0x14 => when' (zb && sc == 0 && [31, 8, 5, 4, 3, 2, 1, 0].contains bit) (.setb bit v)
  | 0x15 => when' (zb && bit == 0 && !v) (.sscl (BitVec.ofNat 5 sc))
  | 0x18 => when' (zc && c == 0) (.br t)
  | 0x19 => when' zc (.bcc c t)
  | 0x1A => when' (zc && c == 0) (.call t)
  | 0x1B => when' (zp && pmm == 0) (.bra pan)
  | 0x1C => when' zn .rti
  | 0x1D => when' zc (.loop c t)
  | 0x1E => when' (getF w 25 25 == 0 && decide (getF w 24 12 ≤ 4096)) (.repi (getF w 24 12) t)
  | 0x1F => when' zc (.repd c t)
  | 0x20 => when' zn .wait
  | 0x21 => when' zn .brk
  | _ => none

/-- R236: both slots of a bundle. -/
def decodeBundle (b : Bundle) : Option (XOp × YOp) :=
  match decodeX (b.toNat % 2 ^ 32), decodeY (b.toNat / 2 ^ 32) with
  | some x, some y => some (x, y)
  | _, _ => none

/-- R241: the opcode of a three-register operation. -/
def Alu.code : Alu → Nat
  | .add => 0x02 | .sub => 0x03 | .adds => 0x04 | .subs => 0x05 | .and => 0x06 | .or => 0x07 | .xor => 0x08 | .min => 0x09
  | .max => 0x0A | .asr => 0x0B | .lsl => 0x0C | .lsr => 0x0D

/-- The XR format of R240. -/
def xr (op dd ds dt : Nat) : Nat := op * 2 ^ 26 + dd * 2 ^ 22 + ds * 2 ^ 18 + dt * 2 ^ 14

/-- The XA format of R240. -/
def xa (op acd acs ds sh : Nat) : Nat := op * 2 ^ 26 + acd * 2 ^ 24 + acs * 2 ^ 22 + ds * 2 ^ 18 + sh

/-- R240, R241: the slot word of an X-slot operation. -/
def encodeX : XOp → Nat
  | .nop => 0
  | .mac aca da1 da2 acb db1 db2 opa opb =>
    2 ^ 26 + aca * 2 ^ 24 + da1 * 2 ^ 20 + da2 * 2 ^ 16 + acb * 2 ^ 14 + db1 * 2 ^ 10 + db2 * 2 ^ 6 + opa * 2 ^ 4 + opb * 2 ^ 2
  | .alu a dd ds dt => xr (Alu.code a) dd ds dt
  | .cmp ds dt => xr 0x0E 0 ds dt
  | .neg dd ds => xr 0x0F dd ds 0
  | .abs dd ds => xr 0x10 dd ds 0
  | .not dd ds => xr 0x11 dd ds 0
  | .addi dd ds imm => xr 0x12 dd ds 0 + imm.toNat
  | .cmpi ds imm => xr 0x13 0 ds 0 + imm.toNat
  | .asri dd ds k => xr 0x14 dd ds 0 + k
  | .lsli dd ds k => xr 0x15 dd ds 0 + k
  | .lsri dd ds k => xr 0x16 dd ds 0 + k
  | .aclr d => xa 0x18 d 0 0 0
  | .acmov d s => xa 0x19 d s 0 0
  | .acadd d s => xa 0x1A d s 0 0
  | .acsub d s => xa 0x1B d s 0 0
  | .acsh d sh => xa 0x1C d 0 0 sh.toNat
  | .acld d ds => xa 0x1D d 0 ds 0
  | .acneg d => xa 0x1E d 0 0 0

/-- The YM format of R244. -/
def ym (op r an mm : Nat) (pm : Bool) : Nat := op * 2 ^ 26 + r * 2 ^ 20 + an * 2 ^ 17 + mm * 2 ^ 14 + b2n pm * 2 ^ 13

/-- The YA, YK and YC formats share their first field (R244). -/
def y22 (op d rest : Nat) : Nat := op * 2 ^ 26 + d * 2 ^ 22 + rest

/-- The YW, YP formats share their first field (R244). -/
def y23 (op n rest : Nat) : Nat := op * 2 ^ 26 + n * 2 ^ 23 + rest

/-- R244, R245: the slot word of a Y-slot operation. -/
def encodeY : YOp → Nat
  | .nop => 0
  | .ld r an mm pm => ym 0x01 r an mm pm
  | .st r an mm pm => ym 0x02 r an mm pm
  | .stac ac an mm pm => ym 0x03 ac an mm pm
  | .lds r a => 0x04 * 2 ^ 26 + r * 2 ^ 20 + a
  | .sts r a => 0x05 * 2 ^ 26 + r * 2 ^ 20 + a
  | .stacs ac a => 0x06 * 2 ^ 26 + ac * 2 ^ 20 + a
  | .mvac d ac => y22 0x07 d (ac * 2 ^ 20)
  | .mov dst src => 0x08 * 2 ^ 26 + dst * 2 ^ 20 + src * 2 ^ 14
  | .ldi d imm => y22 0x09 d imm.toNat
  | .ldih d imm => y22 0x0A d imm.toNat
  | .rdac d ac p => y22 0x0B d (ac * 2 ^ 20 + p * 2 ^ 18)
  | .lia an imm => y23 (if imm.toNat < 2 ^ 23 then 0x0C else 0x0D) an (imm.toNat % 2 ^ 23)
  | .lim mn imm => y23 0x0E mn imm.toNat
  | .wrac d ac p => y22 0x0F d (ac * 2 ^ 20 + p * 2 ^ 18)
  | .adda an mm => y23 0x10 an (mm * 2 ^ 20)
  | .addai an imm => y23 0x11 an imm.toNat
  | .fold an => y23 0x12 an 0
  | .setb bit v => 0x14 * 2 ^ 26 + bit * 2 ^ 21 + b2n v * 2 ^ 20
  | .sscl sc => 0x15 * 2 ^ 26 + sc.toNat
  | .br t => y22 0x18 0 t
  | .bcc c t => y22 0x19 c t
  | .call t => y22 0x1A 0 t
  | .bra an => y23 0x1B an 0
  | .rti => 0x1C * 2 ^ 26
  | .loop d t => y22 0x1D d t
  | .repi count t => 0x1E * 2 ^ 26 + count * 2 ^ 12 + t
  | .repd d t => y22 0x1F d t
  | .wait => 0x20 * 2 ^ 26
  | .brk => 0x21 * 2 ^ 26

/-- R236: the 64-bit word of a bundle. -/
def encodeBundle (x : XOp) (y : YOp) : Bundle := BitVec.ofNat 64 (encodeX x + encodeY y * 2 ^ 32)

end Sys2Proof.Machine
end

