-- ==== Sys2Proof/Machine/RegNames.lean ====
section
/-! DEFINITION. The BAR0 offsets of every register, by the spec's own names (R559 unit bases plus the offsets of each
chapter's register tables). A register that has instances takes the instance indices, outermost first. -/

namespace Sys2Proof.Machine.Reg

/-- R566. -/ abbrev GLB_ID : Nat := 0x0
/-- R566. -/ abbrev GLB_FW_VER : Nat := 0x4
/-- R566. -/ abbrev GLB_MAP_VER : Nat := 0x8
/-- R566. -/ abbrev GLB_STATUS : Nat := 0xC
/-- R2. -/ abbrev GLB_CAP0 : Nat := 0x10
/-- R2. -/ abbrev GLB_CAP1 : Nat := 0x14
/-- R2. -/ abbrev GLB_CAP2 : Nat := 0x18
/-- R2. -/ abbrev GLB_CAP3 : Nat := 0x1C
/-- R46. -/ abbrev GLB_BN_LO : Nat := 0x40
/-- R46. -/ abbrev GLB_BN_HI : Nat := 0x44
/-- R46. -/ abbrev GLB_RENDER_CFG : Nat := 0x48
/-- R46. -/ abbrev GLB_OVERRUN : Nat := 0x4C
/-- R46. -/ abbrev GLB_OVERRUN_CNT : Nat := 0x50
/-- R46. -/ abbrev GLB_BN_SKEW_CNT : Nat := 0x54
/-- R47. -/ abbrev GLB_FINISH_RULE : Nat := 0x60
/-- R47. -/ abbrev GLB_FINISH_QUILL : Nat := 0x64
/-- R47. -/ abbrev GLB_FINISH_NIB : Nat := 0x68
/-- R47. -/ abbrev GLB_FINISH_OUT : Nat := 0x6C
/-- R203. -/ abbrev GLB_COMMIT_EPOCH_LO : Nat := 0x80
/-- R203. -/ abbrev GLB_COMMIT_EPOCH_HI : Nat := 0x84
/-- R203. -/ abbrev GLB_COMMIT_STATUS : Nat := 0x88
/-- R203. -/ abbrev GLB_COMMIT_ABANDON : Nat := 0x8C
/-- R203. -/ abbrev GLB_COMMIT_NEXT_LO : Nat := 0x90
/-- R203. -/ abbrev GLB_COMMIT_NEXT_HI : Nat := 0x94
/-- R203. -/ abbrev GLB_COMMIT_WAIT : Nat := 0x98
/-- R203. -/ abbrev GLB_COMMIT_LAST_LO : Nat := 0xA0
/-- R203. -/ abbrev GLB_COMMIT_LAST_HI : Nat := 0xA4
/-- R203. -/ abbrev GLB_COMMIT_APPLY_CNT : Nat := 0xA8
/-- R203. -/ abbrev GLB_COMMIT_DEFER_CNT : Nat := 0xAC
/-- R203. -/ abbrev GLB_COMMIT_FAIL_CNT : Nat := 0xB0
/-- R203. -/ abbrev GLB_COMMIT_FAIL_LO : Nat := 0xB8
/-- R203. -/ abbrev GLB_COMMIT_FAIL_HI : Nat := 0xBC
/-- R542. -/ abbrev HIF_STATUS : Nat := 0x10000
/-- R542. -/ abbrev HIF_BOOT : Nat := 0x10004
/-- R542. -/ abbrev HIF_BOOT_DOORBELL : Nat := 0x10008
/-- R542. -/ abbrev HIF_DRAM_WIN : Nat := 0x10010
/-- R542. -/ abbrev HIF_ABORT : Nat := 0x10018
/-- R542. -/ abbrev HIF_DMA_STATUS (i : Nat) : Nat := 0x10020 + 0x4 * i
/-- R542. -/ abbrev HIF_BAD_ACCESS_LAST : Nat := 0x10030
/-- R543. -/ abbrev HIF_BAD_ACCESS_CNT : Nat := 0x10100
/-- R543. -/ abbrev HIF_CMD_CNT : Nat := 0x10104
/-- R543. -/ abbrev HIF_CMD_ERR_CNT : Nat := 0x10108
/-- R543. -/ abbrev HIF_LINK_DOWN_CNT : Nat := 0x1010C
/-- R523. -/ abbrev HIF_MSIX_ADDR_LO (i : Nat) : Nat := 0x18000 + 0x10 * i
/-- R523. -/ abbrev HIF_MSIX_ADDR_HI (i : Nat) : Nat := 0x18004 + 0x10 * i
/-- R523. -/ abbrev HIF_MSIX_DATA (i : Nat) : Nat := 0x18008 + 0x10 * i
/-- R523. -/ abbrev HIF_MSIX_CTRL (i : Nat) : Nat := 0x1800C + 0x10 * i
/-- R523. -/ abbrev HIF_MSIX_PBA_LO : Nat := 0x19000
/-- R523. -/ abbrev HIF_MSIX_PBA_HI : Nat := 0x19004
/-- R516. -/ abbrev SEC_STATUS : Nat := 0x20000
/-- R516. -/ abbrev SEC_UID_LO : Nat := 0x20008
/-- R516. -/ abbrev SEC_UID_HI : Nat := 0x2000C
/-- R516. -/ abbrev SEC_LAST_FAIL : Nat := 0x20010
/-- R516. -/ abbrev SEC_FAIL_CNT : Nat := 0x20014
/-- R516. -/ abbrev SEC_CTL : Nat := 0x20020
/-- R516. -/ abbrev SEC_FUSE_CTL : Nat := 0x20030
/-- R516. -/ abbrev SEC_FUSE_DATA (i : Nat) : Nat := 0x20040 + 0x4 * i
/-- R516. -/ abbrev SEC_TWIN_KEY (i : Nat) : Nat := 0x20080 + 0x4 * i
/-- R516. -/ abbrev SEC_TWIN_KEY_CTL : Nat := 0x20090
/-- R516. -/ abbrev SEC_ROOT_HASH (i j : Nat) : Nat := 0x20100 + 0x40 * i + 0x4 * j
/-- R497. -/ abbrev PWR_CTL : Nat := 0x30000
/-- R497. -/ abbrev PWR_STATUS : Nat := 0x30004
/-- R497. -/ abbrev PWR_FEED (i : Nat) : Nat := 0x30010 + 0x4 * i
/-- R497. -/ abbrev PWR_FEED_THR : Nat := 0x30018
/-- R497. -/ abbrev PWR_POWER : Nat := 0x3001C
/-- R497. -/ abbrev PWR_CLK : Nat := 0x30020
/-- R497. -/ abbrev PWR_AVS : Nat := 0x30030
/-- R497. -/ abbrev PWR_WAKE_EN : Nat := 0x30040
/-- R497. -/ abbrev PWR_WAKE_TIMER : Nat := 0x30044
/-- R497. -/ abbrev PWR_HOURS : Nat := 0x30048
/-- R497. -/ abbrev PWR_THERM : Nat := 0x30050
/-- R497. -/ abbrev PWR_TEMP_MAX : Nat := 0x30054
/-- R497. -/ abbrev PWR_SENS_IDX : Nat := 0x30060
/-- R497. -/ abbrev PWR_SENS_DATA : Nat := 0x30064
/-- R497. -/ abbrev PWR_MARGIN : Nat := 0x30070
/-- R497. -/ abbrev PWR_MARGIN_WARN : Nat := 0x30074
/-- R497. -/ abbrev PWR_SCRATCH (i : Nat) : Nat := 0x30080 + 0x4 * i
/-- R498. -/ abbrev PWR_FEED_LOSS_CNT : Nat := 0x30100
/-- R498. -/ abbrev PWR_AVS_GUARD_CNT : Nat := 0x30104
/-- R498. -/ abbrev PWR_THERM_CRIT_CNT : Nat := 0x30108
/-- R498. -/ abbrev PWR_WAKE_CNT : Nat := 0x3010C
/-- R324. -/ abbrev CLK_MEDIA_CTL : Nat := 0x40000
/-- R324. -/ abbrev CLK_MEDIA_STATUS : Nat := 0x40004
/-- R324. -/ abbrev CLK_PHASE_ERR : Nat := 0x40008
/-- R324. -/ abbrev CLK_MEDIA_PPB : Nat := 0x4000C
/-- R324. -/ abbrev CLK_MST_LO : Nat := 0x40010
/-- R324. -/ abbrev CLK_MST_HI : Nat := 0x40014
/-- R324. -/ abbrev CLK_WCLK_OUT : Nat := 0x40020
/-- R324. -/ abbrev CLK_WCLK_IN_RATE_LO : Nat := 0x40024
/-- R324. -/ abbrev CLK_WCLK_IN_RATE_HI : Nat := 0x40028
/-- R324. -/ abbrev CLK_WCLK_IN_PHASE : Nat := 0x4002C
/-- R322. -/ abbrev TIME_CTL : Nat := 0x50000
/-- R322. -/ abbrev TIME_STATUS : Nat := 0x50004
/-- R323. -/ abbrev TIME_NOW_SUB : Nat := 0x50010
/-- R323. -/ abbrev TIME_NOW_NS : Nat := 0x50014
/-- R323. -/ abbrev TIME_NOW_SEC_LO : Nat := 0x50018
/-- R323. -/ abbrev TIME_NOW_SEC_HI : Nat := 0x5001C
/-- R323. -/ abbrev TIME_FREQ : Nat := 0x50020
/-- R323. -/ abbrev TIME_OFS_LO : Nat := 0x50028
/-- R323. -/ abbrev TIME_OFS_HI : Nat := 0x5002C
/-- R323. -/ abbrev TIME_STEP_THR : Nat := 0x50030
/-- R323. -/ abbrev TIME_SYNC_TIMEOUT : Nat := 0x50034
/-- R323. -/ abbrev TIME_GM_ID_LO : Nat := 0x50038
/-- R323. -/ abbrev TIME_GM_ID_HI : Nat := 0x5003C
/-- R323. -/ abbrev TIME_MEDIA_OFS_LO : Nat := 0x50040
/-- R323. -/ abbrev TIME_MEDIA_OFS_HI : Nat := 0x50044
/-- R323. -/ abbrev TIME_MEDIA_REQ_LO : Nat := 0x50048
/-- R323. -/ abbrev TIME_MEDIA_REQ_HI : Nat := 0x5004C
/-- R323. -/ abbrev TIME_STEP_CNT : Nat := 0x50060
/-- R323. -/ abbrev TIME_HOLD_CNT : Nat := 0x50064
/-- R323. -/ abbrev TIME_ANCHOR_RETRY_CNT : Nat := 0x50068
/-- R323. -/ abbrev TIME_PPSIN_OVW_CNT : Nat := 0x5006C
/-- R323. -/ abbrev TIME_PPS_CTL : Nat := 0x50070
/-- R323. -/ abbrev TIME_PPSIN_SUB : Nat := 0x50080
/-- R323. -/ abbrev TIME_PPSIN_NS : Nat := 0x50084
/-- R323. -/ abbrev TIME_PPSIN_SEC_LO : Nat := 0x50088
/-- R323. -/ abbrev TIME_PPSIN_SEC_HI : Nat := 0x5008C
/-- R323. -/ abbrev TIME_LAT (i j : Nat) : Nat := 0x50200 + 0x20 * i + 0x8 * j
/-- R323. -/ abbrev TIME_TXTS_ID (i : Nat) : Nat := 0x50400 + 0x10 * i
/-- R323. -/ abbrev TIME_TXTS_NS (i : Nat) : Nat := 0x50404 + 0x10 * i
/-- R323. -/ abbrev TIME_TXTS_SEC_LO (i : Nat) : Nat := 0x50408 + 0x10 * i
/-- R323. -/ abbrev TIME_TXTS_SEC_HI (i : Nat) : Nat := 0x5040C + 0x10 * i
/-- R323. -/ abbrev TIME_TS_OVF_CNT (i : Nat) : Nat := 0x50600 + 0x4 * i
/-- R344. -/ abbrev NET_CTL (i : Nat) : Nat := 0x80000 + 0x4000 * i
/-- R344. -/ abbrev NET_STATUS (i : Nat) : Nat := 0x80004 + 0x4000 * i
/-- R344. -/ abbrev NET_MAX_LEN (i : Nat) : Nat := 0x80008 + 0x4000 * i
/-- R344. -/ abbrev NET_MAC_LO (i : Nat) : Nat := 0x80010 + 0x4000 * i
/-- R344. -/ abbrev NET_MAC_HI (i : Nat) : Nat := 0x80014 + 0x4000 * i
/-- R344. -/ abbrev NET_MCAST_HASH_LO (i : Nat) : Nat := 0x80018 + 0x4000 * i
/-- R344. -/ abbrev NET_MCAST_HASH_HI (i : Nat) : Nat := 0x8001C + 0x4000 * i
/-- R344. -/ abbrev NET_PAUSE_CFG (i : Nat) : Nat := 0x80020 + 0x4000 * i
/-- R344. -/ abbrev NET_PREEMPT (i : Nat) : Nat := 0x80024 + 0x4000 * i
/-- R344. -/ abbrev NET_CBS_SLOPE (i j : Nat) : Nat := 0x80030 + 0x4000 * i + 0x4 * j
/-- R344. -/ abbrev NET_RX_RING_BASE_LO (i j : Nat) : Nat := 0x80100 + 0x4000 * i + 0x40 * j
/-- R344. -/ abbrev NET_RX_RING_BASE_HI (i j : Nat) : Nat := 0x80104 + 0x4000 * i + 0x40 * j
/-- R344. -/ abbrev NET_RX_RING_SIZE (i j : Nat) : Nat := 0x80108 + 0x4000 * i + 0x40 * j
/-- R344. -/ abbrev NET_RX_BUF_SIZE (i j : Nat) : Nat := 0x8010C + 0x4000 * i + 0x40 * j
/-- R344. -/ abbrev NET_RX_RING_HEAD (i j : Nat) : Nat := 0x80110 + 0x4000 * i + 0x40 * j
/-- R344. -/ abbrev NET_RX_RING_TAIL (i j : Nat) : Nat := 0x80114 + 0x4000 * i + 0x40 * j
/-- R344. -/ abbrev NET_TX_RING_BASE_LO (i j : Nat) : Nat := 0x80200 + 0x4000 * i + 0x40 * j
/-- R344. -/ abbrev NET_TX_RING_BASE_HI (i j : Nat) : Nat := 0x80204 + 0x4000 * i + 0x40 * j
/-- R344. -/ abbrev NET_TX_RING_SIZE (i j : Nat) : Nat := 0x80208 + 0x4000 * i + 0x40 * j
/-- R344. -/ abbrev NET_TX_RING_HEAD (i j : Nat) : Nat := 0x80210 + 0x4000 * i + 0x40 * j
/-- R344. -/ abbrev NET_TX_RING_TAIL (i j : Nat) : Nat := 0x80214 + 0x4000 * i + 0x40 * j
/-- R344. -/ abbrev NET_RX_OK_CNT (i : Nat) : Nat := 0x80400 + 0x4000 * i
/-- R344. -/ abbrev NET_RX_RUNT_CNT (i : Nat) : Nat := 0x80404 + 0x4000 * i
/-- R344. -/ abbrev NET_RX_OVERSIZE_CNT (i : Nat) : Nat := 0x80408 + 0x4000 * i
/-- R344. -/ abbrev NET_RX_FCS_CNT (i : Nat) : Nat := 0x8040C + 0x4000 * i
/-- R344. -/ abbrev NET_RX_REASM_CNT (i : Nat) : Nat := 0x80410 + 0x4000 * i
/-- R344. -/ abbrev NET_RX_FILTER_CNT (i : Nat) : Nat := 0x80414 + 0x4000 * i
/-- R344. -/ abbrev NET_RX_NOBUF_CNT (i : Nat) : Nat := 0x80418 + 0x4000 * i
/-- R344. -/ abbrev NET_RX_PAUSE_CNT (i : Nat) : Nat := 0x8041C + 0x4000 * i
/-- R344. -/ abbrev NET_RX_PAUSE_IGN_CNT (i : Nat) : Nat := 0x80420 + 0x4000 * i
/-- R344. -/ abbrev NET_PAUSE_WD_CNT (i : Nat) : Nat := 0x80424 + 0x4000 * i
/-- R344. -/ abbrev NET_TX_OK_CNT (i : Nat) : Nat := 0x80428 + 0x4000 * i
/-- R344. -/ abbrev NET_TX_LEN_CNT (i : Nat) : Nat := 0x8042C + 0x4000 * i
/-- R344. -/ abbrev NET_TX_FRAG_CNT (i : Nat) : Nat := 0x80430 + 0x4000 * i
/-- R344. -/ abbrev NET_LINK_CNT (i : Nat) : Nat := 0x80434 + 0x4000 * i
/-- R344. -/ abbrev NET_RX_OCTETS_LO (i : Nat) : Nat := 0x80440 + 0x4000 * i
/-- R344. -/ abbrev NET_RX_OCTETS_HI (i : Nat) : Nat := 0x80444 + 0x4000 * i
/-- R344. -/ abbrev NET_TX_OCTETS_LO (i : Nat) : Nat := 0x80448 + 0x4000 * i
/-- R344. -/ abbrev NET_TX_OCTETS_HI (i : Nat) : Nat := 0x8044C + 0x4000 * i
/-- R344. -/ abbrev MGMT_CTL : Nat := 0xC0000
/-- R344. -/ abbrev MGMT_STATUS : Nat := 0xC0004
/-- R344. -/ abbrev MGMT_MAX_LEN : Nat := 0xC0008
/-- R344. -/ abbrev MGMT_MAC_LO : Nat := 0xC0010
/-- R344. -/ abbrev MGMT_MAC_HI : Nat := 0xC0014
/-- R344. -/ abbrev MGMT_MCAST_HASH_LO : Nat := 0xC0018
/-- R344. -/ abbrev MGMT_MCAST_HASH_HI : Nat := 0xC001C
/-- R344. -/ abbrev MGMT_PAUSE_CFG : Nat := 0xC0020
/-- R345. -/ abbrev MGMT_MDIO : Nat := 0xC0040
/-- R344. -/ abbrev MGMT_RX_RING_BASE_LO (i : Nat) : Nat := 0xC0100 + 0x40 * i
/-- R344. -/ abbrev MGMT_RX_RING_BASE_HI (i : Nat) : Nat := 0xC0104 + 0x40 * i
/-- R344. -/ abbrev MGMT_RX_RING_SIZE (i : Nat) : Nat := 0xC0108 + 0x40 * i
/-- R344. -/ abbrev MGMT_RX_BUF_SIZE (i : Nat) : Nat := 0xC010C + 0x40 * i
/-- R344. -/ abbrev MGMT_RX_RING_HEAD (i : Nat) : Nat := 0xC0110 + 0x40 * i
/-- R344. -/ abbrev MGMT_RX_RING_TAIL (i : Nat) : Nat := 0xC0114 + 0x40 * i
/-- R344. -/ abbrev MGMT_TX_RING_BASE_LO (i : Nat) : Nat := 0xC0200 + 0x40 * i
/-- R344. -/ abbrev MGMT_TX_RING_BASE_HI (i : Nat) : Nat := 0xC0204 + 0x40 * i
/-- R344. -/ abbrev MGMT_TX_RING_SIZE (i : Nat) : Nat := 0xC0208 + 0x40 * i
/-- R344. -/ abbrev MGMT_TX_RING_HEAD (i : Nat) : Nat := 0xC0210 + 0x40 * i
/-- R344. -/ abbrev MGMT_TX_RING_TAIL (i : Nat) : Nat := 0xC0214 + 0x40 * i
/-- R344. -/ abbrev MGMT_RX_OK_CNT : Nat := 0xC0400
/-- R344. -/ abbrev MGMT_RX_RUNT_CNT : Nat := 0xC0404
/-- R344. -/ abbrev MGMT_RX_OVERSIZE_CNT : Nat := 0xC0408
/-- R344. -/ abbrev MGMT_RX_FCS_CNT : Nat := 0xC040C
/-- R344. -/ abbrev MGMT_RX_REASM_CNT : Nat := 0xC0410
/-- R344. -/ abbrev MGMT_RX_FILTER_CNT : Nat := 0xC0414
/-- R344. -/ abbrev MGMT_RX_NOBUF_CNT : Nat := 0xC0418
/-- R344. -/ abbrev MGMT_RX_PAUSE_CNT : Nat := 0xC041C
/-- R344. -/ abbrev MGMT_RX_PAUSE_IGN_CNT : Nat := 0xC0420
/-- R344. -/ abbrev MGMT_PAUSE_WD_CNT : Nat := 0xC0424
/-- R344. -/ abbrev MGMT_TX_OK_CNT : Nat := 0xC0428
/-- R344. -/ abbrev MGMT_TX_LEN_CNT : Nat := 0xC042C
/-- R344. -/ abbrev MGMT_TX_FRAG_CNT : Nat := 0xC0430
/-- R344. -/ abbrev MGMT_LINK_CNT : Nat := 0xC0434
/-- R344. -/ abbrev MGMT_RX_OCTETS_LO : Nat := 0xC0440
/-- R344. -/ abbrev MGMT_RX_OCTETS_HI : Nat := 0xC0444
/-- R344. -/ abbrev MGMT_TX_OCTETS_LO : Nat := 0xC0448
/-- R344. -/ abbrev MGMT_TX_OCTETS_HI : Nat := 0xC044C
/-- R365. -/ abbrev STRM_STATUS : Nat := 0xD0000
/-- R365. -/ abbrev STRM_SPILL_BASE_LO : Nat := 0xD0008
/-- R365. -/ abbrev STRM_SPILL_BASE_HI : Nat := 0xD000C
/-- R365. -/ abbrev STRM_SSRC_BASE : Nat := 0xD0010
/-- R365. -/ abbrev STRM_PORT_IP (i : Nat) : Nat := 0xD0100 + 0x8 * i
/-- R365. -/ abbrev STRM_PORT_QOS (i : Nat) : Nat := 0xD0104 + 0x8 * i
/-- R365. -/ abbrev STRM_GROUP_CTL (i : Nat) : Nat := 0xD0400 + 0x10 * i
/-- R365. -/ abbrev STRM_GROUP_STATUS (i : Nat) : Nat := 0xD0404 + 0x10 * i
/-- R365. -/ abbrev STRM_GROUP_OPEN_CNT (i : Nat) : Nat := 0xD0408 + 0x10 * i
/-- R367. -/ abbrev STRM_TX_STATUS (i : Nat) : Nat := 0xD4000 + 0x10 * i
/-- R367. -/ abbrev STRM_TX_PKT_CNT (i : Nat) : Nat := 0xD4004 + 0x10 * i
/-- R367. -/ abbrev STRM_TX_DROP_CNT (i : Nat) : Nat := 0xD4008 + 0x10 * i
/-- R367. -/ abbrev STRM_RX_STATUS (i : Nat) : Nat := 0xD8000 + 0x20 * i
/-- R367. -/ abbrev STRM_RX_MISS_CNT (i : Nat) : Nat := 0xD8004 + 0x20 * i
/-- R367. -/ abbrev STRM_RX_LATE_CNT (i : Nat) : Nat := 0xD8008 + 0x20 * i
/-- R367. -/ abbrev STRM_RX_EARLY_CNT (i : Nat) : Nat := 0xD800C + 0x20 * i
/-- R367. -/ abbrev STRM_RX_DUP_CNT (i : Nat) : Nat := 0xD8010 + 0x20 * i
/-- R367. -/ abbrev STRM_RX_BAD_CNT (i : Nat) : Nat := 0xD8014 + 0x20 * i
/-- R367. -/ abbrev STRM_RX_SEQ_PRI_CNT (i : Nat) : Nat := 0xD8018 + 0x20 * i
/-- R367. -/ abbrev STRM_RX_SEQ_SEC_CNT (i : Nat) : Nat := 0xD801C + 0x20 * i
/-- R366. -/ abbrev STRM_RX_CTL (i : Nat) : Nat := 0xE0000 + 0x20 * i
/-- R366. -/ abbrev STRM_RX_BUF (i : Nat) : Nat := 0xE0004 + 0x20 * i
/-- R366. -/ abbrev STRM_RX_WIN (i : Nat) : Nat := 0xE0008 + 0x20 * i
/-- R366. -/ abbrev STRM_RX_ID_LO (i : Nat) : Nat := 0xE000C + 0x20 * i
/-- R366. -/ abbrev STRM_RX_ID_HI (i : Nat) : Nat := 0xE0010 + 0x20 * i
/-- R366. -/ abbrev STRM_RX_RTP_OFS (i : Nat) : Nat := 0xE0014 + 0x20 * i
/-- R366. -/ abbrev STRM_RX_SEC_IP (i : Nat) : Nat := 0xE0018 + 0x20 * i
/-- R366. -/ abbrev STRM_RX_SPILL (i : Nat) : Nat := 0xE001C + 0x20 * i
/-- R366. -/ abbrev STRM_TX_CTL (i : Nat) : Nat := 0xF0000 + 0x20 * i
/-- R366. -/ abbrev STRM_TX_PKT (i : Nat) : Nat := 0xF0004 + 0x20 * i
/-- R366. -/ abbrev STRM_TX_MAC_LO (i : Nat) : Nat := 0xF0008 + 0x20 * i
/-- R366. -/ abbrev STRM_TX_MAC_HI (i : Nat) : Nat := 0xF000C + 0x20 * i
/-- R366. -/ abbrev STRM_TX_ID_LO (i : Nat) : Nat := 0xF0010 + 0x20 * i
/-- R366. -/ abbrev STRM_TX_ID_HI (i : Nat) : Nat := 0xF0014 + 0x20 * i
/-- R366. -/ abbrev STRM_TX_RTP_OFS (i : Nat) : Nat := 0xF0018 + 0x20 * i
/-- R366. -/ abbrev STRM_TX_SEC_IP (i : Nat) : Nat := 0xF001C + 0x20 * i
/-- R385. -/ abbrev TDM_CTL (i : Nat) : Nat := 0x100000 + 0x800 * i
/-- R385. -/ abbrev TDM_STATUS (i : Nat) : Nat := 0x100004 + 0x800 * i
/-- R385. -/ abbrev TDM_RX_MASK (i : Nat) : Nat := 0x100008 + 0x800 * i
/-- R385. -/ abbrev TDM_TX_MASK (i : Nat) : Nat := 0x10000C + 0x800 * i
/-- R385. -/ abbrev TDM_RX_RING (i : Nat) : Nat := 0x100010 + 0x800 * i
/-- R385. -/ abbrev TDM_TX_RING (i : Nat) : Nat := 0x100014 + 0x800 * i
/-- R385. -/ abbrev TDM_RS (i : Nat) : Nat := 0x100018 + 0x800 * i
/-- R385. -/ abbrev TDM_RATE_LO (i : Nat) : Nat := 0x100020 + 0x800 * i
/-- R385. -/ abbrev TDM_RATE_HI (i : Nat) : Nat := 0x100024 + 0x800 * i
/-- R385. -/ abbrev TDM_RATE_THR (i : Nat) : Nat := 0x100028 + 0x800 * i
/-- R385. -/ abbrev TDM_SYNC_TOL (i : Nat) : Nat := 0x10002C + 0x800 * i
/-- R385. -/ abbrev TDM_PHASE (i : Nat) : Nat := 0x100030 + 0x800 * i
/-- R385. -/ abbrev TDM_SLIP_REP_CNT (i : Nat) : Nat := 0x100040 + 0x800 * i
/-- R385. -/ abbrev TDM_SLIP_DROP_CNT (i : Nat) : Nat := 0x100044 + 0x800 * i
/-- R385. -/ abbrev TDM_FRAME_ERR_CNT (i : Nat) : Nat := 0x100048 + 0x800 * i
/-- R385. -/ abbrev TDM_SYNC_FAULT_CNT (i : Nat) : Nat := 0x10004C + 0x800 * i
/-- R411. -/ abbrev COND_OUT_RING : Nat := 0x120000
/-- R411. -/ abbrev COND_DS_CLK : Nat := 0x120004
/-- R411. -/ abbrev COND_SYNC_DEC : Nat := 0x120008
/-- R411. -/ abbrev COND_SYNC_RS_LO : Nat := 0x12000C
/-- R411. -/ abbrev COND_SYNC_RS_HI : Nat := 0x120010
/-- R411. -/ abbrev COND_GUARD_LO : Nat := 0x120020
/-- R411. -/ abbrev COND_GUARD_HI : Nat := 0x120024
/-- R411. -/ abbrev COND_FIR_IDX : Nat := 0x120030
/-- R411. -/ abbrev COND_FIR_DATA : Nat := 0x120034
/-- R411. -/ abbrev COND_WT_IDX : Nat := 0x120038
/-- R411. -/ abbrev COND_WT_DATA : Nat := 0x12003C
/-- R411. -/ abbrev COND_DEC_CTL (i : Nat) : Nat := 0x120100 + 0x10 * i
/-- R411. -/ abbrev COND_DEC_STATUS (i : Nat) : Nat := 0x120104 + 0x10 * i
/-- R411. -/ abbrev COND_RS_CTL (i : Nat) : Nat := 0x120400 + 0x20 * i
/-- R411. -/ abbrev COND_RS_RATIO_LO (i : Nat) : Nat := 0x120404 + 0x20 * i
/-- R411. -/ abbrev COND_RS_RATIO_HI (i : Nat) : Nat := 0x120408 + 0x20 * i
/-- R411. -/ abbrev COND_RS_NOW_LO (i : Nat) : Nat := 0x12040C + 0x20 * i
/-- R411. -/ abbrev COND_RS_NOW_HI (i : Nat) : Nat := 0x120410 + 0x20 * i
/-- R411. -/ abbrev COND_RS_STATUS (i : Nat) : Nat := 0x120414 + 0x20 * i
/-- R411. -/ abbrev COND_RS_SLIP_CNT (i : Nat) : Nat := 0x120418 + 0x20 * i
/-- R411. -/ abbrev COND_DET_CTL (i : Nat) : Nat := 0x121000 + 0x40 * i
/-- R411. -/ abbrev COND_DET_THR (i : Nat) : Nat := 0x121004 + 0x40 * i
/-- R411. -/ abbrev COND_DET_CAL (i : Nat) : Nat := 0x121008 + 0x40 * i
/-- R411. -/ abbrev COND_DET_ZONES_LO (i : Nat) : Nat := 0x12100C + 0x40 * i
/-- R411. -/ abbrev COND_DET_ZONES_HI (i : Nat) : Nat := 0x121010 + 0x40 * i
/-- R411. -/ abbrev COND_DET_REPORT (i : Nat) : Nat := 0x121014 + 0x40 * i
/-- R411. -/ abbrev COND_DET_LEVEL (i : Nat) : Nat := 0x121018 + 0x40 * i
/-- R411. -/ abbrev COND_DET_MAX (i : Nat) : Nat := 0x12101C + 0x40 * i
/-- R411. -/ abbrev COND_DET_UP_CNT (i : Nat) : Nat := 0x121020 + 0x40 * i
/-- R296. -/ abbrev QUEUE_CFG (i : Nat) : Nat := 0x140000 + 0x40 * i
/-- R296. -/ abbrev QUEUE_BASE (i : Nat) : Nat := 0x140004 + 0x40 * i
/-- R296. -/ abbrev QUEUE_WM (i : Nat) : Nat := 0x140008 + 0x40 * i
/-- R296. -/ abbrev QUEUE_STATUS (i : Nat) : Nat := 0x14000C + 0x40 * i
/-- R296. -/ abbrev QUEUE_WM_CNT (i : Nat) : Nat := 0x140010 + 0x40 * i
/-- R296. -/ abbrev QUEUE_GAP_CNT (i : Nat) : Nat := 0x140014 + 0x40 * i
/-- R296. -/ abbrev QUEUE_PARITY_CNT (i : Nat) : Nat := 0x140018 + 0x40 * i
/-- R296. -/ abbrev QUEUE_DENY_CNT (i : Nat) : Nat := 0x14001C + 0x40 * i
/-- R296. -/ abbrev QUEUE_PUSH_LO (i : Nat) : Nat := 0x140020 + 0x40 * i
/-- R296. -/ abbrev QUEUE_PUSH_HI (i : Nat) : Nat := 0x140024 + 0x40 * i
/-- R296. -/ abbrev QUEUE_POP_LO (i : Nat) : Nat := 0x140028 + 0x40 * i
/-- R296. -/ abbrev QUEUE_POP_HI (i : Nat) : Nat := 0x14002C + 0x40 * i
/-- R296. -/ abbrev QUEUE_FLUSH (i : Nat) : Nat := 0x140030 + 0x40 * i
/-- R296. -/ abbrev QUEUE_PEAK (i : Nat) : Nat := 0x140034 + 0x40 * i
/-- R276. -/ abbrev MEMC_STATUS : Nat := 0x160000
/-- R276. -/ abbrev MEMC_BANK_COLLIDE_CNT : Nat := 0x160010
/-- R276. -/ abbrev MEMC_PARITY_CNT : Nat := 0x160014
/-- R276. -/ abbrev MEMC_REFUSED_CNT : Nat := 0x160018
/-- R276. -/ abbrev MEMC_PROTECT_CNT : Nat := 0x16001C
/-- R276. -/ abbrev MEMC_PARITY_LAST : Nat := 0x160020
/-- R276. -/ abbrev MEMC_WIN_LAST : Nat := 0x160024
/-- R277. -/ abbrev MEMC_WIN_BASE (i j : Nat) : Nat := 0x161000 + 0x100 * i + 0x8 * j
/-- R277. -/ abbrev MEMC_WIN_LEN (i j : Nat) : Nat := 0x161004 + 0x100 * i + 0x8 * j
/-- R277. -/ abbrev MEMC_BANK_PWR (i : Nat) : Nat := 0x161080 + 0x100 * i
/-- R441. -/ abbrev DDR_CTL (i : Nat) : Nat := 0x180000 + 0x10000 * i
/-- R441. -/ abbrev DDR_STATUS (i : Nat) : Nat := 0x180004 + 0x10000 * i
/-- R441. -/ abbrev DDR_TEMP (i : Nat) : Nat := 0x180008 + 0x10000 * i
/-- R441. -/ abbrev DDR_WQ (i : Nat) : Nat := 0x18000C + 0x10000 * i
/-- R441. -/ abbrev DDR_REF (i : Nat) : Nat := 0x180010 + 0x10000 * i
/-- R441. -/ abbrev DDR_RT_CFG (i j : Nat) : Nat := 0x180020 + 0x10000 * i + 0x4 * j
/-- R441. -/ abbrev DDR_UPORT_TGT0 (i : Nat) : Nat := 0x180030 + 0x10000 * i
/-- R441. -/ abbrev DDR_UPORT_TGT1 (i : Nat) : Nat := 0x180034 + 0x10000 * i
/-- R441. -/ abbrev DDR_UPORT_TGT2 (i : Nat) : Nat := 0x180038 + 0x10000 * i
/-- R441. -/ abbrev DDR_MIG_RATE (i : Nat) : Nat := 0x180040 + 0x10000 * i
/-- R441. -/ abbrev DDR_MIG_PTR (i : Nat) : Nat := 0x180044 + 0x10000 * i
/-- R441. -/ abbrev DDR_SCRUB (i : Nat) : Nat := 0x180048 + 0x10000 * i
/-- R441. -/ abbrev DDR_ERR_LAST_LO (i : Nat) : Nat := 0x180050 + 0x10000 * i
/-- R441. -/ abbrev DDR_ERR_LAST_HI (i : Nat) : Nat := 0x180054 + 0x10000 * i
/-- R441. -/ abbrev DDR_TRN_IDX (i : Nat) : Nat := 0x180100 + 0x10000 * i
/-- R441. -/ abbrev DDR_TRN_DATA (i : Nat) : Nat := 0x180104 + 0x10000 * i
/-- R441. -/ abbrev DDR_TEST_CTL (i : Nat) : Nat := 0x180110 + 0x10000 * i
/-- R441. -/ abbrev DDR_TEST_ADDR (i : Nat) : Nat := 0x180114 + 0x10000 * i
/-- R441. -/ abbrev DDR_TEST_SEED (i : Nat) : Nat := 0x180118 + 0x10000 * i
/-- R441. -/ abbrev DDR_TEST_RES (i : Nat) : Nat := 0x18011C + 0x10000 * i
/-- R441. -/ abbrev DDR_TEST_RES_ECC (i : Nat) : Nat := 0x180120 + 0x10000 * i
/-- R441. -/ abbrev DDR_CE_CNT (i : Nat) : Nat := 0x180200 + 0x10000 * i
/-- R441. -/ abbrev DDR_UE_CNT (i : Nat) : Nat := 0x180204 + 0x10000 * i
/-- R441. -/ abbrev DDR_POISON_CNT (i : Nat) : Nat := 0x180208 + 0x10000 * i
/-- R441. -/ abbrev DDR_CMD_ERR_CNT (i : Nat) : Nat := 0x18020C + 0x10000 * i
/-- R441. -/ abbrev DDR_PANIC_CNT (i : Nat) : Nat := 0x180210 + 0x10000 * i
/-- R441. -/ abbrev DDR_URGENT_CNT (i : Nat) : Nat := 0x180214 + 0x10000 * i
/-- R441. -/ abbrev DDR_REF_FORCED_CNT (i : Nat) : Nat := 0x180218 + 0x10000 * i
/-- R441. -/ abbrev DDR_TEST_CNT (i : Nat) : Nat := 0x18021C + 0x10000 * i
/-- R119. -/ abbrev RULE_CTL : Nat := 0x1C0000
/-- R119. -/ abbrev RULE_CTL_SHADOW : Nat := 0x1C0004
/-- R119. -/ abbrev RULE_STATUS : Nat := 0x1C0008
/-- R119. -/ abbrev RULE_XP_ACTIVE : Nat := 0x1C000C
/-- R119. -/ abbrev RULE_OVR_HOLD : Nat := 0x1C0010
/-- R119. -/ abbrev RULE_WIDE_OVF_OBJ : Nat := 0x1C0014
/-- R120. -/ abbrev RULE_CLAMP_LO_CNT : Nat := 0x1C0020
/-- R120. -/ abbrev RULE_CLAMP_HI_CNT : Nat := 0x1C0024
/-- R120. -/ abbrev RULE_SLEW_CNT : Nat := 0x1C0028
/-- R120. -/ abbrev RULE_FAULT_CNT : Nat := 0x1C002C
/-- R120. -/ abbrev RULE_GAIN_SAT_CNT : Nat := 0x1C0030
/-- R120. -/ abbrev RULE_OVR_APPLIED_CNT : Nat := 0x1C0034
/-- R120. -/ abbrev RULE_OVR_LATE_CNT : Nat := 0x1C0038
/-- R120. -/ abbrev RULE_OVR_BAD_CNT : Nat := 0x1C003C
/-- R120. -/ abbrev RULE_WIDE_OVF_CNT : Nat := 0x1C0040
/-- R154. -/ abbrev NIB_PARTITION : Nat := 0x200800
/-- R154. -/ abbrev NIB_PARTITION_SHADOW : Nat := 0x200804
/-- R154. -/ abbrev NIB_OUT_SHIFT : Nat := 0x200808
/-- R154. -/ abbrev NIB_OUT_SHIFT_SHADOW : Nat := 0x20080C
/-- R154. -/ abbrev NIB_ARRAY_STATUS : Nat := 0x200810
/-- R154. -/ abbrev NIB_SAT_CNT : Nat := 0x200814
/-- R154. -/ abbrev NIB_SAT_OUT : Nat := 0x200818
/-- R154. -/ abbrev NIB_BIST_FAIL_MAP_LO : Nat := 0x200820
/-- R154. -/ abbrev NIB_BIST_FAIL_MAP_HI : Nat := 0x200824
/-- R153. -/ abbrev NIB_TILE_CTL (i : Nat) : Nat := 0x200000 + 0x1000 * i
/-- R153. -/ abbrev NIB_TILE_CTL_SHADOW (i : Nat) : Nat := 0x200004 + 0x1000 * i
/-- R153. -/ abbrev NIB_TILE_SETSEL (i : Nat) : Nat := 0x200008 + 0x1000 * i
/-- R153. -/ abbrev NIB_TILE_XP (i : Nat) : Nat := 0x20000C + 0x1000 * i
/-- R153. -/ abbrev NIB_TILE_FINISH (i : Nat) : Nat := 0x200010 + 0x1000 * i
/-- R153. -/ abbrev NIB_TILE_BLOT_CNT (i : Nat) : Nat := 0x200020 + 0x1000 * i
/-- R153. -/ abbrev NIB_TILE_TAIL_CNT (i : Nat) : Nat := 0x200024 + 0x1000 * i
/-- R153. -/ abbrev NIB_TILE_INK_REJECT_CNT (i : Nat) : Nat := 0x200028 + 0x1000 * i
/-- R153. -/ abbrev NIB_TILE_BIST_PASS_CNT (i : Nat) : Nat := 0x20002C + 0x1000 * i
/-- R153. -/ abbrev NIB_TILE_BIST_FAIL_CNT (i : Nat) : Nat := 0x200030 + 0x1000 * i
/-- R153. -/ abbrev NIB_TILE_BIST_STATUS (i : Nat) : Nat := 0x200034 + 0x1000 * i
/-- R153. -/ abbrev NIB_TILE_COEF_IDX (i : Nat) : Nat := 0x200038 + 0x1000 * i
/-- R153. -/ abbrev NIB_TILE_COEF_DATA (i : Nat) : Nat := 0x20003C + 0x1000 * i
/-- R186. -/ abbrev OUT_CTL : Nat := 0x240000
/-- R186. -/ abbrev OUT_RING_BASE_LO : Nat := 0x240008
/-- R186. -/ abbrev OUT_RING_BASE_HI : Nat := 0x24000C
/-- R186. -/ abbrev OUT_GAIN_SAT_CNT : Nat := 0x240020
/-- R186. -/ abbrev OUT_RING_BLOT_CNT : Nat := 0x240024
/-- R186. -/ abbrev OUT_RING_LATE_CNT : Nat := 0x240028
/-- R186. -/ abbrev OUT_CEIL_CNT : Nat := 0x24002C
/-- R186. -/ abbrev OUT_LIMIT_MAP_LO : Nat := 0x240040
/-- R186. -/ abbrev OUT_LIMIT_MAP_HI : Nat := 0x240044
/-- R186. -/ abbrev OUT_GUARD_MAP_LO : Nat := 0x240048
/-- R186. -/ abbrev OUT_GUARD_MAP_HI : Nat := 0x24004C
/-- R186. -/ abbrev OUT_TAP_BASE_LO (i : Nat) : Nat := 0x240800 + 0x20 * i
/-- R186. -/ abbrev OUT_TAP_BASE_HI (i : Nat) : Nat := 0x240804 + 0x20 * i
/-- R186. -/ abbrev OUT_TAP_LEN (i : Nat) : Nat := 0x240808 + 0x20 * i
/-- R186. -/ abbrev OUT_TAP_CTL (i : Nat) : Nat := 0x24080C + 0x20 * i
/-- R186. -/ abbrev OUT_TAP_WPTR (i : Nat) : Nat := 0x240810 + 0x20 * i
/-- R186. -/ abbrev OUT_TAP_WRAP_CNT (i : Nat) : Nat := 0x240814 + 0x20 * i
/-- R186. -/ abbrev OUT_MUTE (i : Nat) : Nat := 0x241000 + 0x4 * i
/-- R186. -/ abbrev OUT_LIM_THR (i : Nat) : Nat := 0x243000 + 0x20 * i
/-- R186. -/ abbrev OUT_LIM_ATTACK (i : Nat) : Nat := 0x243004 + 0x20 * i
/-- R186. -/ abbrev OUT_LIM_RELEASE (i : Nat) : Nat := 0x243008 + 0x20 * i
/-- R186. -/ abbrev OUT_LIM_CTL (i : Nat) : Nat := 0x24300C + 0x20 * i
/-- R186. -/ abbrev OUT_LIM_GR (i : Nat) : Nat := 0x243010 + 0x20 * i
/-- R186. -/ abbrev OUT_LIM_PEAK (i : Nat) : Nat := 0x243014 + 0x20 * i
/-- R187. -/ abbrev RCC_STATUS : Nat := 0x260000
/-- R187. -/ abbrev RCC_MACS : Nat := 0x260010
/-- R187. -/ abbrev RCC_PARITY_CNT : Nat := 0x260020
/-- R187. -/ abbrev RCC_SWAP_CNT : Nat := 0x260024
/-- R187. -/ abbrev RCC_LOAD_CNT : Nat := 0x260028
/-- R187. -/ abbrev RCC_SLOT (i : Nat) : Nat := 0x260400 + 0x4 * i
/-- R235. -/ abbrev QCORE_CTL (i : Nat) : Nat := 0x280000 + 0x1000 * i
/-- R235. -/ abbrev QCORE_STATUS (i : Nat) : Nat := 0x280004 + 0x1000 * i
/-- R235. -/ abbrev QCORE_START_PC (i : Nat) : Nat := 0x280008 + 0x1000 * i
/-- R235. -/ abbrev QCORE_DOORBELL (i : Nat) : Nat := 0x28000C + 0x1000 * i
/-- R235. -/ abbrev QCORE_PM_IDX (i : Nat) : Nat := 0x280010 + 0x1000 * i
/-- R235. -/ abbrev QCORE_PM_LO (i : Nat) : Nat := 0x280014 + 0x1000 * i
/-- R235. -/ abbrev QCORE_PM_HI (i : Nat) : Nat := 0x280018 + 0x1000 * i
/-- R235. -/ abbrev QCORE_BRK (i j : Nat) : Nat := 0x280020 + 0x1000 * i + 0x4 * j
/-- R235. -/ abbrev QCORE_DBG_SEL (i : Nat) : Nat := 0x280030 + 0x1000 * i
/-- R235. -/ abbrev QCORE_DBG_DATA (i : Nat) : Nat := 0x280034 + 0x1000 * i
/-- R235. -/ abbrev QCORE_SUBMIT (i : Nat) : Nat := 0x280040 + 0x1000 * i
/-- R235. -/ abbrev QCORE_STALL_CNT (i : Nat) : Nat := 0x280050 + 0x1000 * i
/-- R235. -/ abbrev QCORE_INK_REJECT_CNT (i : Nat) : Nat := 0x280054 + 0x1000 * i
/-- R235. -/ abbrev QCORE_PARITY_CNT (i : Nat) : Nat := 0x280058 + 0x1000 * i
/-- R235. -/ abbrev QCORE_QDENY_CNT (i : Nat) : Nat := 0x28005C + 0x1000 * i
/-- R474. -/ abbrev TWIN_CTL : Nat := 0x2C0000
/-- R474. -/ abbrev TWIN_CFG : Nat := 0x2C0004
/-- R474. -/ abbrev TWIN_TIMING : Nat := 0x2C0008
/-- R474. -/ abbrev TWIN_STATUS : Nat := 0x2C000C
/-- R474. -/ abbrev TWIN_PEER_MAC_LO : Nat := 0x2C0010
/-- R474. -/ abbrev TWIN_PEER_MAC_HI : Nat := 0x2C0014
/-- R474. -/ abbrev TWIN_HEALTH : Nat := 0x2C0018
/-- R474. -/ abbrev TWIN_HEALTH_PEER : Nat := 0x2C001C
/-- R474. -/ abbrev TWIN_CSEQ : Nat := 0x2C0020
/-- R474. -/ abbrev TWIN_TAKEOVER_BN : Nat := 0x2C0028
/-- R474. -/ abbrev TWIN_LAST_HB : Nat := 0x2C002C
/-- R474. -/ abbrev TWIN_EYE : Nat := 0x2C0034
/-- R474. -/ abbrev TWIN_SYNC_BASE_LO (i : Nat) : Nat := 0x2C0100 + 0x10 * i
/-- R474. -/ abbrev TWIN_SYNC_BASE_HI (i : Nat) : Nat := 0x2C0104 + 0x10 * i
/-- R474. -/ abbrev TWIN_SYNC_LEN (i : Nat) : Nat := 0x2C0108 + 0x10 * i
/-- R475. -/ abbrev TWIN_HB_MISS_CNT : Nat := 0x2C0200
/-- R475. -/ abbrev TWIN_CRC_CNT : Nat := 0x2C0204
/-- R475. -/ abbrev TWIN_RESEND_CNT : Nat := 0x2C0208
/-- R475. -/ abbrev TWIN_AUTH_CNT : Nat := 0x2C020C
/-- R475. -/ abbrev TWIN_REPAIR_CNT : Nat := 0x2C0210
/-- R475. -/ abbrev TWIN_DIFF_CNT : Nat := 0x2C0214
/-- R475. -/ abbrev TWIN_RECORD_LATE_CNT : Nat := 0x2C0218
/-- R475. -/ abbrev TWIN_TAKEOVER_CNT : Nat := 0x2C021C
/-- R475. -/ abbrev TWIN_HANDOVER_FAIL_CNT : Nat := 0x2C0220
/-- R558. -/ abbrev STAT_SNAP : Nat := 0x2E0000
/-- R558. -/ abbrev STAT_SNAP_BN_LO : Nat := 0x2E0008
/-- R558. -/ abbrev STAT_SNAP_BN_HI : Nat := 0x2E000C
/-- R558. -/ abbrev STAT_SHD_ADDR : Nat := 0x2E0010
/-- R558. -/ abbrev STAT_SHD_DATA : Nat := 0x2E0014
/-- R558. -/ abbrev STAT_SNAP_CNT : Nat := 0x2E0020
/-- R557. -/ abbrev EVT_PEND (i : Nat) : Nat := 0x2F0000 + 0x4 * i
/-- R557. -/ abbrev EVT_MOD : Nat := 0x2F0010
/-- R557. -/ abbrev EVT_ROUTE (i : Nat) : Nat := 0x2F0100 + 0x4 * i
/-- R557. -/ abbrev EVT_LAST (i : Nat) : Nat := 0x2F0400 + 0x4 * i
/-- R557. -/ abbrev EVT_CNT (i : Nat) : Nat := 0x2F0800 + 0x4 * i
/-- R517. -/ abbrev DBG_CTL : Nat := 0x300000
/-- R517. -/ abbrev DBG_AUTH_STATUS : Nat := 0x300004
/-- R517. -/ abbrev DBG_CHAL (i : Nat) : Nat := 0x300010 + 0x4 * i
/-- R517. -/ abbrev DBG_AUTH_DATA (i : Nat) : Nat := 0x300100 + 0x4 * i
/-- R517. -/ abbrev DBG_TRACE_CTL : Nat := 0x300200
/-- R517. -/ abbrev DBG_AUTH_FAIL_CNT : Nat := 0x300300
/-- R517. -/ abbrev DBG_SESSION_CNT : Nat := 0x300304

end Sys2Proof.Machine.Reg
end

