-- ==== Sys2Proof/Machine/RegTable.lean ====
section
/-! DEFINITION. The register tables of the spec as data: for each register its offset, its instances, and its fields with
their access code (R14) and the value they hold at reset. One row per register of the chapters' tables (R2, R46, R47,
R119, R120, R153, R154, R186, R187, R203, R235, R276, R277, R296, R322-R324, R344, R345, R365-R367, R385, R411, R441,
R474, R475, R497, R498, R516, R517, R523, R542, R543, R557, R558, R566). Bits outside every field are reserved (R13). -/

namespace Sys2Proof.Machine

/-- R14: the access codes. -/
inductive Acc where
  | rw | ro | rc | w1c | w1s | wo | rwe | rwl
  deriving DecidableEq, Repr

/-- One field of a register: bits [hi:lo], its access code, its reset value. -/
structure Fld where
  hi : Nat
  lo : Nat
  acc : Acc
  reset : Nat
  deriving DecidableEq, Repr

/-- One register of a table: its first offset, its instances (stride and count, outermost first), its fields. -/
structure Desc where
  base : Nat
  dims : List (Nat × Nat)
  fields : List Fld
  deriving DecidableEq, Repr

/-- Rows of the GLB tables. -/
def regTable_glb0 : List Desc :=
  [ ⟨0x0, [], [⟨31, 0, .ro, 0x454c3936⟩]⟩
  , ⟨0x4, [], [⟨31, 0, .ro, 0⟩]⟩
  , ⟨0x8, [], [⟨7, 0, .ro, 1⟩]⟩
  , ⟨0xC, [], [⟨31, 31, .ro, 0⟩, ⟨30, 30, .ro, 0⟩, ⟨3, 0, .ro, 1⟩]⟩
  , ⟨0x10, [], [⟨31, 0, .ro, 0⟩]⟩
  , ⟨0x14, [], [⟨31, 0, .ro, 0⟩]⟩
  , ⟨0x18, [], [⟨31, 0, .ro, 0⟩]⟩
  , ⟨0x1C, [], [⟨31, 0, .ro, 0⟩]⟩
  , ⟨0x40, [], [⟨31, 0, .ro, 0⟩]⟩
  , ⟨0x44, [], [⟨31, 0, .ro, 0⟩]⟩
  , ⟨0x48, [], [⟨13, 8, .ro, 32⟩, ⟨1, 1, .ro, 0⟩, ⟨0, 0, .ro, 0⟩]⟩
  , ⟨0x4C, [], [⟨3, 3, .w1c, 0⟩, ⟨2, 2, .w1c, 0⟩, ⟨1, 1, .w1c, 0⟩, ⟨0, 0, .w1c, 0⟩]⟩
  , ⟨0x50, [], [⟨31, 0, .rc, 0⟩]⟩
  , ⟨0x54, [], [⟨31, 0, .rc, 0⟩]⟩
  , ⟨0x60, [], [⟨31, 16, .rc, 0⟩, ⟨15, 0, .ro, 0⟩]⟩
  , ⟨0x64, [], [⟨31, 16, .rc, 0⟩, ⟨15, 0, .ro, 0⟩]⟩
  , ⟨0x68, [], [⟨31, 16, .rc, 0⟩, ⟨15, 0, .ro, 0⟩]⟩
  , ⟨0x6C, [], [⟨31, 16, .rc, 0⟩, ⟨15, 0, .ro, 0⟩]⟩
  , ⟨0x80, [], [⟨31, 0, .rw, 0⟩]⟩
  , ⟨0x84, [], [⟨31, 0, .rw, 0⟩]⟩
  , ⟨0x88, [], [⟨31, 31, .w1c, 0⟩, ⟨30, 30, .w1c, 0⟩, ⟨29, 29, .w1c, 0⟩, ⟨28, 28, .w1c, 0⟩, ⟨16, 16, .ro, 0⟩, ⟨11, 8, .ro, 0⟩, ⟨3, 0, .ro, 0⟩]⟩
  , ⟨0x8C, [], [⟨0, 0, .wo, 0⟩]⟩
  , ⟨0x90, [], [⟨31, 0, .ro, 0⟩]⟩
  , ⟨0x94, [], [⟨31, 0, .ro, 0⟩]⟩ ]

/-- Rows of the GLB tables. -/
def regTable_glb1 : List Desc :=
  [ ⟨0x98, [], [⟨11, 0, .ro, 0⟩]⟩
  , ⟨0xA0, [], [⟨31, 0, .ro, 0⟩]⟩
  , ⟨0xA4, [], [⟨31, 0, .ro, 0⟩]⟩
  , ⟨0xA8, [], [⟨31, 0, .rc, 0⟩]⟩
  , ⟨0xAC, [], [⟨31, 0, .rc, 0⟩]⟩
  , ⟨0xB0, [], [⟨31, 0, .rc, 0⟩]⟩
  , ⟨0xB8, [], [⟨31, 0, .ro, 0⟩]⟩
  , ⟨0xBC, [], [⟨31, 0, .ro, 0⟩]⟩ ]

/-- The GLB unit's registers. -/
def regTable_glb : List Desc := regTable_glb0 ++ regTable_glb1

/-- Rows of the HIF tables. -/
def regTable_hif0 : List Desc :=
  [ ⟨0x10000, [], [⟨31, 31, .ro, 0⟩, ⟨30, 28, .ro, 0⟩, ⟨26, 24, .ro, 0⟩, ⟨0, 0, .ro, 0⟩]⟩
  , ⟨0x10004, [], [⟨31, 28, .ro, 1⟩, ⟨27, 27, .ro, 0⟩, ⟨26, 26, .ro, 0⟩, ⟨25, 24, .ro, 0⟩, ⟨23, 20, .ro, 0⟩, ⟨19, 16, .ro, 0⟩, ⟨15, 12, .ro, 0⟩]⟩
  , ⟨0x10008, [], [⟨0, 0, .wo, 0⟩]⟩
  , ⟨0x10010, [], [⟨7, 0, .rw, 128⟩]⟩
  , ⟨0x10018, [], [⟨31, 31, .ro, 0⟩, ⟨11, 0, .wo, 0⟩]⟩
  , ⟨0x10020, [(0x4, 4)], [⟨31, 31, .ro, 0⟩, ⟨30, 30, .ro, 0⟩, ⟨23, 0, .ro, 0⟩]⟩
  , ⟨0x10030, [], [⟨31, 31, .rc, 0⟩, ⟨23, 0, .rc, 0⟩]⟩
  , ⟨0x10100, [], [⟨31, 0, .rc, 0⟩]⟩
  , ⟨0x10104, [], [⟨31, 0, .rc, 0⟩]⟩
  , ⟨0x10108, [], [⟨31, 0, .rc, 0⟩]⟩
  , ⟨0x1010C, [], [⟨31, 0, .rc, 0⟩]⟩
  , ⟨0x18000, [(0x10, 64)], [⟨31, 2, .rw, 0⟩]⟩
  , ⟨0x18004, [(0x10, 64)], [⟨31, 0, .rw, 0⟩]⟩
  , ⟨0x18008, [(0x10, 64)], [⟨31, 0, .rw, 0⟩]⟩
  , ⟨0x1800C, [(0x10, 64)], [⟨0, 0, .rw, 1⟩]⟩
  , ⟨0x19000, [], [⟨31, 0, .ro, 0⟩]⟩
  , ⟨0x19004, [], [⟨31, 0, .ro, 0⟩]⟩ ]

/-- The HIF unit's registers. -/
def regTable_hif : List Desc := regTable_hif0

/-- Rows of the SEC tables. -/
def regTable_sec0 : List Desc :=
  [ ⟨0x20000, [], [⟨31, 30, .ro, 0⟩, ⟨29, 28, .ro, 0⟩, ⟨27, 27, .ro, 0⟩, ⟨26, 26, .ro, 0⟩, ⟨25, 25, .ro, 0⟩, ⟨24, 24, .ro, 0⟩, ⟨23, 23, .ro, 0⟩, ⟨22, 19, .ro, 0⟩, ⟨18, 12, .ro, 0⟩, ⟨6, 0, .ro, 0⟩]⟩
  , ⟨0x20008, [], [⟨31, 0, .ro, 0⟩]⟩
  , ⟨0x2000C, [], [⟨31, 0, .ro, 0⟩]⟩
  , ⟨0x20010, [], [⟨31, 31, .rc, 0⟩, ⟨19, 16, .rc, 0⟩, ⟨3, 0, .rc, 0⟩]⟩
  , ⟨0x20014, [], [⟨31, 0, .rc, 0⟩]⟩
  , ⟨0x20020, [], [⟨0, 0, .wo, 0⟩]⟩
  , ⟨0x20030, [], [⟨31, 31, .wo, 0⟩, ⟨30, 30, .ro, 0⟩, ⟨29, 29, .ro, 0⟩, ⟨4, 0, .rw, 0⟩]⟩
  , ⟨0x20040, [(0x4, 12)], [⟨31, 0, .rwl, 0⟩]⟩
  , ⟨0x20080, [(0x4, 4)], [⟨31, 0, .wo, 0⟩]⟩
  , ⟨0x20090, [], [⟨31, 31, .ro, 0⟩, ⟨30, 30, .w1c, 0⟩, ⟨23, 0, .ro, 0⟩]⟩
  , ⟨0x20100, [(0x40, 5), (0x4, 12)], [⟨31, 0, .ro, 0⟩]⟩ ]

/-- The SEC unit's registers. -/
def regTable_sec : List Desc := regTable_sec0

/-- Rows of the PWR tables. -/
def regTable_pwr0 : List Desc :=
  [ ⟨0x30000, [], [⟨9, 9, .rw, 1⟩, ⟨8, 8, .rw, 1⟩, ⟨2, 0, .wo, 0⟩]⟩
  , ⟨0x30004, [], [⟨31, 30, .ro, 0⟩, ⟨29, 29, .ro, 0⟩, ⟨28, 28, .w1c, 0⟩, ⟨27, 27, .w1c, 0⟩, ⟨26, 24, .ro, 0⟩, ⟨23, 23, .w1c, 0⟩]⟩
  , ⟨0x30010, [(0x4, 2)], [⟨31, 29, .ro, 0⟩, ⟨27, 16, .ro, 0⟩, ⟨15, 0, .ro, 0⟩]⟩
  , ⟨0x30018, [], [⟨31, 16, .rw, 13200⟩, ⟨15, 0, .rw, 10800⟩]⟩
  , ⟨0x3001C, [], [⟨15, 0, .ro, 0⟩]⟩
  , ⟨0x30020, [], [⟨0, 0, .rwe, 0⟩]⟩
  , ⟨0x30030, [], [⟨31, 31, .w1c, 0⟩, ⟨28, 24, .rw, 15⟩, ⟨20, 16, .ro, 16⟩, ⟨4, 0, .rw, 16⟩]⟩
  , ⟨0x30040, [], [⟨2, 0, .rw, 1⟩]⟩
  , ⟨0x30044, [], [⟨31, 0, .rw, 0⟩]⟩
  , ⟨0x30048, [], [⟨31, 0, .ro, 0⟩]⟩
  , ⟨0x30050, [], [⟨31, 16, .rw, 26880⟩, ⟨15, 0, .rw, 24320⟩]⟩
  , ⟨0x30054, [], [⟨15, 0, .ro, 0⟩]⟩
  , ⟨0x30060, [], [⟨9, 8, .rw, 0⟩, ⟨5, 0, .rw, 0⟩]⟩
  , ⟨0x30064, [], [⟨31, 0, .ro, 0⟩]⟩
  , ⟨0x30070, [], [⟨31, 0, .ro, 0xffffffff⟩]⟩
  , ⟨0x30074, [], [⟨31, 0, .rw, 8760⟩]⟩
  , ⟨0x30080, [(0x4, 8)], [⟨31, 0, .rw, 0⟩]⟩
  , ⟨0x30100, [], [⟨31, 0, .rc, 0⟩]⟩
  , ⟨0x30104, [], [⟨31, 0, .rc, 0⟩]⟩
  , ⟨0x30108, [], [⟨31, 0, .rc, 0⟩]⟩
  , ⟨0x3010C, [], [⟨31, 0, .rc, 0⟩]⟩ ]

/-- The PWR unit's registers. -/
def regTable_pwr : List Desc := regTable_pwr0

/-- Rows of the CLK tables. -/
def regTable_clk0 : List Desc :=
  [ ⟨0x40000, [], [⟨16, 16, .rw, 0⟩, ⟨9, 8, .rw, 1⟩, ⟨0, 0, .rw, 0⟩]⟩
  , ⟨0x40004, [], [⟨31, 31, .ro, 0⟩, ⟨30, 30, .w1c, 0⟩, ⟨29, 29, .ro, 0⟩, ⟨28, 28, .w1c, 0⟩]⟩
  , ⟨0x40008, [], [⟨31, 0, .ro, 0⟩]⟩
  , ⟨0x4000C, [], [⟨31, 0, .ro, 0⟩]⟩
  , ⟨0x40010, [], [⟨31, 0, .ro, 0⟩]⟩
  , ⟨0x40014, [], [⟨31, 0, .ro, 0⟩]⟩
  , ⟨0x40020, [], [⟨1, 0, .rw, 0⟩]⟩
  , ⟨0x40024, [], [⟨31, 0, .ro, 0⟩]⟩
  , ⟨0x40028, [], [⟨31, 0, .ro, 0⟩]⟩
  , ⟨0x4002C, [], [⟨31, 0, .ro, 0⟩]⟩ ]

/-- The CLK unit's registers. -/
def regTable_clk : List Desc := regTable_clk0

/-- Rows of the TIME tables. -/
def regTable_time0 : List Desc :=
  [ ⟨0x50000, [], [⟨0, 0, .rw, 0⟩]⟩
  , ⟨0x50004, [], [⟨31, 30, .ro, 0⟩, ⟨8, 8, .ro, 0⟩, ⟨1, 1, .w1c, 0⟩, ⟨0, 0, .w1c, 0⟩]⟩
  , ⟨0x50010, [], [⟨3, 0, .rw, 0⟩]⟩
  , ⟨0x50014, [], [⟨29, 0, .rw, 0⟩]⟩
  , ⟨0x50018, [], [⟨31, 0, .rw, 0⟩]⟩
  , ⟨0x5001C, [], [⟨15, 0, .rw, 0⟩]⟩
  , ⟨0x50020, [], [⟨31, 0, .rw, 0⟩]⟩
  , ⟨0x50028, [], [⟨31, 0, .rw, 0⟩]⟩
  , ⟨0x5002C, [], [⟨31, 0, .rw, 0⟩]⟩
  , ⟨0x50030, [], [⟨31, 0, .rw, 0xf4240⟩]⟩
  , ⟨0x50034, [], [⟨15, 0, .rw, 3000⟩]⟩
  , ⟨0x50038, [], [⟨31, 0, .rw, 0⟩]⟩
  , ⟨0x5003C, [], [⟨31, 0, .rw, 0⟩]⟩
  , ⟨0x50040, [], [⟨31, 0, .ro, 0⟩]⟩
  , ⟨0x50044, [], [⟨31, 0, .ro, 0⟩]⟩
  , ⟨0x50048, [], [⟨31, 0, .ro, 0⟩]⟩
  , ⟨0x5004C, [], [⟨31, 0, .ro, 0⟩]⟩
  , ⟨0x50060, [], [⟨31, 0, .rc, 0⟩]⟩
  , ⟨0x50064, [], [⟨31, 0, .rc, 0⟩]⟩
  , ⟨0x50068, [], [⟨31, 0, .rc, 0⟩]⟩
  , ⟨0x5006C, [], [⟨31, 0, .rc, 0⟩]⟩
  , ⟨0x50070, [], [⟨31, 31, .rw, 0⟩, ⟨30, 30, .rw, 0⟩, ⟨9, 0, .rw, 100⟩]⟩
  , ⟨0x50080, [], [⟨31, 31, .ro, 0⟩, ⟨3, 0, .ro, 0⟩]⟩
  , ⟨0x50084, [], [⟨29, 0, .ro, 0⟩]⟩ ]

/-- Rows of the TIME tables. -/
def regTable_time1 : List Desc :=
  [ ⟨0x50088, [], [⟨31, 0, .ro, 0⟩]⟩
  , ⟨0x5008C, [], [⟨15, 0, .ro, 0⟩]⟩
  , ⟨0x50200, [(0x20, 16), (0x8, 4)], [⟨31, 16, .rw, 0⟩, ⟨15, 0, .rw, 0⟩]⟩
  , ⟨0x50400, [(0x10, 16)], [⟨31, 31, .ro, 0⟩, ⟨23, 20, .ro, 0⟩, ⟨19, 16, .ro, 0⟩, ⟨15, 0, .ro, 0⟩]⟩
  , ⟨0x50404, [(0x10, 16)], [⟨29, 0, .ro, 0⟩]⟩
  , ⟨0x50408, [(0x10, 16)], [⟨31, 0, .ro, 0⟩]⟩
  , ⟨0x5040C, [(0x10, 16)], [⟨15, 0, .ro, 0⟩]⟩
  , ⟨0x50600, [(0x4, 16)], [⟨31, 0, .rc, 0⟩]⟩ ]

/-- The TIME unit's registers. -/
def regTable_time : List Desc := regTable_time0 ++ regTable_time1

/-- Rows of the NET tables. -/
def regTable_net0 : List Desc :=
  [ ⟨0x80000, [(0x4000, 16)], [⟨17, 16, .rw, 0⟩, ⟨6, 6, .rw, 0⟩, ⟨5, 5, .rw, 1⟩, ⟨4, 4, .rw, 0⟩, ⟨3, 3, .rw, 0⟩, ⟨2, 2, .rw, 0⟩, ⟨0, 0, .rw, 0⟩]⟩
  , ⟨0x80004, [(0x4000, 16)], [⟨31, 31, .ro, 0⟩, ⟨30, 30, .w1c, 0⟩, ⟨29, 28, .ro, 0⟩, ⟨27, 27, .ro, 0⟩, ⟨26, 26, .ro, 0⟩, ⟨25, 25, .w1c, 0⟩, ⟨24, 24, .w1c, 0⟩]⟩
  , ⟨0x80008, [(0x4000, 16)], [⟨13, 0, .rw, 1522⟩]⟩
  , ⟨0x80010, [(0x4000, 16)], [⟨31, 0, .rw, 0⟩]⟩
  , ⟨0x80014, [(0x4000, 16)], [⟨15, 0, .rw, 0⟩]⟩
  , ⟨0x80018, [(0x4000, 16)], [⟨31, 0, .rw, 0⟩]⟩
  , ⟨0x8001C, [(0x4000, 16)], [⟨31, 0, .rw, 0⟩]⟩
  , ⟨0x80020, [(0x4000, 16)], [⟨31, 16, .rw, 100⟩, ⟨15, 0, .rw, 10⟩]⟩
  , ⟨0x80024, [(0x4000, 16)], [⟨15, 8, .rw, 10⟩, ⟨0, 0, .rw, 0⟩]⟩
  , ⟨0x80030, [(0x4000, 16), (0x4, 4)], [⟨23, 0, .rw, 0⟩]⟩
  , ⟨0x80100, [(0x4000, 16), (0x40, 2)], [⟨31, 6, .rw, 0⟩]⟩
  , ⟨0x80104, [(0x4000, 16), (0x40, 2)], [⟨3, 0, .rw, 8⟩]⟩
  , ⟨0x80108, [(0x4000, 16), (0x40, 2)], [⟨12, 0, .rw, 0⟩]⟩
  , ⟨0x8010C, [(0x4000, 16), (0x40, 2)], [⟨14, 6, .rw, 32⟩]⟩
  , ⟨0x80110, [(0x4000, 16), (0x40, 2)], [⟨11, 0, .ro, 0⟩]⟩
  , ⟨0x80114, [(0x4000, 16), (0x40, 2)], [⟨11, 0, .rw, 0⟩]⟩
  , ⟨0x80200, [(0x4000, 16), (0x40, 2)], [⟨31, 6, .rw, 0⟩]⟩
  , ⟨0x80204, [(0x4000, 16), (0x40, 2)], [⟨3, 0, .rw, 8⟩]⟩
  , ⟨0x80208, [(0x4000, 16), (0x40, 2)], [⟨12, 0, .rw, 0⟩]⟩
  , ⟨0x80210, [(0x4000, 16), (0x40, 2)], [⟨11, 0, .ro, 0⟩]⟩
  , ⟨0x80214, [(0x4000, 16), (0x40, 2)], [⟨11, 0, .rw, 0⟩]⟩
  , ⟨0x80400, [(0x4000, 16)], [⟨31, 0, .rc, 0⟩]⟩
  , ⟨0x80404, [(0x4000, 16)], [⟨31, 0, .rc, 0⟩]⟩
  , ⟨0x80408, [(0x4000, 16)], [⟨31, 0, .rc, 0⟩]⟩ ]

/-- Rows of the NET tables. -/
def regTable_net1 : List Desc :=
  [ ⟨0x8040C, [(0x4000, 16)], [⟨31, 0, .rc, 0⟩]⟩
  , ⟨0x80410, [(0x4000, 16)], [⟨31, 0, .rc, 0⟩]⟩
  , ⟨0x80414, [(0x4000, 16)], [⟨31, 0, .rc, 0⟩]⟩
  , ⟨0x80418, [(0x4000, 16)], [⟨31, 0, .rc, 0⟩]⟩
  , ⟨0x8041C, [(0x4000, 16)], [⟨31, 0, .rc, 0⟩]⟩
  , ⟨0x80420, [(0x4000, 16)], [⟨31, 0, .rc, 0⟩]⟩
  , ⟨0x80424, [(0x4000, 16)], [⟨31, 0, .rc, 0⟩]⟩
  , ⟨0x80428, [(0x4000, 16)], [⟨31, 0, .rc, 0⟩]⟩
  , ⟨0x8042C, [(0x4000, 16)], [⟨31, 0, .rc, 0⟩]⟩
  , ⟨0x80430, [(0x4000, 16)], [⟨31, 0, .rc, 0⟩]⟩
  , ⟨0x80434, [(0x4000, 16)], [⟨31, 0, .rc, 0⟩]⟩
  , ⟨0x80440, [(0x4000, 16)], [⟨31, 0, .rc, 0⟩]⟩
  , ⟨0x80444, [(0x4000, 16)], [⟨31, 0, .rc, 0⟩]⟩
  , ⟨0x80448, [(0x4000, 16)], [⟨31, 0, .rc, 0⟩]⟩
  , ⟨0x8044C, [(0x4000, 16)], [⟨31, 0, .rc, 0⟩]⟩ ]

/-- The NET unit's registers. -/
def regTable_net : List Desc := regTable_net0 ++ regTable_net1

/-- Rows of the MGMT tables. -/
def regTable_mgmt0 : List Desc :=
  [ ⟨0xC0000, [], [⟨19, 18, .rw, 2⟩, ⟨17, 16, .rw, 0⟩, ⟨6, 6, .rw, 0⟩, ⟨5, 5, .rw, 1⟩, ⟨3, 3, .rw, 0⟩, ⟨2, 2, .rw, 0⟩, ⟨0, 0, .rw, 0⟩]⟩
  , ⟨0xC0004, [], [⟨31, 31, .ro, 0⟩, ⟨30, 30, .w1c, 0⟩, ⟨29, 28, .ro, 0⟩, ⟨27, 27, .ro, 0⟩, ⟨26, 26, .ro, 0⟩, ⟨25, 25, .w1c, 0⟩, ⟨24, 24, .w1c, 0⟩]⟩
  , ⟨0xC0008, [], [⟨13, 0, .rw, 1522⟩]⟩
  , ⟨0xC0010, [], [⟨31, 0, .rw, 0⟩]⟩
  , ⟨0xC0014, [], [⟨15, 0, .rw, 0⟩]⟩
  , ⟨0xC0018, [], [⟨31, 0, .rw, 0⟩]⟩
  , ⟨0xC001C, [], [⟨31, 0, .rw, 0⟩]⟩
  , ⟨0xC0020, [], [⟨31, 16, .rw, 100⟩, ⟨15, 0, .rw, 10⟩]⟩
  , ⟨0xC0040, [], [⟨31, 31, .ro, 0⟩, ⟨30, 30, .rw, 0⟩, ⟨25, 21, .rw, 0⟩, ⟨20, 16, .rw, 0⟩, ⟨15, 0, .rw, 0⟩]⟩
  , ⟨0xC0100, [(0x40, 2)], [⟨31, 6, .rw, 0⟩]⟩
  , ⟨0xC0104, [(0x40, 2)], [⟨3, 0, .rw, 8⟩]⟩
  , ⟨0xC0108, [(0x40, 2)], [⟨12, 0, .rw, 0⟩]⟩
  , ⟨0xC010C, [(0x40, 2)], [⟨14, 6, .rw, 32⟩]⟩
  , ⟨0xC0110, [(0x40, 2)], [⟨11, 0, .ro, 0⟩]⟩
  , ⟨0xC0114, [(0x40, 2)], [⟨11, 0, .rw, 0⟩]⟩
  , ⟨0xC0200, [(0x40, 2)], [⟨31, 6, .rw, 0⟩]⟩
  , ⟨0xC0204, [(0x40, 2)], [⟨3, 0, .rw, 8⟩]⟩
  , ⟨0xC0208, [(0x40, 2)], [⟨12, 0, .rw, 0⟩]⟩
  , ⟨0xC0210, [(0x40, 2)], [⟨11, 0, .ro, 0⟩]⟩
  , ⟨0xC0214, [(0x40, 2)], [⟨11, 0, .rw, 0⟩]⟩
  , ⟨0xC0400, [], [⟨31, 0, .rc, 0⟩]⟩
  , ⟨0xC0404, [], [⟨31, 0, .rc, 0⟩]⟩
  , ⟨0xC0408, [], [⟨31, 0, .rc, 0⟩]⟩
  , ⟨0xC040C, [], [⟨31, 0, .rc, 0⟩]⟩ ]

/-- Rows of the MGMT tables. -/
def regTable_mgmt1 : List Desc :=
  [ ⟨0xC0410, [], [⟨31, 0, .rc, 0⟩]⟩
  , ⟨0xC0414, [], [⟨31, 0, .rc, 0⟩]⟩
  , ⟨0xC0418, [], [⟨31, 0, .rc, 0⟩]⟩
  , ⟨0xC041C, [], [⟨31, 0, .rc, 0⟩]⟩
  , ⟨0xC0420, [], [⟨31, 0, .rc, 0⟩]⟩
  , ⟨0xC0424, [], [⟨31, 0, .rc, 0⟩]⟩
  , ⟨0xC0428, [], [⟨31, 0, .rc, 0⟩]⟩
  , ⟨0xC042C, [], [⟨31, 0, .rc, 0⟩]⟩
  , ⟨0xC0430, [], [⟨31, 0, .rc, 0⟩]⟩
  , ⟨0xC0434, [], [⟨31, 0, .rc, 0⟩]⟩
  , ⟨0xC0440, [], [⟨31, 0, .rc, 0⟩]⟩
  , ⟨0xC0444, [], [⟨31, 0, .rc, 0⟩]⟩
  , ⟨0xC0448, [], [⟨31, 0, .rc, 0⟩]⟩
  , ⟨0xC044C, [], [⟨31, 0, .rc, 0⟩]⟩ ]

/-- The MGMT unit's registers. -/
def regTable_mgmt : List Desc := regTable_mgmt0 ++ regTable_mgmt1

/-- Rows of the STRM tables. -/
def regTable_strm0 : List Desc :=
  [ ⟨0xD0000, [], [⟨26, 16, .ro, 0⟩, ⟨10, 0, .ro, 0⟩]⟩
  , ⟨0xD0008, [], [⟨31, 12, .rw, 0⟩]⟩
  , ⟨0xD000C, [], [⟨3, 0, .rw, 8⟩]⟩
  , ⟨0xD0010, [], [⟨31, 0, .rw, 0⟩]⟩
  , ⟨0xD0100, [(0x8, 16)], [⟨31, 0, .rw, 0⟩]⟩
  , ⟨0xD0104, [(0x8, 16)], [⟨15, 8, .rw, 16⟩, ⟨5, 0, .rw, 34⟩]⟩
  , ⟨0xD0410, [(0x10, 63)], [⟨15, 0, .rwe, 3000⟩]⟩
  , ⟨0xD0414, [(0x10, 63)], [⟨31, 31, .ro, 0⟩, ⟨10, 0, .ro, 0⟩]⟩
  , ⟨0xD0418, [(0x10, 63)], [⟨31, 0, .rc, 0⟩]⟩
  , ⟨0xD4000, [(0x10, 1024)], [⟨31, 31, .ro, 0⟩, ⟨30, 30, .ro, 0⟩, ⟨29, 29, .w1c, 0⟩]⟩
  , ⟨0xD4004, [(0x10, 1024)], [⟨31, 0, .rc, 0⟩]⟩
  , ⟨0xD4008, [(0x10, 1024)], [⟨31, 0, .rc, 0⟩]⟩
  , ⟨0xD8000, [(0x20, 1024)], [⟨31, 31, .ro, 0⟩, ⟨30, 30, .ro, 0⟩, ⟨29, 29, .ro, 0⟩, ⟨28, 28, .ro, 0⟩, ⟨27, 27, .ro, 0⟩]⟩
  , ⟨0xD8004, [(0x20, 1024)], [⟨31, 0, .rc, 0⟩]⟩
  , ⟨0xD8008, [(0x20, 1024)], [⟨31, 0, .rc, 0⟩]⟩
  , ⟨0xD800C, [(0x20, 1024)], [⟨31, 0, .rc, 0⟩]⟩
  , ⟨0xD8010, [(0x20, 1024)], [⟨31, 0, .rc, 0⟩]⟩
  , ⟨0xD8014, [(0x20, 1024)], [⟨31, 0, .rc, 0⟩]⟩
  , ⟨0xD8018, [(0x20, 1024)], [⟨31, 0, .rc, 0⟩]⟩
  , ⟨0xD801C, [(0x20, 1024)], [⟨31, 0, .rc, 0⟩]⟩
  , ⟨0xE0000, [(0x20, 1024)], [⟨31, 31, .rwe, 0⟩, ⟨29, 28, .rwe, 0⟩, ⟨27, 27, .rwe, 0⟩, ⟨26, 26, .rwe, 0⟩, ⟨25, 20, .rwe, 0⟩, ⟨19, 16, .rwe, 0⟩, ⟨15, 12, .rwe, 0⟩, ⟨6, 0, .rwe, 1⟩]⟩
  , ⟨0xE0004, [(0x20, 1024)], [⟨20, 0, .rwe, 0⟩]⟩
  , ⟨0xE0008, [(0x20, 1024)], [⟨27, 16, .rwe, 4⟩, ⟨15, 0, .rwe, 0⟩]⟩
  , ⟨0xE000C, [(0x20, 1024)], [⟨31, 0, .rwe, 0⟩]⟩ ]

/-- Rows of the STRM tables. -/
def regTable_strm1 : List Desc :=
  [ ⟨0xE0010, [(0x20, 1024)], [⟨31, 0, .rwe, 0⟩]⟩
  , ⟨0xE0014, [(0x20, 1024)], [⟨31, 0, .rwe, 0⟩]⟩
  , ⟨0xE0018, [(0x20, 1024)], [⟨31, 0, .rwe, 0⟩]⟩
  , ⟨0xE001C, [(0x20, 1024)], [⟨23, 0, .rwe, 0⟩]⟩
  , ⟨0xF0000, [(0x20, 1024)], [⟨31, 31, .rwe, 0⟩, ⟨29, 28, .rwe, 0⟩, ⟨27, 27, .rwe, 0⟩, ⟨25, 24, .rwe, 0⟩, ⟨19, 16, .rwe, 0⟩, ⟨15, 12, .rwe, 0⟩, ⟨6, 0, .rwe, 1⟩]⟩
  , ⟨0xF0004, [(0x20, 1024)], [⟨31, 25, .rwe, 0⟩, ⟨24, 16, .rwe, 12⟩, ⟨15, 0, .rwe, 0⟩]⟩
  , ⟨0xF0008, [(0x20, 1024)], [⟨31, 0, .rwe, 0⟩]⟩
  , ⟨0xF000C, [(0x20, 1024)], [⟨31, 29, .rwe, 0⟩, ⟨28, 28, .rwe, 0⟩, ⟨27, 16, .rwe, 0⟩, ⟨15, 0, .rwe, 0⟩]⟩
  , ⟨0xF0010, [(0x20, 1024)], [⟨31, 0, .rwe, 0⟩]⟩
  , ⟨0xF0014, [(0x20, 1024)], [⟨31, 0, .rwe, 0⟩]⟩
  , ⟨0xF0018, [(0x20, 1024)], [⟨31, 0, .rwe, 0⟩]⟩
  , ⟨0xF001C, [(0x20, 1024)], [⟨31, 0, .rwe, 0⟩]⟩ ]

/-- The STRM unit's registers. -/
def regTable_strm : List Desc := regTable_strm0 ++ regTable_strm1

/-- Rows of the TDM tables. -/
def regTable_tdm0 : List Desc :=
  [ ⟨0x100000, [(0x800, 32)], [⟨31, 31, .rw, 0⟩, ⟨30, 30, .rw, 0⟩, ⟨29, 28, .rw, 0⟩, ⟨27, 26, .rw, 0⟩, ⟨25, 25, .rw, 0⟩, ⟨24, 24, .rw, 0⟩, ⟨23, 23, .rw, 0⟩, ⟨22, 22, .rw, 0⟩, ⟨17, 16, .rw, 2⟩, ⟨5, 0, .rw, 2⟩]⟩
  , ⟨0x100004, [(0x800, 32)], [⟨31, 30, .ro, 0⟩, ⟨29, 29, .ro, 0⟩, ⟨28, 28, .ro, 0⟩, ⟨27, 27, .ro, 0⟩, ⟨26, 25, .ro, 0⟩, ⟨18, 18, .w1c, 0⟩, ⟨17, 17, .w1c, 0⟩, ⟨16, 16, .w1c, 0⟩]⟩
  , ⟨0x100008, [(0x800, 32)], [⟨31, 0, .rwe, 0xffffffff⟩]⟩
  , ⟨0x10000C, [(0x800, 32)], [⟨31, 0, .rwe, 0xffffffff⟩]⟩
  , ⟨0x100010, [(0x800, 32)], [⟨28, 24, .rw, 4⟩, ⟨20, 0, .rw, 0⟩]⟩
  , ⟨0x100014, [(0x800, 32)], [⟨28, 24, .rw, 4⟩, ⟨20, 0, .rw, 0⟩]⟩
  , ⟨0x100018, [(0x800, 32)], [⟨13, 8, .rw, 0⟩, ⟨5, 0, .rw, 0⟩]⟩
  , ⟨0x100020, [(0x800, 32)], [⟨31, 0, .ro, 0⟩]⟩
  , ⟨0x100024, [(0x800, 32)], [⟨31, 0, .ro, 0⟩]⟩
  , ⟨0x100028, [(0x800, 32)], [⟨15, 0, .rw, 100⟩]⟩
  , ⟨0x10002C, [(0x800, 32)], [⟨15, 0, .rw, 20⟩]⟩
  , ⟨0x100030, [(0x800, 32)], [⟨31, 0, .ro, 0⟩]⟩
  , ⟨0x100040, [(0x800, 32)], [⟨31, 0, .rc, 0⟩]⟩
  , ⟨0x100044, [(0x800, 32)], [⟨31, 0, .rc, 0⟩]⟩
  , ⟨0x100048, [(0x800, 32)], [⟨31, 0, .rc, 0⟩]⟩
  , ⟨0x10004C, [(0x800, 32)], [⟨31, 0, .rc, 0⟩]⟩ ]

/-- The TDM unit's registers. -/
def regTable_tdm : List Desc := regTable_tdm0

/-- Rows of the COND tables. -/
def regTable_cond0 : List Desc :=
  [ ⟨0x120000, [], [⟨20, 0, .rw, 0⟩]⟩
  , ⟨0x120004, [], [⟨0, 0, .rwe, 0⟩]⟩
  , ⟨0x120008, [], [⟨15, 0, .rwe, 0⟩]⟩
  , ⟨0x12000C, [], [⟨31, 0, .rwe, 0⟩]⟩
  , ⟨0x120010, [], [⟨31, 0, .rwe, 0⟩]⟩
  , ⟨0x120020, [], [⟨31, 0, .ro, 0⟩]⟩
  , ⟨0x120024, [], [⟨31, 0, .ro, 0⟩]⟩
  , ⟨0x120030, [], [⟨17, 16, .rw, 0⟩, ⟨13, 12, .rw, 0⟩, ⟨7, 0, .rw, 0⟩]⟩
  , ⟨0x120034, [], [⟨31, 0, .ro, 0⟩]⟩
  , ⟨0x120038, [], [⟨8, 8, .rw, 0⟩, ⟨5, 4, .rw, 0⟩, ⟨2, 0, .rw, 0⟩]⟩
  , ⟨0x12003C, [], [⟨31, 0, .ro, 0⟩]⟩
  , ⟨0x120100, [(0x10, 16)], [⟨31, 31, .rwe, 0⟩, ⟨17, 16, .rwe, 1⟩, ⟨8, 8, .rwe, 0⟩, ⟨3, 0, .rwe, 3⟩]⟩
  , ⟨0x120104, [(0x10, 16)], [⟨31, 31, .ro, 0⟩, ⟨15, 0, .ro, 0⟩]⟩
  , ⟨0x120400, [(0x20, 64)], [⟨31, 31, .rw, 1⟩, ⟨20, 16, .rw, 12⟩, ⟨9, 0, .rw, 64⟩]⟩
  , ⟨0x120404, [(0x20, 64)], [⟨31, 0, .rw, 0⟩]⟩
  , ⟨0x120408, [(0x20, 64)], [⟨31, 0, .rw, 1⟩]⟩
  , ⟨0x12040C, [(0x20, 64)], [⟨31, 0, .ro, 0⟩]⟩
  , ⟨0x120410, [(0x20, 64)], [⟨31, 0, .ro, 0⟩]⟩
  , ⟨0x120414, [(0x20, 64)], [⟨31, 30, .ro, 0⟩, ⟨29, 29, .ro, 0⟩, ⟨28, 28, .ro, 0⟩, ⟨27, 27, .ro, 0⟩, ⟨15, 0, .ro, 0⟩]⟩
  , ⟨0x120418, [(0x20, 64)], [⟨31, 0, .rc, 0⟩]⟩
  , ⟨0x121000, [(0x40, 32)], [⟨31, 31, .rwe, 0⟩, ⟨25, 24, .rwe, 0⟩, ⟨21, 20, .rwe, 0⟩, ⟨19, 19, .rwe, 0⟩, ⟨6, 0, .rwe, 0⟩]⟩
  , ⟨0x121004, [(0x40, 32)], [⟨31, 16, .rwe, 0⟩, ⟨15, 0, .rwe, 0⟩]⟩
  , ⟨0x121008, [(0x40, 32)], [⟨15, 0, .rwe, 0⟩]⟩
  , ⟨0x12100C, [(0x40, 32)], [⟨31, 0, .rwe, 0⟩]⟩ ]

/-- Rows of the COND tables. -/
def regTable_cond1 : List Desc :=
  [ ⟨0x121010, [(0x40, 32)], [⟨31, 0, .rwe, 0⟩]⟩
  , ⟨0x121014, [(0x40, 32)], [⟨15, 0, .rwe, 0⟩]⟩
  , ⟨0x121018, [(0x40, 32)], [⟨31, 31, .ro, 0⟩, ⟨30, 30, .ro, 0⟩, ⟨15, 0, .ro, 0⟩]⟩
  , ⟨0x12101C, [(0x40, 32)], [⟨15, 0, .rc, 32768⟩]⟩
  , ⟨0x121020, [(0x40, 32)], [⟨31, 0, .rc, 0⟩]⟩ ]

/-- The COND unit's registers. -/
def regTable_cond : List Desc := regTable_cond0 ++ regTable_cond1

/-- Rows of the QUEUE tables. -/
def regTable_queue0 : List Desc :=
  [ ⟨0x140000, [(0x40, 256)], [⟨31, 31, .rw, 0⟩, ⟨28, 16, .rw, 16⟩, ⟨15, 8, .rw, 0⟩, ⟨7, 0, .rw, 0⟩]⟩
  , ⟨0x140004, [(0x40, 256)], [⟨16, 0, .rw, 0⟩]⟩
  , ⟨0x140008, [(0x40, 256)], [⟨12, 0, .rw, 0⟩]⟩
  , ⟨0x14000C, [(0x40, 256)], [⟨31, 31, .w1c, 0⟩, ⟨30, 30, .ro, 0⟩, ⟨29, 29, .w1c, 0⟩, ⟨28, 28, .ro, 0⟩, ⟨12, 0, .ro, 0⟩]⟩
  , ⟨0x140010, [(0x40, 256)], [⟨31, 0, .rc, 0⟩]⟩
  , ⟨0x140014, [(0x40, 256)], [⟨31, 0, .rc, 0⟩]⟩
  , ⟨0x140018, [(0x40, 256)], [⟨31, 0, .rc, 0⟩]⟩
  , ⟨0x14001C, [(0x40, 256)], [⟨31, 0, .rc, 0⟩]⟩
  , ⟨0x140020, [(0x40, 256)], [⟨31, 0, .wo, 0⟩]⟩
  , ⟨0x140024, [(0x40, 256)], [⟨31, 0, .wo, 0⟩]⟩
  , ⟨0x140028, [(0x40, 256)], [⟨31, 0, .ro, 0⟩]⟩
  , ⟨0x14002C, [(0x40, 256)], [⟨31, 0, .ro, 0⟩]⟩
  , ⟨0x140030, [(0x40, 256)], [⟨1, 1, .wo, 0⟩, ⟨0, 0, .wo, 0⟩]⟩
  , ⟨0x140034, [(0x40, 256)], [⟨12, 0, .rc, 0⟩]⟩ ]

/-- The QUEUE unit's registers. -/
def regTable_queue : List Desc := regTable_queue0

/-- Rows of the MEMC tables. -/
def regTable_memc0 : List Desc :=
  [ ⟨0x160000, [], [⟨2, 2, .w1c, 0⟩, ⟨1, 1, .w1c, 0⟩, ⟨0, 0, .w1c, 0⟩]⟩
  , ⟨0x160010, [], [⟨31, 0, .rc, 0⟩]⟩
  , ⟨0x160014, [], [⟨31, 0, .rc, 0⟩]⟩
  , ⟨0x160018, [], [⟨31, 0, .rc, 0⟩]⟩
  , ⟨0x16001C, [], [⟨31, 0, .rc, 0⟩]⟩
  , ⟨0x160020, [], [⟨31, 31, .rc, 0⟩, ⟨28, 20, .ro, 0⟩, ⟨16, 0, .ro, 0⟩]⟩
  , ⟨0x160024, [], [⟨28, 20, .ro, 0⟩, ⟨3, 0, .ro, 0⟩]⟩
  , ⟨0x161000, [(0x100, 288), (0x8, 16)], [⟨16, 0, .rw, 0⟩]⟩
  , ⟨0x161004, [(0x100, 288), (0x8, 16)], [⟨17, 0, .rw, 0⟩]⟩
  , ⟨0x161080, [(0x100, 288)], [⟨31, 30, .ro, 0⟩, ⟨29, 29, .ro, 0⟩, ⟨1, 0, .rw, 0⟩]⟩ ]

/-- The MEMC unit's registers. -/
def regTable_memc : List Desc := regTable_memc0

/-- Rows of the DDR tables. -/
def regTable_ddr0 : List Desc :=
  [ ⟨0x180000, [(0x10000, 2)], [⟨31, 31, .rw, 0⟩, ⟨16, 16, .rw, 1⟩, ⟨2, 1, .wo, 0⟩, ⟨0, 0, .wo, 0⟩]⟩
  , ⟨0x180004, [(0x10000, 2)], [⟨31, 29, .ro, 1⟩, ⟨28, 28, .ro, 1⟩, ⟨27, 27, .ro, 0⟩, ⟨26, 26, .ro, 0⟩, ⟨25, 25, .w1c, 0⟩, ⟨5, 4, .ro, 1⟩, ⟨3, 2, .ro, 0⟩, ⟨1, 0, .ro, 2⟩]⟩
  , ⟨0x180008, [(0x10000, 2)], [⟨15, 0, .ro, 0⟩]⟩
  , ⟨0x18000C, [(0x10000, 2)], [⟨21, 16, .rw, 48⟩, ⟨5, 0, .rw, 16⟩]⟩
  , ⟨0x180010, [(0x10000, 2)], [⟨31, 28, .ro, 0⟩, ⟨27, 24, .ro, 0⟩, ⟨2, 0, .ro, 4⟩]⟩
  , ⟨0x180020, [(0x10000, 2), (0x4, 3)], [⟨31, 16, .rwe, 2000⟩, ⟨7, 0, .rwe, 16⟩]⟩
  , ⟨0x180030, [(0x10000, 2)], [⟨15, 0, .rw, 500⟩]⟩
  , ⟨0x180034, [(0x10000, 2)], [⟨15, 0, .rw, 2000⟩]⟩
  , ⟨0x180038, [(0x10000, 2)], [⟨15, 0, .rw, 5000⟩]⟩
  , ⟨0x180040, [(0x10000, 2)], [⟨15, 0, .rw, 100⟩]⟩
  , ⟨0x180044, [(0x10000, 2)], [⟨27, 0, .ro, 0⟩]⟩
  , ⟨0x180048, [(0x10000, 2)], [⟨15, 0, .rw, 24⟩]⟩
  , ⟨0x180050, [(0x10000, 2)], [⟨31, 0, .ro, 0⟩]⟩
  , ⟨0x180054, [(0x10000, 2)], [⟨31, 31, .ro, 0⟩, ⟨30, 29, .ro, 0⟩, ⟨2, 0, .ro, 0⟩]⟩
  , ⟨0x180100, [(0x10000, 2)], [⟨26, 24, .rw, 0⟩, ⟨21, 20, .rw, 0⟩, ⟨16, 16, .rw, 0⟩, ⟨5, 0, .rw, 0⟩]⟩
  , ⟨0x180104, [(0x10000, 2)], [⟨9, 0, .rw, 0⟩]⟩
  , ⟨0x180110, [(0x10000, 2)], [⟨31, 31, .wo, 0⟩, ⟨30, 30, .ro, 0⟩, ⟨26, 24, .rw, 0⟩, ⟨21, 20, .rw, 0⟩, ⟨16, 16, .rw, 0⟩, ⟨15, 0, .rw, 0⟩]⟩
  , ⟨0x180114, [(0x10000, 2)], [⟨25, 0, .rw, 0⟩]⟩
  , ⟨0x180118, [(0x10000, 2)], [⟨22, 0, .rw, 1⟩]⟩
  , ⟨0x18011C, [(0x10000, 2)], [⟨31, 0, .ro, 0⟩]⟩
  , ⟨0x180120, [(0x10000, 2)], [⟨31, 16, .ro, 0⟩, ⟨7, 0, .ro, 0⟩]⟩
  , ⟨0x180200, [(0x10000, 2)], [⟨31, 0, .rc, 0⟩]⟩
  , ⟨0x180204, [(0x10000, 2)], [⟨31, 0, .rc, 0⟩]⟩
  , ⟨0x180208, [(0x10000, 2)], [⟨31, 0, .rc, 0⟩]⟩ ]

/-- Rows of the DDR tables. -/
def regTable_ddr1 : List Desc :=
  [ ⟨0x18020C, [(0x10000, 2)], [⟨31, 0, .rc, 0⟩]⟩
  , ⟨0x180210, [(0x10000, 2)], [⟨31, 0, .rc, 0⟩]⟩
  , ⟨0x180214, [(0x10000, 2)], [⟨31, 0, .rc, 0⟩]⟩
  , ⟨0x180218, [(0x10000, 2)], [⟨31, 0, .rc, 0⟩]⟩
  , ⟨0x18021C, [(0x10000, 2)], [⟨31, 0, .rc, 0⟩]⟩ ]

/-- The DDR unit's registers. -/
def regTable_ddr : List Desc := regTable_ddr0 ++ regTable_ddr1

/-- Rows of the RULE tables. -/
def regTable_rule0 : List Desc :=
  [ ⟨0x1C0000, [], [⟨1, 0, .rwe, 0⟩]⟩
  , ⟨0x1C0004, [], [⟨1, 0, .ro, 0⟩]⟩
  , ⟨0x1C0008, [], [⟨11, 0, .ro, 0⟩]⟩
  , ⟨0x1C000C, [], [⟨21, 0, .ro, 0⟩]⟩
  , ⟨0x1C0010, [], [⟨31, 31, .ro, 0⟩, ⟨30, 20, .ro, 0⟩, ⟨15, 0, .ro, 0⟩]⟩
  , ⟨0x1C0014, [], [⟨31, 31, .ro, 0⟩, ⟨10, 0, .ro, 0⟩]⟩
  , ⟨0x1C0020, [], [⟨31, 0, .rc, 0⟩]⟩
  , ⟨0x1C0024, [], [⟨31, 0, .rc, 0⟩]⟩
  , ⟨0x1C0028, [], [⟨31, 0, .rc, 0⟩]⟩
  , ⟨0x1C002C, [], [⟨31, 0, .rc, 0⟩]⟩
  , ⟨0x1C0030, [], [⟨31, 0, .rc, 0⟩]⟩
  , ⟨0x1C0034, [], [⟨31, 0, .rc, 0⟩]⟩
  , ⟨0x1C0038, [], [⟨31, 0, .rc, 0⟩]⟩
  , ⟨0x1C003C, [], [⟨31, 0, .rc, 0⟩]⟩
  , ⟨0x1C0040, [], [⟨31, 0, .rc, 0⟩]⟩ ]

/-- The RULE unit's registers. -/
def regTable_rule : List Desc := regTable_rule0

/-- Rows of the NIB tables. -/
def regTable_nib0 : List Desc :=
  [ ⟨0x200800, [], [⟨0, 0, .rwe, 0⟩]⟩
  , ⟨0x200804, [], [⟨0, 0, .ro, 0⟩]⟩
  , ⟨0x200808, [], [⟨4, 0, .rwe, 0⟩]⟩
  , ⟨0x20080C, [], [⟨4, 0, .ro, 0⟩]⟩
  , ⟨0x200810, [], [⟨25, 16, .ro, 0⟩, ⟨2, 2, .w1c, 0⟩, ⟨1, 1, .ro, 0⟩, ⟨0, 0, .ro, 0⟩]⟩
  , ⟨0x200814, [], [⟨31, 0, .rc, 0⟩]⟩
  , ⟨0x200818, [], [⟨31, 31, .ro, 0⟩, ⟨9, 0, .ro, 0⟩]⟩
  , ⟨0x200820, [], [⟨31, 0, .ro, 0⟩]⟩
  , ⟨0x200824, [], [⟨31, 0, .ro, 0⟩]⟩
  , ⟨0x200000, [(0x1000, 64)], [⟨8, 8, .rw, 1⟩, ⟨0, 0, .rwe, 1⟩]⟩
  , ⟨0x200004, [(0x1000, 64)], [⟨0, 0, .ro, 1⟩]⟩
  , ⟨0x200008, [(0x1000, 64)], [⟨31, 0, .ro, 0⟩]⟩
  , ⟨0x20000C, [(0x1000, 64)], [⟨14, 0, .ro, 0⟩]⟩
  , ⟨0x200010, [(0x1000, 64)], [⟨31, 16, .rc, 0⟩, ⟨15, 0, .ro, 0⟩]⟩
  , ⟨0x200020, [(0x1000, 64)], [⟨31, 0, .rc, 0⟩]⟩
  , ⟨0x200024, [(0x1000, 64)], [⟨31, 0, .rc, 0⟩]⟩
  , ⟨0x200028, [(0x1000, 64)], [⟨31, 0, .rc, 0⟩]⟩
  , ⟨0x20002C, [(0x1000, 64)], [⟨31, 0, .rc, 0⟩]⟩
  , ⟨0x200030, [(0x1000, 64)], [⟨31, 0, .rc, 0⟩]⟩
  , ⟨0x200034, [(0x1000, 64)], [⟨31, 31, .w1c, 0⟩, ⟨9, 8, .ro, 0⟩, ⟨4, 0, .ro, 0⟩]⟩
  , ⟨0x200038, [(0x1000, 64)], [⟨13, 12, .rw, 0⟩, ⟨11, 4, .rw, 0⟩, ⟨3, 0, .rw, 0⟩]⟩
  , ⟨0x20003C, [(0x1000, 64)], [⟨31, 0, .ro, 0⟩]⟩ ]

/-- The NIB unit's registers. -/
def regTable_nib : List Desc := regTable_nib0

/-- Rows of the OUT tables. -/
def regTable_out0 : List Desc :=
  [ ⟨0x240000, [], [⟨0, 0, .rw, 0⟩]⟩
  , ⟨0x240008, [], [⟨31, 30, .rw, 0⟩]⟩
  , ⟨0x24000C, [], [⟨3, 0, .rw, 8⟩]⟩
  , ⟨0x240020, [], [⟨31, 0, .rc, 0⟩]⟩
  , ⟨0x240024, [], [⟨31, 0, .rc, 0⟩]⟩
  , ⟨0x240028, [], [⟨31, 0, .rc, 0⟩]⟩
  , ⟨0x24002C, [], [⟨31, 0, .rc, 0⟩]⟩
  , ⟨0x240040, [], [⟨31, 0, .ro, 0⟩]⟩
  , ⟨0x240044, [], [⟨31, 0, .ro, 0⟩]⟩
  , ⟨0x240048, [], [⟨31, 0, .ro, 0⟩]⟩
  , ⟨0x24004C, [], [⟨31, 0, .ro, 0⟩]⟩
  , ⟨0x240800, [(0x20, 16)], [⟨31, 6, .rwe, 0⟩]⟩
  , ⟨0x240804, [(0x20, 16)], [⟨3, 0, .rwe, 8⟩]⟩
  , ⟨0x240808, [(0x20, 16)], [⟨23, 0, .rwe, 0⟩]⟩
  , ⟨0x24080C, [(0x20, 16)], [⟨31, 31, .rwe, 0⟩, ⟨22, 16, .rwe, 1⟩, ⟨9, 0, .rwe, 0⟩]⟩
  , ⟨0x240810, [(0x20, 16)], [⟨23, 0, .ro, 0⟩]⟩
  , ⟨0x240814, [(0x20, 16)], [⟨31, 0, .rc, 0⟩]⟩
  , ⟨0x241000, [(0x4, 1024)], [⟨16, 16, .ro, 0⟩, ⟨8, 8, .rwe, 1⟩, ⟨7, 0, .rwe, 0⟩]⟩
  , ⟨0x243000, [(0x20, 64)], [⟨31, 16, .rwe, 0⟩, ⟨15, 0, .rwe, 0⟩]⟩
  , ⟨0x243004, [(0x20, 64)], [⟨23, 0, .rwe, 0xffffff⟩]⟩
  , ⟨0x243008, [(0x20, 64)], [⟨23, 0, .rwe, 218⟩]⟩
  , ⟨0x24300C, [(0x20, 64)], [⟨31, 16, .rwe, 0⟩, ⟨0, 0, .rwe, 0⟩]⟩
  , ⟨0x243010, [(0x20, 64)], [⟨22, 0, .ro, 0⟩]⟩
  , ⟨0x243014, [(0x20, 64)], [⟨31, 31, .ro, 0⟩, ⟨23, 0, .ro, 0⟩]⟩ ]

/-- The OUT unit's registers. -/
def regTable_out : List Desc := regTable_out0

/-- Rows of the RCC tables. -/
def regTable_rcc0 : List Desc :=
  [ ⟨0x260000, [], [⟨24, 16, .ro, 128⟩, ⟨10, 0, .ro, 0⟩]⟩
  , ⟨0x260010, [], [⟨31, 0, .ro, 0⟩]⟩
  , ⟨0x260020, [], [⟨31, 0, .rc, 0⟩]⟩
  , ⟨0x260024, [], [⟨31, 0, .rc, 0⟩]⟩
  , ⟨0x260028, [], [⟨31, 0, .rc, 0⟩]⟩
  , ⟨0x260400, [(0x4, 256)], [⟨31, 30, .ro, 0⟩, ⟨26, 16, .ro, 0⟩, ⟨8, 0, .ro, 0⟩]⟩ ]

/-- The RCC unit's registers. -/
def regTable_rcc : List Desc := regTable_rcc0

/-- Rows of the QCORE tables. -/
def regTable_qcore0 : List Desc :=
  [ ⟨0x280000, [(0x1000, 64)], [⟨4, 4, .wo, 0⟩, ⟨3, 3, .wo, 0⟩, ⟨2, 2, .wo, 0⟩, ⟨1, 1, .wo, 0⟩]⟩
  , ⟨0x280004, [(0x1000, 64)], [⟨31, 30, .ro, 0⟩, ⟨27, 24, .ro, 0⟩, ⟨18, 18, .w1c, 0⟩, ⟨17, 17, .w1c, 0⟩, ⟨11, 0, .ro, 0⟩]⟩
  , ⟨0x280008, [(0x1000, 64)], [⟨11, 0, .rw, 0⟩]⟩
  , ⟨0x28000C, [(0x1000, 64)], [⟨0, 0, .wo, 0⟩]⟩
  , ⟨0x280010, [(0x1000, 64)], [⟨11, 0, .rw, 0⟩]⟩
  , ⟨0x280014, [(0x1000, 64)], [⟨31, 0, .rw, 0⟩]⟩
  , ⟨0x280018, [(0x1000, 64)], [⟨31, 0, .rw, 0⟩]⟩
  , ⟨0x280020, [(0x1000, 64), (0x4, 4)], [⟨31, 31, .rw, 0⟩, ⟨11, 0, .rw, 0⟩]⟩
  , ⟨0x280030, [(0x1000, 64)], [⟨5, 0, .rw, 0⟩]⟩
  , ⟨0x280034, [(0x1000, 64)], [⟨31, 0, .rw, 0⟩]⟩
  , ⟨0x280040, [(0x1000, 64)], [⟨31, 16, .rc, 0⟩, ⟨15, 0, .ro, 0⟩]⟩
  , ⟨0x280050, [(0x1000, 64)], [⟨31, 0, .rc, 0⟩]⟩
  , ⟨0x280054, [(0x1000, 64)], [⟨31, 0, .rc, 0⟩]⟩
  , ⟨0x280058, [(0x1000, 64)], [⟨31, 0, .rc, 0⟩]⟩
  , ⟨0x28005C, [(0x1000, 64)], [⟨31, 0, .rc, 0⟩]⟩ ]

/-- The QCORE unit's registers. -/
def regTable_qcore : List Desc := regTable_qcore0

/-- Rows of the TWIN tables. -/
def regTable_twin0 : List Desc :=
  [ ⟨0x2C0000, [], [⟨31, 31, .rw, 0⟩, ⟨10, 10, .wo, 0⟩, ⟨9, 9, .wo, 0⟩, ⟨8, 8, .wo, 0⟩]⟩
  , ⟨0x2C0004, [], [⟨31, 31, .rw, 0⟩, ⟨30, 30, .rw, 1⟩, ⟨23, 16, .rw, 20⟩, ⟨15, 0, .rw, 60⟩]⟩
  , ⟨0x2C0008, [], [⟨31, 16, .rw, 50⟩, ⟨15, 0, .rw, 10⟩]⟩
  , ⟨0x2C000C, [], [⟨31, 29, .ro, 0⟩, ⟨28, 26, .ro, 0⟩, ⟨25, 25, .ro, 0⟩, ⟨24, 24, .ro, 0⟩, ⟨23, 23, .ro, 0⟩, ⟨22, 21, .ro, 0⟩, ⟨20, 20, .ro, 0⟩, ⟨19, 19, .ro, 0⟩, ⟨18, 18, .w1c, 0⟩]⟩
  , ⟨0x2C0010, [], [⟨31, 0, .rw, 0⟩]⟩
  , ⟨0x2C0014, [], [⟨15, 0, .rw, 0⟩]⟩
  , ⟨0x2C0018, [], [⟨31, 0, .ro, 0⟩]⟩
  , ⟨0x2C001C, [], [⟨31, 0, .ro, 0⟩]⟩
  , ⟨0x2C0020, [], [⟨31, 0, .ro, 0⟩]⟩
  , ⟨0x2C0028, [], [⟨31, 0, .ro, 0⟩]⟩
  , ⟨0x2C002C, [], [⟨31, 0, .ro, 0⟩]⟩
  , ⟨0x2C0034, [], [⟨29, 24, .rw, 16⟩, ⟨13, 8, .ro, 0⟩, ⟨5, 0, .ro, 0⟩]⟩
  , ⟨0x2C0100, [(0x10, 8)], [⟨31, 10, .rw, 0⟩]⟩
  , ⟨0x2C0104, [(0x10, 8)], [⟨3, 0, .rw, 0⟩]⟩
  , ⟨0x2C0108, [(0x10, 8)], [⟨25, 10, .rw, 0⟩]⟩
  , ⟨0x2C0200, [], [⟨31, 0, .rc, 0⟩]⟩
  , ⟨0x2C0204, [], [⟨31, 0, .rc, 0⟩]⟩
  , ⟨0x2C0208, [], [⟨31, 0, .rc, 0⟩]⟩
  , ⟨0x2C020C, [], [⟨31, 0, .rc, 0⟩]⟩
  , ⟨0x2C0210, [], [⟨31, 0, .rc, 0⟩]⟩
  , ⟨0x2C0214, [], [⟨31, 0, .rc, 0⟩]⟩
  , ⟨0x2C0218, [], [⟨31, 0, .rc, 0⟩]⟩
  , ⟨0x2C021C, [], [⟨31, 0, .rc, 0⟩]⟩
  , ⟨0x2C0220, [], [⟨31, 0, .rc, 0⟩]⟩ ]

/-- The TWIN unit's registers. -/
def regTable_twin : List Desc := regTable_twin0

/-- Rows of the STAT tables. -/
def regTable_stat0 : List Desc :=
  [ ⟨0x2E0000, [], [⟨31, 31, .ro, 0⟩, ⟨1, 1, .wo, 0⟩, ⟨0, 0, .wo, 0⟩]⟩
  , ⟨0x2E0008, [], [⟨31, 0, .ro, 0⟩]⟩
  , ⟨0x2E000C, [], [⟨31, 0, .ro, 0⟩]⟩
  , ⟨0x2E0010, [], [⟨23, 2, .rw, 0⟩]⟩
  , ⟨0x2E0014, [], [⟨31, 0, .ro, 0⟩]⟩
  , ⟨0x2E0020, [], [⟨31, 0, .rc, 0⟩]⟩ ]

/-- The STAT unit's registers. -/
def regTable_stat : List Desc := regTable_stat0

/-- Rows of the EVT tables. -/
def regTable_evt0 : List Desc :=
  [ ⟨0x2F0000, [(0x4, 4)], [⟨31, 0, .w1c, 0⟩]⟩
  , ⟨0x2F0010, [], [⟨7, 0, .rw, 1⟩]⟩
  , ⟨0x2F0100, [(0x4, 128)], [⟨31, 31, .rw, 0⟩, ⟨29, 24, .rw, 0⟩, ⟨23, 23, .rw, 1⟩, ⟨22, 22, .rw, 0⟩, ⟨21, 16, .rw, 0⟩]⟩
  , ⟨0x2F0400, [(0x4, 128)], [⟨31, 31, .rc, 0⟩, ⟨10, 0, .rc, 0⟩]⟩
  , ⟨0x2F0800, [(0x4, 128)], [⟨31, 0, .rc, 0⟩]⟩ ]

/-- The EVT unit's registers. -/
def regTable_evt : List Desc := regTable_evt0

/-- Rows of the DBG tables. -/
def regTable_dbg0 : List Desc :=
  [ ⟨0x300000, [], [⟨2, 2, .wo, 0⟩, ⟨1, 1, .wo, 0⟩, ⟨0, 0, .wo, 0⟩]⟩
  , ⟨0x300004, [], [⟨31, 30, .ro, 0⟩, ⟨29, 29, .ro, 0⟩, ⟨1, 0, .ro, 0⟩]⟩
  , ⟨0x300010, [(0x4, 8)], [⟨31, 0, .ro, 0⟩]⟩
  , ⟨0x300100, [(0x4, 56)], [⟨31, 0, .wo, 0⟩]⟩
  , ⟨0x300200, [], [⟨31, 31, .rwl, 0⟩, ⟨3, 0, .rwl, 0⟩]⟩
  , ⟨0x300300, [], [⟨31, 0, .rc, 0⟩]⟩
  , ⟨0x300304, [], [⟨31, 0, .rc, 0⟩]⟩ ]

/-- The DBG unit's registers. -/
def regTable_dbg : List Desc := regTable_dbg0

end Sys2Proof.Machine
end

