-- ==== Sys2Proof/Config.lean ====
section
/-! DEFINITION. What a part fixes once for all: the variants of R1, and the values the spec leaves open. -/

namespace Sys2Proof

/-- R1: the three variants that share one SoC. -/
inductive Variant where
  | el9610 | el9620 | el9630
  deriving DecidableEq, Repr

namespace Config

/-- A value the spec leaves open, drawn afresh for each use (log entry 2). -/
opaque freeWord : Nat → Word

/-- R392: the FIR coefficient in ROM of a preset, for M = 16 · 2^mSel, at a tap (log entry 9). -/
opaque firCoef : Nat → Nat → Nat → BitVec 24

/-- R405: the weighting coefficient in ROM: 48 kHz or 96 kHz, weighting (0 A, 1 C), section, coefficient (log entry 9). -/
opaque wtCoef : Bool → Nat → Nat → Nat → Word

/-- R311: the proportional and the integral gain of the media loop for a code of CLK_MEDIA_CTL.BW: 1/65,536 of 1/16 ppb per
sixteenth of a nanosecond of e, the latter for each edge (log entry 192). -/
opaque loopGain : Nat → Nat × Nat

/-- R515: a twin pairing key as MRAM holds it, wrapped under a key derived from IMG_KEY, or from UID where there is none; the spec
gives neither the derivation nor the wrap (log entry 92). -/
opaque wrapKey : Option (BitVec 256) → BitVec 64 → BitVec 128 → BitVec 192

/-- R518: the Vendor ID and the revision in configuration space, which the spec does not give (log entry 120). -/
opaque vendorId : BitVec 16
opaque revisionId : BitVec 8

/-- R509: the position of a pad in the boundary register (log entry 20). -/
opaque scanCell : Nat → Nat

end Config

end Sys2Proof
end

