-- ==== Sys2Proof/Machine/State.lean ====
section
/-! DEFINITION. The state of the module as plain data: the register file, memory, and every engine, queue, table and pin the
spec gives the block, with the queue of waiting commands; the reasons a step can stop; the state right after reset. -/

namespace Sys2Proof.Machine

/-- No command of this model ends in a fault: every event of the block has an effect the spec gives, or does not occur in the
present state (log entry 3). The one constructor keeps the type inhabited; nothing raises it, so it is safe. -/
inductive Fault where
  /-- Raised by no meaning. Safe. -/
  | noFault
  deriving DecidableEq, Repr

/-- Why a command has no meaning. -/
inductive Refusal where
  /-- Raised only by the dispatch arm of a command whose meaning is not written. Safe. -/
  | notModelled (mnemonic : String)
  deriving DecidableEq, Repr

/-- A point or vector of the venue frame (R48, R49), as field values. -/
structure Vec3 where
  x : Int
  y : Int
  z : Int
  deriving DecidableEq, Repr

/-- R61: one trajectory segment. -/
structure Seg where
  p0 : Vec3
  p1 : Vec3
  v0 : Vec3
  v1 : Vec3
  tStart : Nat
  tEnd : Nat
  deriving DecidableEq, Repr

/-- R57: the life cycle of an object. -/
inductive ObjSt where
  | free | armed | live | releasing
  deriving DecidableEq, Repr

/-- R56: one object record and what the module maintains beside it. -/
structure Obj where
  /-- STATE (R57). -/
  st : ObjSt
  /-- Record words 0 to 5 as set commands write them (word 0 without STATE). -/
  words : List Word
  /-- ARM_BN: the current target of the pending spawn's commit. -/
  armBN : Nat
  /-- The commit that holds the spawn of an ARMED object. -/
  armCid : Nat
  hold : Vec3
  segs : List Seg
  segHead : Nat
  /-- Held position, segments and head as this interval's evaluation leaves them; they show from the next boundary (R53). -/
  after : Option (Vec3 × List Seg × Nat)
  /-- Position used for the most recent block computed (R63). -/
  lastPos : Option Vec3
  /-- F and N′ of a release (R60). -/
  relF : Nat
  relN : Nat
  /-- Control rate fixed for the release (R60). -/
  relRate : Nat
  deriving DecidableEq, Repr

/-- An object's groups of blocks (R109 to R111, R133): the phase and rate by which groups start, the last group computed, and
the group the tile renders from; with the mask bits that fix the object's slots in the wide partition (R114). -/
structure XpObj where
  phase : Nat
  n : Nat
  curStart : Nat
  curLen : Nat
  nibStart : Nat
  nibLen : Nat
  /-- The next record computed is the object's first (R59). -/
  fresh : Bool
  mask : BitVec 1024
  maskN : BitVec 1024
  deriving DecidableEq, Repr

/-- R74: a speaker record, as eight words. -/
structure Spk where
  words : List Word
  deriving DecidableEq, Repr

/-- R78: a zone record: TEMP, D_REF and the derived SPM. -/
structure Zone where
  temp : Int
  dRef : Nat
  spm : Nat
  deriving DecidableEq, Repr

/-- What a commit stages (R188, R189): RWE fields of a register, or the fields of an epoch-bound command. -/
inductive Item where
  | reg (off mask val : Nat)
  | spawn (o : Nat) (words : List Word)
  | objSet (o : Nat) (sets : List (Nat × Word))
  | release (o : Nat)
  | spk (n : Nat) (words : List Word)
  | zone (n : Nat) (words : List Word)
  | maskSet (n : Nat) (bits : BitVec 1024)
  | vbap (n : Nat) (words : List Word)
  | partition (wide : Bool)
  | route (n : Nat) (e : BitVec 64)
  | handover
  | anchor (o : Int)
  deriving DecidableEq, Repr

/-- A sealed commit that has not yet applied or failed (R188 to R196). -/
structure Commit where
  cid : Nat
  target : Nat
  original : Nat
  defers : Nat
  items : List Item
  /-- R192: participants that have raised ARM. -/
  armed : Nat
  /-- Live offsets whose shadows the commit wrote, and those of them written again since (R196). -/
  wrote : List Nat
  rewritten : List Nat
  /-- The verdict latched for the next boundary, if any: GO or DEFER. -/
  verdict : Option Bool
  /-- Acknowledgements of the standby still due before TWIN arms (R201, R455). -/
  acksDue : Nat
  /-- R455: the commit was forwarded by the partner, whose CID it carries. -/
  peer : Bool
  deriving DecidableEq, Repr

/-- A staged value of an applied commit that a later stage takes at boundary `at` (R38, R39). -/
structure Take where
  bn : Nat
  epoch : Nat
  stage : Nat
  item : Item
  deriving DecidableEq, Repr

/-- A trajectory command that takes effect at the next boundary (R64); none is a flush. -/
structure TrajOp where
  obj : Nat
  seg : Option Seg
  deriving DecidableEq, Repr

/-- A record the Ruling engine has computed and the tile has not yet let it write (R134). -/
structure XpWrite where
  tile : Nat
  set : Nat
  slot : Nat
  out : Nat
  record : BitVec 48
  deriving DecidableEq, Repr

/-- A row of the Ruling tables (R95, R270): what SPK_SET, ZONE_SET, MASK_SET and VBAP_SET write (DEDUCED, log entry 164). -/
inductive TblRow where
  | spk (n : Nat)
  | zone (n : Nat)
  | mask (n : Nat)
  | vbap (i : Nat)
  deriving DecidableEq, Repr

/-- The scene tables and the Ruling engine, Inkwell and Nib array beside their memories. -/
structure Scene where
  objs : List (Nat × Obj)
  xp : List (Nat × XpObj)
  /-- Objects that have become FREE and whose records the next pass makes inactive (R83). -/
  clearing : List Nat
  /-- Speaker records as the Ruling engine (E + 1) and the output stage (E + 2) hold them (R75). -/
  spkR : List (Nat × Spk)
  spkO : List (Nat × Spk)
  zones : List (Nat × Zone)
  masks : List (Nat × BitVec 1024)
  vbap : List (Nat × List Word)
  trajOps : List TrajOp
  /-- R53: the objects as they stood at the last boundary, or as a spawn accepted since then set them. -/
  seen : List (Nat × Obj)
  /-- R151: the partition as the Ruling engine and write path (E + 1) and the tiles (E + 2) have it. -/
  wideR : Bool
  wideN : Bool
  /-- History floor set for every object by a partition switch (R126). -/
  floorAll : Nat
  floors : List (Nat × Nat)
  /-- R152: the blocks muted by partition switches: first muted block, and the first block after them. -/
  mutes : List (Nat × Nat)
  /-- Control rate n taken at the last boundary, and the block at which it was last changed. -/
  rate : Nat
  rateAt : Nat
  /-- R133: objects whose SETSEL bit flips at the next cycle 0. -/
  flips : List Nat
  xpWrites : List XpWrite
  /-- R137: objects rendered with origin equal to target in the block of the next interval, and in the present one. -/
  stuckNext : List Nat
  stuck : List Nat
  /-- R116: the pair held for a later interval. -/
  held : Option (Nat × Nat × Nat × BitVec 48)
  /-- R125: slots of the ingress block that the named core has written, per Quill-fed object. -/
  submitted : List (Nat × BitVec 32)
  /-- R142: part[s][i] of each tile, keyed tile · 1,024 + s. -/
  parts : List (Nat × List Int)
  /-- Output groups each tile has finished in this interval (R29). -/
  tileDone : List (Nat × Nat)
  /-- Crosspoints each tile has rendered in this interval. -/
  tileXp : List (Nat × Nat)
  /-- Output groups reduced by the sum tree, and the samples y of R143. -/
  sumDone : Nat
  ys : List (Nat × List Int)
  /-- Lowest output saturated in the block in render (R144). -/
  satOut : Option Nat
  /-- Tiles whose self-test has failed in the present block (R147). -/
  bistBlock : List Nat
  /-- TAPS as the Nib array uses them (taken at E + 2), per object. -/
  tapsN : List (Nat × Nat)
  /-- Cycle / 16 at which each tile finished in this interval. -/
  tileFin : List (Nat × Nat)
  /-- Self-test passes each tile has counted. -/
  bistN : List (Nat × Nat)
  /-- R270: rows of the Ruling tables that hold a word whose parity fails. -/
  tblBad : List TblRow
  deriving DecidableEq, Repr

/-- One output's state in the output stage. -/
structure OutSt where
  /-- OUT_GAIN, BULK_DELAY and RCC_PROFILE used for the previous block. -/
  gainPrev : Nat
  bulkPrev : Nat
  profPrev : Nat
  /-- x2 of the previous block (R168). -/
  x2prev : List Int
  /-- fm, its target, the step per sample and the samples left of a fade (R179). -/
  fm : Nat
  target : Nat
  fadeStep : Nat
  fadeLeft : Nat
  deriving DecidableEq, Repr

/-- One limiter zone (R173 to R175). -/
structure LimZone where
  gr : Nat
  lgPrev : Nat
  lgNew : Nat
  /-- P of the block being rendered, as far as it has been processed. -/
  peak : Nat
  guardBit : Bool
  deriving DecidableEq, Repr

/-- R164 to R166: one RCC profile slot: 0 IDENTITY, 1 LOADING, 2 LOADED. -/
structure RccSlot where
  st : Nat
  parts : Nat
  /-- Made for 48 kHz. -/
  rate48 : Bool
  deriving DecidableEq, Repr

/-- An accepted RCC_LOAD (R166). -/
structure RccLoad where
  slot : Nat
  src : Nat
  q : Nat
  tag : Word
  deriving DecidableEq, Repr

/-- The output stage and the RCC. -/
structure OutStage where
  outs : List (Nat × OutSt)
  zones : List (Nat × LimZone)
  /-- Zones taken by speakers' LIM_ZONE are in Scene.spkO. R159: the ring floor. -/
  ringFloor : Nat
  ringBase : Nat
  /-- Groups processed in this interval. -/
  done : Nat
  /-- Events and counts of the block in render, reported once for each block. -/
  ceilZone : Option Nat
  rccParity : Option Nat
  xfades : Nat
  macs : Nat
  slots : List (Nat × RccSlot)
  loads : List RccLoad
  /-- Routing table as taken at E + 2, and as the egress units use it (R183). -/
  routes : List (Nat × BitVec 64)
  routesEg : List (Nat × BitVec 64)
  deriving DecidableEq, Repr

/-- Memory: bytes by address in canonical form, and the words whose parity or ECC check fails (R269, R424). -/
structure Mem where
  cells : List Host.Cell
  /-- Word addresses whose stored check fails, rising. -/
  bad : List Nat
  /-- R273: banks that have been OFF, and the words of them written whole since. -/
  lost : List Nat
  rewritten : List Nat
  deriving DecidableEq, Repr

/-- R278 to R280: one word in a queue. -/
structure QEntry where
  pay : BitVec 60
  gap : Bool
  /-- A pop would find that the stored word fails its check (R280); no stored entry carries it. -/
  bad : Bool
  deriving DecidableEq, Repr

/-- One queue (R281 to R293). -/
structure QState where
  /-- Slot of the head word, from BASE on (R281). -/
  head : Nat
  items : List QEntry
  armed : Bool
  /-- R293: words pushed across a clock domain that have not arrived: up to four in the transit stage, and behind them Scribe
  pushes that wait for space in it. -/
  transit : List (BitVec 60)
  /-- The model's own: the last event of the queue was a pop or a flush, before which its watermark was armed or not (R289). -/
  popped : Option Bool
  deriving DecidableEq, Repr

/-- R229: the states of a Quill core. -/
inductive QSt where
  | idle | running | halted | fault
  deriving DecidableEq, Repr

/-- A taken or untaken branch whose delay slots have not all issued. -/
structure Delay where
  left : Nat
  target : Option Nat
  /-- RTI: the status to restore. -/
  status : Option Word
  deriving DecidableEq, Repr

/-- One Quill core (R204, R226, R229). -/
structure QCore where
  st : QSt
  cause : Nat
  pc : Nat
  lastPc : Nat
  d : List Word
  a : List (BitVec 24)
  m : List (BitVec 24)
  /-- Accumulators as an X-slot operation sees them, and as a move sees them (R208). -/
  ac : List (BitVec 72)
  acm : List (BitVec 72)
  /-- Accumulators that the X slot of the last bundle wrote (R252). -/
  acBusy : List Nat
  lc : Nat
  ls : Nat
  le : Nat
  sr : Word
  iv : Nat
  ipend : Nat
  imask : Nat
  epc : Nat
  est : Word
  timer : Word
  pm : List (Nat × Bundle)
  pmBad : List Nat
  /-- R510: how the program came: 0 none, 1 from a Folio with ENC = 0 or written directly, 2 from a Folio with ENC = 1. -/
  prog : Nat
  /-- Loads in flight: register code and word (R208). -/
  land : List (Nat × Word)
  delay : Option Delay
  inRep : Bool
  repTail : Bool
  waiting : Bool
  /-- R223: RTI holds back the next bundle until every result has landed. -/
  hold : Bool
  /-- A load from a stall region that has not returned: register code and word address (R215). -/
  stall : Option (Nat × Nat)
  wbuf : List (Nat × Word)
  /-- R215, R221: the bundle at the PC stalls behind a full write buffer. -/
  bufWait : Bool
  /-- A requested halt and its CAUSE; 0 for none (R231). -/
  haltReq : Nat
  /-- Cycle / 16 of the last Quill-fed object block completed in this interval. -/
  submit : Nat
  deriving DecidableEq, Repr

/-- The Time unit and the media clock (R297 to R321). -/
structure TimeSt where
  /-- The counter in units of 2⁻³² ns. -/
  ptp : Nat
  /-- R306: 0 FREE, 1 TRACKING, 2 HOLDOVER. -/
  servo : Nat
  /-- Time since power-up, in ns, of the last write of TIME_OFS_HI (R306). -/
  ofsAge : Nat
  o : Int
  /-- The media offset that governs block BN − 1 (R315). -/
  oPrev : Int
  oReq : Int
  /-- R315: seal the anchor commit again at the next boundary. -/
  anchorRetry : Bool
  /-- A step has occurred and its anchor commit has not been sealed (R314). -/
  anchorDue : Bool
  mst : Nat
  /-- R311: e at the last edge, and the edges in a row with |e| ≤ 1,600. -/
  e : Int
  lockRun : Nat
  /-- WCLK_OUT mode in force (R320), and whether WCLK_IN was lost in the present gate (R321). -/
  wclkMode : Nat
  wclkLost : Bool
  pps : Bool
  /-- The counter has passed a whole second with OUT_EN = 1, and the rise of PPS_OUT is to come; the time of the last rise (R318). -/
  ppsDue : Bool
  ppsAt : Nat
  wclkOut : Bool
  /-- The last sample edge in units of 2⁻³² ns since power-up, the deviation of the sample rate in 1/16 ppb, and whether the first
  edge since the start of the media clock is still to come (R310, R311). -/
  edgeAt : Nat
  dev : Int
  first : Bool
  /-- R311: the integral part of the loop, in 1/65,536 of 1/16 ppb. -/
  integ : Int
  /-- Steps of the last millisecond: time since power-up and sixteenths (R305). -/
  steps : List (Nat × Int)
  /-- Changes of TIME_FREQ in the last millisecond, latest first: time since power-up and the value before (R302). -/
  freqs : List (Nat × Int)
  /-- Transmit timestamp queues of the ports: ID and time in sixteenths of a nanosecond, oldest first. -/
  txts : List (Nat × List (Nat × Nat))
  deriving DecidableEq, Repr

/-- The block schedule, the commit controller and the clock domains. -/
structure Sched where
  /-- GLB_BN, and the copies of the MEDIA, PTP, DRAM and AON domains (R42). -/
  bn : Nat
  bnMedia : Nat
  bnPtp : Nat
  bnDram : Nat
  bnAon : Nat
  /-- CORE cycle of the interval (R28). -/
  cycle : Nat
  /-- The model's own: nanoseconds that have passed since power-up. -/
  up : Nat
  rendering : Bool
  /-- R531: the boundary at which render starts. -/
  startAt : Option Nat
  /-- R483: the boundary at which a QUIET request takes effect. -/
  quietAt : Option Nat
  commits : List Commit
  nextCid : Nat
  takes : List Take
  /-- Live offsets whose shadows are open (R188). -/
  openShadows : List Nat
  /-- What the engines have done in this interval. -/
  copyDone : Bool
  ruleDone : Bool
  mergeDone : Bool
  quillClosed : Bool
  nibClosed : Bool
  outClosed : Bool
  verdictDone : Bool
  overrun : Bool
  finRule : Nat
  finQuill : Nat
  finNib : Nat
  finOut : Nat
  /-- Fault events that fire once for each block: MEMC parity and law faults seen in this block. -/
  parityBlock : Bool
  deriving DecidableEq, Repr

/-- A host command whose execution ended at acceptance (R525). -/
structure Waiting where
  q : Nat
  tag : Word
  /-- 0x05 ABORT, 0x09 DMA_COPY, 0x21 RCC_LOAD. -/
  opcode : Nat
  arg : Nat
  /-- Completion words whose room is held. -/
  room : Nat
  deriving DecidableEq, Repr

/-- One DMA channel's transfer (R534). -/
structure Dma where
  q : Nat
  tag : Word
  src : Nat
  dst : Nat
  len : Nat
  /-- R542: the words that remain, as HIF_DMA_STATUS last showed them. -/
  left : Nat
  deriving DecidableEq, Repr

/-- The host interface and boot (R518 to R541). -/
structure Hif where
  linkUp : Bool
  stage : Nat
  bootSrc : Bool
  msixPend : BitVec 64
  /-- R547: boundaries since the last message on each vector, at most 255. -/
  msixSent : List (Nat × Nat)
  msixOut : List Nat
  /-- R523: MSI-X Enable and the function mask of Message Control. -/
  msixEn : Bool
  funcMask : Bool
  /-- R518: D3hot; AER's uncorrectable error status and mask. -/
  d3 : Bool
  aerStatus : Word
  aerMask : Word
  waitingCmds : List Waiting
  dma : List (Nat × Dma)
  aborting : List Nat
  abortBusy : Bool
  /-- R526: words of a command queue are discarded up to the next header. -/
  skipping : List Nat
  /-- R525: the CMD queue that was served last. -/
  lastQ : Nat
  /-- R538, R540: the directory copy from which the module booted. -/
  dirUsed : Option Nat
  deriving DecidableEq, Repr

/-- Statistics (R550 to R553) and the trace port (R554 to R556). -/
structure Stat where
  snapArmed : Bool
  snapClear : Bool
  snapAt : Nat
  latched : Bool
  taken : Bool
  shadow : List (Nat × Word)
  traceBuf : List (List Byte)
  traceOut : List Byte
  traceLost : Nat
  traceCount : Nat
  deriving DecidableEq, Repr

/-- R448 to R452: one message of the Ligature link. -/
structure TwMsg where
  mseq : Nat
  ty : Nat
  sub : Nat
  body : List Byte
  deriving DecidableEq, Repr

/-- R449: a fragment sent and not yet acknowledged. -/
structure TwFrag where
  fseq : Nat
  /-- Interval of the last sending. -/
  sent : Nat
  resends : Nat
  /-- A heartbeat has shown it missing: it is to be resent. -/
  marked : Bool
  bytes : List Byte
  deriving DecidableEq, Repr

/-- R448: a fragment received valid. -/
structure TwRx where
  mseq : Nat
  ty : Nat
  sub : Nat
  index : Nat
  last : Nat
  payload : List Byte
  deriving DecidableEq, Repr

/-- R456: an accepted VERDICT: boundary, released CSEQ, and (CID, outcome) entries. -/
structure TwVerdict where
  bn : Nat
  rel : Nat
  outs : List (Nat × Nat)
  deriving DecidableEq, Repr

/-- R457: an item that is not epoch-bound and is held for the standby. -/
structure TwHeld where
  cseq : Nat
  /-- 0 command, 1 queue push, 2 RCC image. -/
  kind : Nat
  /-- Queue the command came on, or the queue pushed to. -/
  q : Nat
  tag : Word
  words : List Word
  /-- FSEQ of the last fragment of the record that carries it, once sent. -/
  fseq : Option Nat
  /-- BN of the record that carries it. -/
  inRec : Option Nat
  deriving DecidableEq, Repr

/-- The twin controller and the Ligature link (R442 to R473). -/
structure TwinSt where
  /-- R443: 0 ISOLATED, 1 ACTIVE, 2 STANDBY, 3 STALE, 4 SYNCING, 5 FAULT; the partner's as its last HEARTBEAT gave it. -/
  st : Nat
  peerSt : Nat
  /-- Changes that fall due: boundary, and what then happens (0 EN cleared, 1 EN set, 2 transmit, 3 stop and go STALE, 4 FAULT,
  5 RESTART, 6 in sync, 7 an image's values become live, 8 cold takeover, 9 takeover). -/
  due : List (Nat × Nat)
  lanes : Nat
  alivePin : Bool
  /-- R444: TWIN_SEL pin, TDM outputs high-impedance. -/
  sel : Bool
  floating : Bool
  /-- R446: the partner's TWIN_ALIVE is present; edges in a row with valid spacing. -/
  peerAlive : Bool
  peerEdges : Nat
  /-- A frame with source address TWIN_PEER_MAC has arrived since the wait began (R461). -/
  peerFrames : Bool
  /-- 0 no wait, 1 the split wait of R461, 2 the wait at enable of R470; the time it began. -/
  waiting : Nat
  waitAt : Nat
  /-- Times of the last edge of TWIN_ALIVE, out and in; of the last health word; of the entry to SYNCING. -/
  aliveAt : Nat
  edgeAt : Nat
  hAt : Nat
  syncAt : Nat
  /-- The output stage completed the previous interval; this interval's HEARTBEAT is decided; the boundary judged last. -/
  outDone : Bool
  hbDone : Bool
  hbJudged : Nat
  lastHb : Nat
  /-- Outcomes of this interval's verdict: CID, and 0 GO, 1 DEFER, 2 FAIL; boundary of the last VERDICT sent; BN of the last
  record sent. -/
  outcomes : List (Nat × Nat)
  verdictSent : Nat
  recSent : Nat
  fseq : Nat
  mseq : Nat
  unacked : List TwFrag
  txq : List TwMsg
  /-- Fragments put on the lanes in this interval: lane and bytes. -/
  laneOut : List (Nat × List Byte)
  rx : List TwRx
  rxAck : Nat
  rxSack : List Nat
  mseqHi : Nat
  mseqSeen : List Nat
  /-- BNs of heartbeats accepted, misses in a row, heartbeats withheld in a row, counter at the last KICK. -/
  hbSeen : List Nat
  hbMissed : Nat
  hbWithheld : Nat
  kickAt : Option Nat
  /-- Commits whose values have not been forwarded: CID, target, items (R455). -/
  toForward : List (Nat × Nat × List Item)
  /-- Commits of the partner to acknowledge. -/
  toAck : List Nat
  verdicts : List TwVerdict
  heldItems : List TwHeld
  nextCseq : Nat
  relCseq : Nat
  /-- Released items that execute at a boundary. -/
  released : List (Nat × TwHeld)
  /-- R459: the peer's snapshots of the last intervals, records received, last record applied, matching records in a row. -/
  snaps : List (Nat × List Byte)
  records : List (Nat × List Byte)
  lastApplied : Option Nat
  matched : Nat
  /-- R460: objects still to be sent: block and object; payload bytes of REPAIR DATA sent in this interval. -/
  repairs : List (Nat × Nat)
  repairSent : Nat
  /-- R460: repairs that have arrived and are written in the guard slot: block, object and words. -/
  repairIn : List (Nat × Nat × List Word)
  /-- Second of health: bits gathered so far, words sent, seconds in STANDBY with a clean word (R467, R473). -/
  hBits : Nat
  hSeq : Nat
  hClean : Nat
  /-- R470: STALE at enable and waiting for a HELLO; BN since when the module transmits. -/
  hello : Bool
  txSince : Option Nat
  /-- R468: register words received in an image, live at the boundary after END. -/
  imageRegs : List (Nat × Word)
  /-- R468: the image in hand: CRC-32C and length of what has been handed over; its register image and END are still to come. -/
  imageRun : Option (Nat × Nat)
  /-- R459, R467: time and interval of the last entry to STANDBY; BNs of the records applied. -/
  standAt : Nat
  standBn : Nat
  applied : List Nat
  /-- BN of the last record made, which may wait for the window (R449). -/
  recMade : Nat
  /-- R447: the scramblers of the lanes, latest bit first, and the blocks put on them in this interval: lane, sync header in bits
  [1:0], payload. -/
  scr : List (Nat × Nat)
  lane66 : List (Nat × BitVec 66)
  deriving DecidableEq, Repr

/-- R417: a word of a queued write: enabled bytes, data, and whether it is written as poison (R426). -/
structure DramWord where
  be : BitVec 4
  val : Word
  poison : Bool
  deriving DecidableEq, Repr

/-- R417: an entry of a DRAM controller's queues: a 64-byte unit with a byte mask. -/
structure DramReq where
  /-- Its number in order of arrival at the controller. -/
  seq : Nat
  /-- 0 to 2: RT0 to RT2; 3 to 5: U0 to U2 (R416). -/
  port : Nat
  wr : Bool
  unit : Nat
  words : List DramWord
  /-- R429: the buffer of a real-time request. -/
  buf : Nat
  /-- Time of arrival in ns (R420, R421), and command slots issued before it (R422). -/
  at' : Nat
  slot : Nat
  /-- DDR_URGENT_CNT has counted it (R421). -/
  hot : Bool
  deriving DecidableEq, Repr

/-- One DRAM controller beside its registers (R417 to R440). -/
structure DdrSt where
  /-- Delays held for active ranks, and delays in use, keyed by the fields of DDR_TRN_IDX. -/
  trnHeld : List (Nat × Nat)
  trnUse : List (Nat × Nat)
  /-- The interval whose guard slot loads the held delays (R433). -/
  applyAt : Option Nat
  /-- Units to be written back after a correction (R425), oldest first. -/
  wb : List Nat
  /-- Logical ranks all of whose owed refreshes are forced (R431). -/
  forcing : List Nat
  /-- The logical rank whose contents are moving to the spare. -/
  migRank : Option Nat
  testRunning : Bool
  /-- DDR_UE has fired in this block; time of the last DDR_CE. -/
  ueBlock : Bool
  ceAt : Option Nat
  /-- R417: read and write queue, and requests that wait at their ports, oldest first. -/
  rq : List DramReq
  wq : List DramReq
  wait : List DramReq
  /-- Number of the next request, and command slots issued. -/
  nextSeq : Nat
  slots : Nat
  /-- R419: a drain of the write queue is in progress. -/
  drain : Bool
  /-- R420: real-time ports in PANIC. -/
  panic : List Nat
  /-- R422: open rows, keyed by rank, subchannel, bank group and bank. -/
  openRows : List (Nat × Nat)
  /-- R429: real-time bursts in progress: port and buffer; and ranks whose next slot is a PANIC port's. -/
  bursts : List (Nat × Nat)
  panicSlot : List Nat
  /-- R424: words whose device bits give a correctable and an uncorrectable syndrome. -/
  ceWords : List Nat
  ueWords : List Nat
  /-- R422, R437: when the migration began. -/
  migAt : Nat
  /-- R428: the latest tREFI tick that has been counted, and the refreshes that the spare rank owes. -/
  refAt : Option Nat
  spareOwed : Nat
  /-- R438: words of the failing rank below M that differ from the spare's: address, data, and 0 clean, 1 correctable, 2
  uncorrectable, 3 poison. -/
  oldWords : List (Nat × Word × Nat)
  /-- R435: words that tests have left on the spare, keyed (2 · unit + subchannel) · 16 + beat; R436: its delays as last applied. -/
  spareMem : List (Nat × Word)
  spareSet : List (Nat × Nat)
  deriving DecidableEq, Repr

/-- R336: a frame on a port's wire, or the rest of one that was preempted. -/
structure TxFrame where
  /-- Bytes of the frame, FCS included. -/
  bytes : List Byte
  /-- 0 or 1: transmit ring; 2 to 5: stream class A to D. -/
  src : Nat
  express : Bool
  /-- Address of its descriptor, or the stream of a stream frame. -/
  desc : Nat
  /-- Bytes that its earlier fragments have carried (R337). -/
  sent : Nat
  deriving DecidableEq, Repr

/-- A media port, or the management port (16), beside its registers. -/
structure NetSt where
  wire : Option TxFrame
  /-- The preempted frame whose remaining fragments are to follow (R337). -/
  cut : Option TxFrame
  /-- Frames of the stream classes A to D, oldest first: stream and frame without FCS. -/
  cls : List (List (Nat × List Byte))
  /-- Shaper credit of each class in 10⁻⁶ bit, and the time it stands for (R338). -/
  credit : List Int
  creditAt : Nat
  /-- Quanta of the pause in force, the time of its load (R340), the time since which the port has been held without a break, and
  the time at which the holdoff ends (R341). -/
  pauseQ : Nat
  pauseAt : Nat
  heldFrom : Nat
  holdEnd : Nat
  /-- R326: block lock or code-group synchronisation holds; auto-negotiation has completed; the SGMII partner signals 1,000 Mb/s
  full duplex. -/
  lock : Bool
  anDone : Bool
  gigFull : Bool
  /-- Rings whose event has fired in this block (R335): receive 0, 1, transmit 0, 1. -/
  ringEv : List Nat
  halted : Bool
  deriving DecidableEq, Repr

/-- A receive stream beside its registers (R352 to R359). -/
structure StrmRx where
  miss : Nat
  fin : Nat
  hold : List Int
  seqPri : Option Nat
  seqSec : Option Nat
  /-- BN of the last matching frame on each path. -/
  lastPri : Option Nat
  lastSec : Option Nat
  /-- The boundary at which the entry went live, and whether its DRAM ring is still being cleared (R359). -/
  since : Nat
  clearing : Bool
  deriving DecidableEq, Repr

/-- A transmit stream beside its registers (R360). -/
structure StrmTx where
  /-- Egress MST of the first frame of the next packet, frames gathered for it, and its sequence number. -/
  first : Nat
  frames : List (List Word)
  seq : Nat
  deriving DecidableEq, Repr

/-- The stream engine. -/
structure StrmSt where
  rx : List (Nat × StrmRx)
  tx : List (Nat × StrmTx)
  /-- R357: open groups, and blocks in a row without a PRESENT frame. -/
  open' : List Nat
  quiet : List (Nat × Nat)
  spillBase : Nat
  /-- Block i of this interval has been finalised. -/
  done : Bool
  deriving DecidableEq, Repr

/-- One TDM port beside its registers (R370 to R384). -/
structure TdmSt where
  /-- Masks in use in the bit-clock domain, and the pending register: stamp and mask (R377). -/
  rxMask : Nat
  txMask : Nat
  pendRx : Option (Nat × Nat)
  pendTx : Option (Nat × Nat)
  /-- First MST written and transmitted after the enable, and after a fault (R375, R379). -/
  start : Nat
  resume : Nat
  /-- Frames in a row of the right spacing; the latest gate lies within SYNC_TOL; the phase held at lock. -/
  good : Nat
  gateOk : Bool
  phase : Int
  /-- MST of the next received frame of a locked slave; windows that have had a received or transmitted frame (R380). -/
  nextM : Option Nat
  rxM : Option Nat
  txM : Option Nat
  /-- Free-running frame counts (R381), now and at the last boundary. -/
  rxCount : Nat
  txCount : Nat
  rxBnd : Nat
  txBnd : Nat
  /-- A gate has ended since the enable; the reference of R384. -/
  gated : Bool
  refRate : Nat
  /-- The slots of the frame on the wire; none is high-impedance. -/
  wire : List (Option Word)
  /-- The latest sync came too soon after a mask's arrival to take it (R377). -/
  lateSync : Bool
  /-- RESAMPLE: count of the first valid frame that the transmit group has written since the enable (R375). -/
  txValid : Option Nat
  /-- The last receive mask taken at a sync: its stamp and the mask before it, which governs frames of earlier MST (R376); and the
  masks of the frames that have begun and not completed, oldest first. -/
  rxWas : Option (Nat × Nat)
  begun : List Nat
  /-- Egress MST of a frame that began before the boundary that seals its block (R21). -/
  txWait : Option Nat
  deriving DecidableEq, Repr

/-- A resampler group (R397 to R404): 0 OFF, 1 settling with R_base unknown, 2 settling, 3 RUNNING. -/
structure RsGroup where
  st : Nat
  left : Nat
  p : Int
  r : Int
  base : Option Nat
  /-- The table chosen since the reset, 1 if true (R400), and the input frame at which the history is 0 (R395). -/
  table : Option Bool
  start : Int
  /-- Transmit: count of the next frame written, and the last egress samples of each slot, newest first. -/
  wr : Nat
  hist : List (Nat × List Int)
  done : Bool
  deriving DecidableEq, Repr

/-- A decimator (R392, R394, R396). -/
structure DecSt where
  i : List Int
  pts : List Int
  c : List Int
  sum : Int
  held : Int
  left : Nat
  deriving DecidableEq, Repr

/-- A level detector (R405 to R408): settings of the last block, filter states by section, power, and warm-up blocks left. -/
structure DetSt where
  ctl : Nat
  sec : List (List Int)
  e : Nat
  warm : Nat
  deriving DecidableEq, Repr

/-- The TDM ports and the conditioning chain. -/
structure CondSt where
  ports : List (Nat × TdmSt)
  /-- The slot masks of the next boundary have been handed over (R377). -/
  handed : Bool
  /-- COND_OUT_RING.BASE taken at render start, and the first block of the render. -/
  outBase : Nat
  from' : Nat
  /-- Resampler groups, keyed 2 · port + (1 for transmit). -/
  groups : List (Nat × RsGroup)
  decs : List (Nat × DecSt)
  dets : List (Nat × DetSt)
  /-- Live COND registers that govern the block captured last, and decimators reset at its boundary and at this interval's. -/
  prev : List (Nat × Word)
  resetPrev : List Nat
  resetNow : List Nat
  /-- Resampler channels whose bits of COND_SYNC_RS took effect at the last boundary (R395, R401). -/
  syncNow : Nat
  /-- The chain and the detectors have handled the block of this interval. -/
  done : Bool
  judged : Bool
  deriving DecidableEq, Repr

/-- R572, R573: the rails, and PGOOD, which follows them. -/
inductive Rail where
  | mram | io18 | core | sram | vpp | vddq | serdes | aon | pgood
  deriving DecidableEq, Repr

/-- R573: the main rails in the order of their rise. -/
def mainRails : List Rail := [.mram, .io18, .core, .sram, .vpp, .vddq, .serdes]

/-- R573: a power-up: AON_1V8, the main rails, PGOOD. -/
def railsUp : List (Rail × Bool) := ([Rail.aon] ++ mainRails ++ [Rail.pgood]).map (fun r => (r, true))

/-- R576: a power-down: PGOOD, then the main rails in reverse order. -/
def railsDown : List (Rail × Bool) := ([Rail.pgood] ++ mainRails.reverse).map (fun r => (r, false))

/-- One feed as the manager samples it (R476): the state its last samples point to, and how many of them in a row. -/
structure FeedSt where
  cand : Nat
  runs : Nat
  /-- The feed has tripped and not reconnected; samples in a row at or below HIGH_MV since. -/
  trip : Bool
  calm : Nat
  /-- R478: the ideal-diode stage has moved the load off the feed, whose state is not yet confirmed. -/
  drop : Bool
  deriving DecidableEq, Repr

/-- Power (R476 to R498) beside its registers. -/
structure PwrSt where
  /-- OFF; PGOOD; a power-up that has not reached power good, and when its first feed reached 10.8 V. -/
  off : Bool
  pgood : Bool
  powering : Bool
  riseAt : Nat
  /-- R573, R576: the rails in regulation, and what the latest power-up or power-down has switched so far, in order. -/
  rails : List Rail
  railSeq : List (Rail × Bool)
  /-- R573 to R575: the RESET_N pad is low; RESET_N holds the SoC in reset; the strap sampled at a release that waits for the
  brownout rule. -/
  resetLow : Bool
  inReset : Bool
  bootHeld : Option Bool
  feedA : FeedSt
  feedB : FeedSt
  /-- Time of a brownout's declaration (R479). -/
  brownAt : Option Nat
  /-- The request in progress, as PWR_CTL.REQ; and one held until a fuse burn ends (R505). -/
  want : Nat
  heldReq : Nat
  /-- Wake sources that fired during entry or a thermal trip, and the time of the entry to STANDBY (R485). -/
  heldWake : Nat
  standbyAt : Nat
  /-- Sensor readings, keyed class · 64 + index (R488). -/
  sens : List (Nat × Word)
  /-- WARN, CRIT and the trip have fired and not re-armed (R489). -/
  warnHit : Bool
  critHit : Bool
  tripHit : Bool
  /-- Path replicas whose canary has been read since the last raise (R491), and those whose worst case starts anew (R488). -/
  canaryRead : List Nat
  fresh : List Nat
  /-- R485: the peer's TWIN_ALIVE has become present since the entry to STANDBY began. -/
  peerRose : Bool
  /-- R493: SerDes settings that the margin planner has made: media ports 0 to 15, Ligature lanes 16 and 17, PCIe 18. -/
  serdes : List (Nat × Word)
  /-- Time at which the present operating hour began, and hour writes so far (R492, R496). -/
  hourAt : Nat
  /-- R490: time of the regulator's last step. -/
  avsAt : Nat
  /-- R493: a run of the margin planner is due. -/
  planDue : Bool
  /-- R274: bank transitions in progress, each with the state it leads to. -/
  moving : List (Nat × Nat)
  /-- Records written to the health log, and the time of the last one of each KIND (R495). -/
  logSeq : Nat
  logAt : List (Nat × Nat)
  /-- Margin runs: PWR_HOURS and s_ref (R494), the last 16. -/
  margins : List (Nat × Int)
  deriving DecidableEq, Repr

/-- Fuses, lifecycle, debug and the TAP (R499 to R517) beside the registers. -/
structure SecSt where
  uid : BitVec 64
  /-- ROOT_HASH0 to 3 and DBG_KEY_HASH, as they are programmed (R503). -/
  hashes : List (Option (BitVec 384))
  /-- ROOT_REVOKE0 to 3. -/
  revoked : Nat
  imgKey : Option (BitVec 256)
  authEn : Bool
  /-- The 64 SVN fuse bits (R504). -/
  svnBits : Nat
  lcProv : Bool
  lcField : Bool
  kill : Bool
  /-- The lifecycle as read at reset: 0 BLANK, 1 PROVISIONED, 2 FIELD (R506); SVN_RUN. -/
  lc : Nat
  svnRun : Nat
  session : Bool
  /-- The burn in progress: field code (14: SVN) and its data; a DEBUG_KILL burn held behind it (R505). -/
  burn : Option (Nat × List Word)
  killHeld : Bool
  /-- R511: 0 idle, 1 challenged, 2 verifying; failures; the time an unused nonce was drawn; the nonce that is being verified
  and its age in ns at the GO. -/
  phase : Nat
  fails : Nat
  nonceAt : Option Nat
  verifying : List Word
  verifyAge : Nat
  /-- R515: the twin pairing key, and the one whose wrapped copy MRAM holds. -/
  twinKey : Option (BitVec 128)
  keyKept : Option (BitVec 128)
  /-- TAP: instruction, bypass bit, boundary register, last bits shifted out. -/
  ir : Nat
  boundary : List Bool
  tdo : List Bool
  /-- SCRIBE_DM (R509): dmactive, the hart selected, the Scribe cores it holds halted, those that have acknowledged a resume, data0 and
  cmderr. -/
  dmActive : Bool
  dmSel : Nat
  dmHalted : List Nat
  dmAck : List Nat
  dmData : Word
  dmErr : Nat
  deriving DecidableEq, Repr

/-- The module. -/
structure State where
  /-- Commands waiting, first in, first out. -/
  pending : List Instr
  /-- The model's own: the next free value to draw (log entry 2). -/
  freeCtr : Nat
  variant : Variant
  /-- What the last read returned, and whether its completion carried EP (R270). -/
  readData : Word
  readEP : Bool
  /-- R264, R270, R272: the last access ended in Unsupported Request, for the host, or in an access fault, for a Scribe core. -/
  readFault : Bool
  /-- R261: what the other port's operation in the same cycle returned. -/
  otherData : Word
  /-- R424, R427: the words of the unit that DRAM_READ delivered last, and which are poisoned. -/
  dramUnit : List (Word × Bool)
  /-- R416, R422: units delivered to outside readers while accesses of the module's own units waited their turn, with their ports,
  oldest first, since the last DRAM_READ or DRAM_WRITE. -/
  dramOut : List (Nat × List (Word × Bool))
  /-- Register words that differ from their reset values, by BAR0 offset; shadows stand at their own offsets (R567). -/
  regs : List (Nat × Word)
  /-- R18: latched words, keyed master · 2²⁴ + offset. -/
  latches : List (Nat × Word)
  /-- Words written to a register that holds them for a later write of its partner, by BAR0 offset. -/
  held : List (Nat × Word)
  /-- R227, R295: holding and latch registers of the queue ports, keyed requester · 256 + queue. -/
  qHold : List (Nat × Word)
  qLatch : List (Nat × Word)
  /-- R288: pair registers of queue 16, keyed requester. -/
  pairs : List (Nat × BitVec 60)
  queues : List (Nat × QState)
  mem : Mem
  sched : Sched
  scene : Scene
  out : OutStage
  cores : List (Nat × QCore)
  time : TimeSt
  hif : Hif
  stat : Stat
  twin : TwinSt
  ddr : List (Nat × DdrSt)
  net : List (Nat × NetSt)
  strm : StrmSt
  cond : CondSt
  pwr : PwrSt
  sec : SecSt
  deriving DecidableEq, Repr

/-- R56: a FREE object's record at its reset values. -/
def Obj.reset : Obj where
  st := .free
  words := [0x00000100, 0, 0x00010000, 0x04000000, 0x001E199A, 0]
  armBN := 0
  armCid := 0
  hold := ⟨0, 0, 0⟩
  segs := []
  segHead := 0
  after := none
  lastPos := none
  relF := 0
  relN := 0
  relRate := 1

/-- An object with no group yet. -/
def XpObj.reset : XpObj := ⟨0, 1, 0, 1, 0, 1, false, BitVec.allOnes 1024, BitVec.allOnes 1024⟩

/-- R74: a speaker record at its reset values. -/
def Spk.reset : Spk := ⟨[0, 0, 0, 0, 0, 0, 0x00010000, 0]⟩

/-- R78: a zone record at its reset values: 20.0 °C, 4.0 m, and the SPM that 20.0 °C gives at 96 kHz. -/
def Zone.reset : Zone := ⟨5120, 16384, 1173181902⟩

/-- An output at render start: unity gain, no delay, muted (R182). -/
def OutSt.reset : OutSt := ⟨0x10000, 0, 0, [], 0, 0, 0, 0⟩

/-- R175: a limiter zone as render starts. -/
def LimZone.reset : LimZone := ⟨0, 65536, 65536, 0, false⟩

/-- R164: an IDENTITY slot. -/
def RccSlot.reset : RccSlot := ⟨0, 0, false⟩

/-- An empty queue. -/
def QState.reset : QState := ⟨0, [], false, [], none⟩

/-- R204, R226, R229: a Quill core at reset. -/
def QCore.reset : QCore where
  st := .idle
  cause := 0
  pc := 0
  lastPc := 0
  d := List.replicate 16 0
  a := List.replicate 8 0
  m := List.replicate 8 0
  ac := List.replicate 4 0
  acm := List.replicate 4 0
  acBusy := []
  lc := 0
  ls := 0
  le := 0
  sr := 0x100
  iv := 0
  ipend := 0
  imask := 0
  epc := 0
  est := 0
  timer := 0
  pm := []
  pmBad := []
  prog := 0
  land := []
  delay := none
  inRep := false
  repTail := false
  waiting := false
  hold := false
  stall := none
  wbuf := []
  bufWait := false
  haltReq := 0
  submit := 0

/-- R82: the scene when render starts after reset. -/
def Scene.reset : Scene where
  objs := []
  xp := []
  clearing := []
  spkR := []
  spkO := []
  zones := []
  masks := []
  vbap := []
  trajOps := []
  seen := []
  wideR := false
  wideN := false
  floorAll := 0
  floors := []
  mutes := []
  rate := 1
  rateAt := 0
  flips := []
  xpWrites := []
  stuckNext := []
  stuck := []
  held := none
  submitted := []
  parts := []
  tileDone := []
  tileXp := []
  sumDone := 0
  ys := []
  satOut := none
  bistBlock := []
  tapsN := []
  tileFin := []
  bistN := []
  tblBad := []

/-- The output stage at reset. -/
def OutStage.reset : OutStage where
  outs := []
  zones := []
  ringFloor := 0
  ringBase := 0x800000000
  done := 0
  ceilZone := none
  rccParity := none
  xfades := 0
  macs := 0
  slots := []
  loads := []
  routes := []
  routesEg := []

/-- Memory with nothing listed. -/
def Mem.reset : Mem := ⟨[], [], [], []⟩

/-- The Time unit at reset: FREE, counter 0, media clock stopped. -/
def TimeSt.reset : TimeSt where
  ptp := 0
  servo := 0
  ofsAge := 0
  o := 0
  oPrev := 0
  oReq := 0
  anchorRetry := false
  anchorDue := false
  mst := 0
  e := 0
  lockRun := 0
  wclkMode := 0
  wclkLost := false
  pps := false
  ppsDue := false
  ppsAt := 0
  wclkOut := false
  edgeAt := 0
  dev := 0
  first := false
  integ := 0
  steps := []
  freqs := []
  txts := []

/-- The schedule at reset: render halted, no commit. -/
def Sched.reset : Sched where
  bn := 0
  bnMedia := 0
  bnPtp := 0
  bnDram := 0
  bnAon := 0
  cycle := 0
  up := 0
  rendering := false
  startAt := none
  quietAt := none
  commits := []
  nextCid := 0
  takes := []
  openShadows := []
  copyDone := false
  ruleDone := false
  mergeDone := false
  quillClosed := false
  nibClosed := false
  outClosed := false
  verdictDone := false
  overrun := false
  finRule := 0
  finQuill := 0
  finNib := 0
  finOut := 0
  parityBlock := false

/-- The host interface at reset: link down, boot stage ROM. -/
def Hif.reset : Hif where
  linkUp := false
  stage := 1
  bootSrc := false
  msixPend := 0
  msixSent := []
  msixOut := []
  msixEn := false
  funcMask := false
  d3 := false
  aerStatus := 0
  aerMask := 0
  waitingCmds := []
  dma := []
  aborting := []
  abortBusy := false
  skipping := []
  lastQ := 7
  dirUsed := none

/-- Statistics and trace at reset. -/
def Stat.reset : Stat := ⟨false, false, 0, false, false, [], [], [], 0, 0⟩

/-- The twin controller at reset: ISOLATED, disabled. -/
def TwinSt.reset : TwinSt where
  st := 0
  peerSt := 0
  due := []
  lanes := 0
  alivePin := false
  sel := false
  floating := false
  peerAlive := false
  peerEdges := 0
  peerFrames := false
  waiting := 0
  waitAt := 0
  aliveAt := 0
  edgeAt := 0
  hAt := 0
  syncAt := 0
  outDone := false
  hbDone := false
  hbJudged := 0
  lastHb := 0
  outcomes := []
  verdictSent := 0
  recSent := 0
  fseq := 1
  mseq := 1
  unacked := []
  txq := []
  laneOut := []
  rx := []
  rxAck := 0
  rxSack := []
  mseqHi := 0
  mseqSeen := []
  hbSeen := []
  hbMissed := 0
  hbWithheld := 0
  kickAt := none
  toForward := []
  toAck := []
  verdicts := []
  heldItems := []
  nextCseq := 1
  relCseq := 0
  released := []
  snaps := []
  records := []
  lastApplied := none
  matched := 0
  repairs := []
  repairSent := 0
  repairIn := []
  hBits := 0
  hSeq := 0
  hClean := 0
  hello := false
  txSince := none
  imageRegs := []
  imageRun := none
  standAt := 0
  standBn := 0
  applied := []
  recMade := 0
  scr := []
  lane66 := []

/-- A DRAM controller at reset. -/
def DdrSt.reset : DdrSt :=
  ⟨[], [], none, [], [], none, false, false, none, [], [], [], 0, 0, false, [], [], [], [], [], [], 0, none, 0, [], [], []⟩

/-- A port at reset. -/
def NetSt.reset : NetSt := ⟨none, none, [[], [], [], []], [0, 0, 0, 0], 0, 0, 0, 0, 0, false, false, false, [], false⟩

/-- A receive stream that is not live. -/
def StrmRx.reset : StrmRx := ⟨0, 0, [], none, none, none, none, 0, false⟩

/-- A transmit stream that is not live. -/
def StrmTx.reset : StrmTx := ⟨0, [], 0⟩

/-- The stream engine at reset. -/
def StrmSt.reset : StrmSt := ⟨[], [], [], [], 0x800000000, false⟩

/-- A TDM port that is OFF. -/
def TdmSt.reset : TdmSt :=
  ⟨0xFFFFFFFF, 0xFFFFFFFF, none, none, 0, 0, 0, false, 0, none, none, none, 0, 0, 0, 0, false, 0, [], false, none, none, [], none⟩

/-- A resampler group that is OFF. -/
def RsGroup.reset : RsGroup := ⟨0, 0, 0, 0, none, none, 0, 0, [], false⟩

/-- R395: a decimator with every filter state 0. -/
def DecSt.reset : DecSt := ⟨[0, 0, 0, 0, 0], [0, 0, 0, 0, 0], [], 0, 0, 0⟩

/-- A detector with its filter states 0. -/
def DetSt.reset : DetSt := ⟨0, [], 0, 0⟩

/-- The TDM ports and the conditioning chain at reset. -/
def CondSt.reset : CondSt := ⟨[], false, 0, 0, [], [], [], [], [], [], 0, false, false⟩

/-- A feed in range. -/
def FeedSt.reset : FeedSt := ⟨0, 0, false, 0, false⟩

/-- Power at power good. -/
def PwrSt.reset : PwrSt where
  off := false
  pgood := true
  powering := false
  riseAt := 0
  rails := mainRails ++ [.aon]
  railSeq := railsUp
  resetLow := false
  inReset := false
  bootHeld := none
  feedA := FeedSt.reset
  feedB := FeedSt.reset
  brownAt := none
  want := 0
  heldReq := 0
  heldWake := 0
  standbyAt := 0
  sens := []
  warnHit := false
  critHit := false
  tripHit := false
  canaryRead := List.range 16
  fresh := []
  peerRose := false
  serdes := []
  hourAt := 0
  avsAt := 0
  planDue := true
  moving := []
  logSeq := 0
  logAt := []
  margins := []

/-- A part as Tolwick makes it: slot 0 programmed, lifecycle BLANK (R502, R503). -/
def SecSt.reset : SecSt where
  uid := 0
  hashes := [some 0, none, none, none, none]
  revoked := 0
  imgKey := none
  authEn := false
  svnBits := 0
  lcProv := false
  lcField := false
  kill := false
  lc := 0
  svnRun := 0
  session := false
  burn := none
  killHeld := false
  phase := 0
  fails := 0
  nonceAt := none
  verifying := []
  verifyAge := 0
  twinKey := none
  keyKept := none
  ir := 1
  boundary := []
  tdo := []
  dmActive := false
  dmSel := 0
  dmHalted := []
  dmAck := []
  dmData := 0
  dmErr := 0

/-- The machine right after reset. -/
def State.reset : State where
  pending := []
  freeCtr := 0
  variant := .el9610
  readData := 0
  readEP := false
  readFault := false
  otherData := 0
  dramUnit := []
  dramOut := []
  regs := []
  latches := []
  held := []
  qHold := []
  qLatch := []
  pairs := []
  queues := []
  mem := Mem.reset
  sched := Sched.reset
  scene := Scene.reset
  out := OutStage.reset
  cores := []
  time := TimeSt.reset
  hif := Hif.reset
  stat := Stat.reset
  twin := TwinSt.reset
  ddr := []
  net := []
  strm := StrmSt.reset
  cond := CondSt.reset
  pwr := PwrSt.reset
  sec := SecSt.reset

end Sys2Proof.Machine
end

