-- ==== Sys2Proof/Machine/Tab.lean ====
section
/-! DEFINITION. Sparse tables: a list of (key, value) pairs with strictly rising keys and no pair whose value is what an
unlisted key reads as. Memory, the register file and every table of records are held so; equal tables are then equal data. -/

namespace Sys2Proof.Machine.Tab

/-- What key `k` reads as; `d` gives the value of an unlisted key. -/
def get {α : Type} (d : Nat → α) : List (Nat × α) → Nat → α
  | [], k => d k
  | (i, v) :: m, k => if k = i then v else get d m k

/-- Insert or replace the pair of `k`, keeping the keys rising. -/
def ins {α : Type} : List (Nat × α) → Nat → α → List (Nat × α)
  | [], k, v => [(k, v)]
  | (i, w) :: m, k, v => if k < i then (k, v) :: (i, w) :: m else if k = i then (k, v) :: m else (i, w) :: ins m k v

/-- Drop every pair of `k`. -/
def del {α : Type} (m : List (Nat × α)) (k : Nat) : List (Nat × α) := m.filter (fun p => p.1 != k)

/-- Write `v` at `k`: a value that an unlisted key reads as is not listed. -/
def put {α : Type} [DecidableEq α] (d : Nat → α) (m : List (Nat × α)) (k : Nat) (v : α) : List (Nat × α) :=
  if v = d k then del m k else ins m k v

/-- Keys strictly rising from above `b`, and no listed value equal to the unlisted one. -/
def wfFrom {α : Type} [DecidableEq α] (d : Nat → α) : Option Nat → List (Nat × α) → Bool
  | _, [] => true
  | b, (k, v) :: m => (match b with | none => true | some x => decide (x < k)) && decide (v ≠ d k) && wfFrom d (some k) m

/-- The canonical form. -/
def wf {α : Type} [DecidableEq α] (d : Nat → α) (m : List (Nat × α)) : Bool := wfFrom d none m

/-- The value listed for `k`, if any. -/
def find {α : Type} : List (Nat × α) → Nat → Option α
  | [], _ => none
  | (i, v) :: m, k => if k = i then some v else find m k

end Sys2Proof.Machine.Tab
end

