-- ==== Sys2Proof/Machine/Ops.lean ====
section
/-! DEFINITION. The register file: presence (R1, R564), decoding (R559, R563), shadows (R567), field access and counters (R17),
and the masters' latches (R18). -/

namespace Sys2Proof.Machine

/-- R1: Nib tiles, and Quill cores, of a variant. -/
def capTiles : Variant → Nat
  | .el9610 => 64 | .el9620 => 32 | .el9630 => 16

/-- R1: objects in the standard partition. -/
def capObjs : Variant → Nat
  | .el9610 => 1024 | .el9620 => 512 | .el9630 => 256

/-- R1: outputs. -/
def capOuts : Variant → Nat
  | .el9610 => 1024 | .el9620 => 1024 | .el9630 => 512

/-- R1: media ports. -/
def capMedia : Variant → Nat
  | .el9610 => 16 | .el9620 => 8 | .el9630 => 4

/-- R1: TDM ports. -/
def capTdm : Variant → Nat
  | .el9610 => 32 | .el9620 => 32 | .el9630 => 16

/-- R1: outputs with room correction. -/
def capRcc : Variant → Nat
  | .el9610 => 1024 | .el9620 => 512 | .el9630 => 0

/-- R1: the Ligature link. -/
def capLig : Variant → Bool
  | .el9610 => true | .el9620 => true | .el9630 => false

/-- R1: usable DRAM in GiB. -/
def capGib : Variant → Nat
  | .el9610 => 32 | .el9620 => 16 | .el9630 => 8

/-- GLB_CAP3.VARIANT. -/
def capCode : Variant → Nat
  | .el9610 => 0x9610 | .el9620 => 0x9620 | .el9630 => 0x9630

/-- R2: the capability words. -/
def capWord (v : Variant) : Nat → Nat
  | 0 => capTdm v * 2 ^ 21 + capMedia v * 2 ^ 16 + capTiles v * 2 ^ 8 + capTiles v
  | 1 => capObjs v * 2 ^ 12 + capOuts v
  | 2 => capGib v * 2 ^ 16 + (if capRcc v = 0 then 0 else 2 ^ 13) + (if capLig v then 2 ^ 12 else 0) + capRcc v
  | _ => capCode v

/-- R559: the units of BAR0. -/
inductive Unit' where
  | glb | hif | sec | pwr | clk | time | net | mgmt | strm | tdm | cond | queue | memc | ddr | rule | nib | out | rcc
  | qcore | twin | stat | evt | dbg
  deriving DecidableEq, Repr

/-- R559: the unit whose range holds an offset; none in a reserved range. -/
def unitOf (off : Nat) : Option Unit' :=
  if off < 0x10000 then some .glb else if off < 0x20000 then some .hif else if off < 0x30000 then some .sec
  else if off < 0x40000 then some .pwr else if off < 0x50000 then some .clk else if off < 0x80000 then some .time
  else if off < 0xC0000 then some .net else if off < 0xD0000 then some .mgmt else if off < 0x100000 then some .strm
  else if off < 0x120000 then some .tdm else if off < 0x140000 then some .cond else if off < 0x160000 then some .queue
  else if off < 0x180000 then some .memc else if off < 0x1A0000 then some .ddr else if off < 0x1C0000 then none
  else if off < 0x200000 then some .rule else if off < 0x240000 then some .nib else if off < 0x260000 then some .out
  else if off < 0x280000 then some .rcc else if off < 0x2C0000 then some .qcore else if off < 0x2E0000 then some .twin
  else if off < 0x2F0000 then some .stat else if off < 0x300000 then some .evt else if off < 0x310000 then some .dbg
  else none

/-- The register table of a unit. -/
def unitTable : Unit' → List Desc
  | .glb => regTable_glb | .hif => regTable_hif | .sec => regTable_sec | .pwr => regTable_pwr | .clk => regTable_clk
  | .time => regTable_time | .net => regTable_net | .mgmt => regTable_mgmt | .strm => regTable_strm | .tdm => regTable_tdm
  | .cond => regTable_cond | .queue => regTable_queue | .memc => regTable_memc | .ddr => regTable_ddr
  | .rule => regTable_rule | .nib => regTable_nib | .out => regTable_out | .rcc => regTable_rcc | .qcore => regTable_qcore
  | .twin => regTable_twin | .stat => regTable_stat | .evt => regTable_evt | .dbg => regTable_dbg

/-- The instance indices of a distance from a register's first offset, if the distance is one. -/
def matchDims : List (Nat × Nat) → Nat → Option (List Nat)
  | [], r => if r = 0 then some [] else none
  | (st, n) :: ds, r => if r / st < n then (matchDims ds (r % st)).map (fun is => r / st :: is) else none

/-- The first row of a table that an offset matches, with its instance indices. -/
def findRow : List Desc → Nat → Option (Desc × List Nat)
  | [], _ => none
  | r :: rs, off =>
    if off < r.base then findRow rs off
    else match matchDims r.dims (off - r.base) with
      | some is => some (r, is)
      | none => findRow rs off

/-- The register at an offset. -/
def descOf (off : Nat) : Option (Desc × List Nat) :=
  match unitOf off with
  | some u => findRow (unitTable u) off
  | none => none

/-- R294: PRODUCER and CONSUMER of queue `q` from reset. -/
def queueRoles (q : Nat) : Nat × Nat :=
  if q < 8 then (0x41, 0x40) else if q < 16 then (0x40, 0x41) else if q = 16 then (0x43, 0x48) else if q = 17 then (0x49, 0x40)
  else if q = 18 then (0x4A, 0x40) else if q = 19 then (0x4B, 0x40) else if q = 20 then (0x4C, 0x40)
  else if q = 21 then (0x40, 0x4C) else if q < 32 then (0x40, 0x40) else if q < 96 then (0x43, q - 32)
  else if q < 160 then (q - 96, 0x41) else (0x7F, 0x7F)

/-- The reset word that a row's fields give. -/
def fieldsReset (fs : List Fld) : Nat := fs.foldl (fun a f => a + f.reset * 2 ^ f.lo) 0

/-- R567: the offset of the shadow of the register at a live offset (meaningful for registers with RWE fields). -/
def shadowOf (off : Nat) : Nat :=
  match unitOf off with
  | some .rule => off + 4
  | some .nib => off + 4
  | some .out => off + 0x8000
  | some .cond => off + 0x8000
  | some .strm => if off < 0xE0000 then off + 0x800 else off + 0x8000
  | some .tdm => off + 0x400
  | _ => off + 0x800

/-- R567: the live offset that a shadow offset belongs to, outside RULE and NIB, whose shadows are named registers. -/
def liveOf (off : Nat) : Option Nat :=
  match unitOf off with
  | some .out => if 0x248000 ≤ off then some (off - 0x8000) else none
  | some .cond => if 0x128000 ≤ off then some (off - 0x8000) else none
  | some .strm => if off < 0xE0000 then (if 0xD0C00 ≤ off then some (off - 0x800) else none)
      else if off % 0x10000 < 0x8000 then none else some (off - 0x8000)
  | some .tdm => if off % 0x800 < 0x400 then none else some (off - 0x400)
  | some .ddr => if off % 0x10000 < 0x800 then none else some (off - 0x800)
  | some .pwr => if off < 0x30800 then none else some (off - 0x800)
  | _ => none

/-- The reset word of the fields of a register that pass a test. -/
def resetOf (off : Nat) (p : Fld → Bool) : Nat :=
  match descOf off with
  | some (r, _) => fieldsReset (r.fields.filter p)
  | none => 0

/-- The word an offset holds at reset. -/
def resetWord (off : Nat) : Word :=
  match descOf off with
  | some (r, is) =>
    if r.base = Reg.QUEUE_CFG 0 then
      toW (fieldsReset r.fields + (queueRoles (is.headD 0)).2 * 2 ^ 8 + (queueRoles (is.headD 0)).1)
    else toW (fieldsReset r.fields)
  | none =>
    match liveOf off with
    | some l => toW (resetOf l (fun f => f.acc == .rwe))
    | none => 0

/-- The fields of the register at an offset. -/
def fieldsAt (off : Nat) : List Fld :=
  match descOf off with
  | some (r, _) => r.fields
  | none => []

/-- The bits of a register's fields that pass a test. -/
def maskOf (off : Nat) (p : Fld → Bool) : Nat :=
  ((fieldsAt off).filter p).foldl (fun a f => a + (2 ^ (f.hi - f.lo + 1) - 1) * 2 ^ f.lo) 0

/-- The register holds an RC field. -/
def hasRC (off : Nat) : Bool := (fieldsAt off).any (fun f => f.acc == .rc)

/-- The register holds an RWE field. -/
def hasRWE (off : Nat) : Bool := (fieldsAt off).any (fun f => f.acc == .rwe)

/-- A register's stored word as a number. -/
def State.rd (s : State) (off : Nat) : Nat := (Tab.get resetWord s.regs off).toNat

/-- Store a register's word. -/
def State.wr (s : State) (off v : Nat) : State := { s with regs := Tab.put resetWord s.regs off (toW v) }

/-- A field of a stored register. -/
def State.fget (s : State) (off hi lo : Nat) : Nat := getF (s.rd off) hi lo

/-- Set a field of a stored register. -/
def State.fset (s : State) (off hi lo v : Nat) : State := s.wr off (setF (s.rd off) hi lo v)

/-- A one-bit field. -/
def State.bget (s : State) (off b : Nat) : Bool := bitOf (s.rd off) b

/-- Set a one-bit field. -/
def State.bset (s : State) (off b : Nat) (v : Bool) : State := s.fset off b b (b2n v)

/-- R17: a counter rises by `n` and saturates at its all-ones value. -/
def State.count (s : State) (off n : Nat) : State := s.wr off (Nat.min (s.rd off + n) 0xFFFFFFFF)

/-- A 64-bit pair of registers. -/
def State.rd64 (s : State) (lo : Nat) : Nat := s.rd lo + s.rd (lo + 4) * 2 ^ 32

/-- Store a 64-bit pair of registers. -/
def State.wr64 (s : State) (lo v : Nat) : State := (s.wr lo (v % 2 ^ 32)).wr (lo + 4) (v / 2 ^ 32 % 2 ^ 32)

/-- A finish register: LAST := v, PEAK keeps the larger (R47). -/
def State.finish (s : State) (off v : Nat) : State :=
  (s.fset off 15 0 v).fset off 31 16 (Nat.max v (s.fget off 31 16))

/-- R6, R564: the instance or unit behind an offset is present on the variant. -/
def present (v : Variant) (off : Nat) : Bool :=
  match unitOf off with
  | none => false
  | some .net => (off - 0x80000) / 0x4000 < capMedia v
  | some .time =>
    if 0x50200 ≤ off && off < 0x50400 then (off - 0x50200) / 0x20 < capMedia v
    else if 0x50400 ≤ off && off < 0x50600 then (off - 0x50400) / 0x10 < capMedia v
    else if 0x50600 ≤ off then (off - 0x50600) / 4 < capMedia v else true
  | some .strm => if 0xD0100 ≤ off && off < 0xD0180 then (off - 0xD0100) / 8 < capMedia v else true
  | some .tdm => (off - 0x100000) / 0x800 < capTdm v
  | some .cond => if 0x120400 ≤ off && off < 0x120C00 then (off - 0x120400) / 0x20 < 2 * capTdm v else true
  | some .qcore => (off - 0x280000) / 0x1000 < capTiles v
  | some .queue =>
    let q := (off - 0x140000) / 0x40
    if 32 ≤ q && q < 96 then q - 32 < capTiles v else if 96 ≤ q && q < 160 then q - 96 < capTiles v else true
  | some .nib =>
    let t := (off - 0x200000) / 0x1000
    t < capTiles v
  | some .memc =>
    if off < 0x161000 then true
    else
      let i := (off - 0x161000) / 0x100
      if i < 64 then i < capTiles v else if i < 128 then i - 64 < capTiles v else if i < 192 then i - 128 < capTiles v
      else if i < 272 then capRcc v ≠ 0 else true
  | some .out =>
    if 0x241000 ≤ off && off < 0x242000 then (off - 0x241000) / 4 < capOuts v
    else if 0x249000 ≤ off && off < 0x24A000 then (off - 0x249000) / 4 < capOuts v else true
  | some .rcc => capRcc v ≠ 0
  | some .twin => capLig v
  | some .ddr => off < 0x190000 || decide (capGib v > 8)
  | some _ => true

/-- R564: queue `q` is present. -/
def queuePresent (v : Variant) (q : Nat) : Bool := present v (Reg.QUEUE_CFG q)

/-- R539: boot has reached FIRMWARE, so BAR0 is fully served. -/
def State.booted (s : State) : Bool := decide (3 ≤ s.hif.stage) && decide (s.hif.stage ≤ 7)

/-- R563: an access at an offset is served by a register or a shadow. -/
def State.served (s : State) (off : Nat) : Bool :=
  (s.booted || (s.hif.stage ≠ 0 && (unitOf off == some .hif || unitOf off == some .glb))) && present s.variant off

/-- R18: the masters, as numbers. -/
def Master.key : Master → Nat
  | .host => 0
  | .scribe k => 1 + k
  | .dbg => 8

/-- R295, R227: a Quill core as a requester of a queue port. -/
def coreKey (k : Nat) : Nat := 16 + k

/-- R18: latch a word for a master. -/
def State.latch (s : State) (m : Master) (off : Nat) (v : Word) : State :=
  { s with latches := Tab.ins s.latches (Master.key m * 2 ^ 24 + off) v }

/-- R18: a master's latched word, if it has not read it since. -/
def State.latched (s : State) (m : Master) (off : Nat) : Option Word := Tab.find s.latches (Master.key m * 2 ^ 24 + off)

/-- R18: the latch is spent. -/
def State.unlatch (s : State) (m : Master) (off : Nat) : State :=
  { s with latches := Tab.del s.latches (Master.key m * 2 ^ 24 + off) }

/-- R569: a Scribe core takes an access fault; the destination of a load is unchanged. -/
def State.accessFault (s : State) : State := { s with readEP := false, readFault := true }

/-- R518: AER notes an Unsupported Request. -/
def State.unsupported (s : State) : State := { s with hif := { s.hif with aerStatus := s.hif.aerStatus ||| 0x100000 } }

/-- R264, R518: a request of the host that wants data ends in Unsupported Request: its completion carries none. -/
def State.noData (s : State) : State := { s.unsupported with readData := 0, readEP := false, readFault := true }

/-- What a read returns to its master. -/
def State.answer (s : State) (v : Word) : State := { s with readData := v, readEP := false, readFault := false }

/-- A fresh free value (log entry 2). -/
def State.freeW (s : State) : Word × State := (Config.freeWord s.freeCtr, { s with freeCtr := s.freeCtr + 1 })

/-- Render-rate block length B (R46). -/
def State.blockLen (s : State) : Nat := s.fget Reg.GLB_RENDER_CFG 13 8

/-- The render rate is 48 kHz. -/
def State.is48 (s : State) : Bool := s.bget Reg.GLB_RENDER_CFG 0

/-- CORE runs at 1.0 GHz. -/
def State.lowPower (s : State) : Bool := s.bget Reg.GLB_RENDER_CFG 1

/-- Fs in Hz. -/
def State.fs (s : State) : Nat := if s.is48 then 48000 else 96000

/-- R28: a cycle that depends on the clock setting. -/
def State.slot (s : State) (at12 at10 : Nat) : Nat := if s.lowPower then at10 else at12

/-- Events of the CORE domain happen no earlier than their slot: the cycle of the interval rises to it. -/
def State.atCycle (s : State) (c : Nat) : State := { s with sched := { s.sched with cycle := Nat.max s.sched.cycle c } }

/-- GLB_BN. -/
abbrev State.bn (s : State) : Nat := s.sched.bn

/-- The CORE domain runs: neither STANDBY, where PWR_STATUS.STATE holds 0b10 (R497), nor OFF, nor held in reset (R574). -/
def State.coreOn (s : State) : Bool := s.fget Reg.PWR_STATUS 31 30 ≠ 2 && !s.pwr.off && !s.pwr.inReset

/-- The byte at an address. -/
def Mem.rdByte (m : Mem) (a : Nat) : Byte := Tab.get (fun _ => 0) m.cells a

/-- Write the byte at an address. -/
def Mem.wrByte (m : Mem) (a : Nat) (b : Byte) : Mem := { m with cells := Tab.put (fun _ => 0) m.cells a b }

/-- The little-endian word at a byte address. -/
def Mem.rdWord (m : Mem) (a : Nat) : Word :=
  m.rdByte (a + 3) ++ m.rdByte (a + 2) ++ m.rdByte (a + 1) ++ m.rdByte a

/-- Write the little-endian word at a byte address. -/
def Mem.wrWord (m : Mem) (a : Nat) (w : Word) : Mem :=
  (((m.wrByte a (w.extractLsb' 0 8)).wrByte (a + 1) (w.extractLsb' 8 8)).wrByte (a + 2) (w.extractLsb' 16 8)).wrByte (a + 3) (w.extractLsb' 24 8)

/-- Mark or clear the failing check of the word at an address. -/
def Mem.setBad (m : Mem) (a : Nat) (b : Bool) : Mem :=
  { m with bad := if b then insNat m.bad a else m.bad.filter (fun x => x != a) }

/-- The canonical form of memory. -/
def Mem.wf (m : Mem) : Bool := Tab.wf (fun _ => (0 : Byte)) m.cells

/-- R273: the word at address `a` of bank `i` has not been written whole since the bank was OFF. -/
def Mem.unwritten (m : Mem) (i a : Nat) : Bool := m.lost.contains i && !m.rewritten.contains a

/-- A whole-word store at a physical word of bank `i`, with fresh parity, or with inverted parity (R171, R271). -/
def Mem.store (m : Mem) (i p : Nat) (v : Word) (bad : Bool) : Mem :=
  let m := (m.wrWord p v).setBad p bad
  if m.lost.contains i then { m with rewritten := insNat m.rewritten p } else m

end Sys2Proof.Machine
end

