-- ==== Sys2Proof/Machine/Bank.lean ====
section
/-! DEFINITION. The bank map (R256, R257), circular windows (R266) and power states (R272 to R274) of the on-chip banks, as every
port meets them. -/

namespace Sys2Proof.Machine

/-- R256: base address and words of bank `i`. -/
def bankBase (i : Nat) : Nat :=
  if i < 64 then 0x100000000 + i * 0x40000 else if i < 128 then 0x101000000 + (i - 64) * 0x80000
  else if i < 192 then 0x103000000 + (i - 128) * 0x30000 else if i < 272 then 0x104000000 + (i - 192) * 0x80000
  else if i < 276 then 0x107000000 + (i - 272) * 0x80000 else 0x107800000 + (i - 276) * 0x80000

/-- R256: the size of bank `i` in words. -/
def bankWords (i : Nat) : Nat := if i < 64 then 65536 else if i < 128 then 131072 else if i < 192 then 49152 else 131072

/-- R256, R568: the bank and word offset of a fabric byte address. -/
def bankOf (a : Nat) : Option (Nat × Nat) :=
  if a < 0x100000000 then none
  else if a < 0x101000000 then some ((a - 0x100000000) / 0x40000, (a - 0x100000000) % 0x40000 / 4)
  else if a < 0x103000000 then some (64 + (a - 0x101000000) / 0x80000, (a - 0x101000000) % 0x80000 / 4)
  else if a < 0x103C00000 then some (128 + (a - 0x103000000) / 0x30000, (a - 0x103000000) % 0x30000 / 4)
  else if a < 0x104000000 then none
  else if a < 0x106800000 then some (192 + (a - 0x104000000) / 0x80000, (a - 0x104000000) % 0x80000 / 4)
  else if a < 0x107000000 then none
  else if a < 0x107200000 then some (272 + (a - 0x107000000) / 0x80000, (a - 0x107000000) % 0x80000 / 4)
  else if a < 0x107800000 then none
  else if a < 0x107E00000 then some (276 + (a - 0x107800000) / 0x80000, (a - 0x107800000) % 0x80000 / 4)
  else none

/-- R256: pools whose banks have windows: Quill data, Scribe SRAM, Commons. -/
def hasWindows (i : Nat) : Bool := decide (i < 64) || decide (272 ≤ i)

/-- R257: bank `i` is present. -/
def bankPresent (v : Variant) (i : Nat) : Bool := present v (Reg.MEMC_BANK_PWR i)

/-- R272, R274: the bank is ON and in no transition. -/
def State.bankOn (s : State) (i : Nat) : Bool := s.fget (Reg.MEMC_BANK_PWR i) 31 30 = 0 && !s.bget (Reg.MEMC_BANK_PWR i) 29

/-- R266: word offset `w` lies in the span of the window (base, len) of a bank, and where it then maps. -/
def winHit (base len words w : Nat) : Option Nat :=
  if 1 ≤ len && decide (base ≤ w + len) && decide (w < base + 2 * len) && decide (w < words) then
    some (base + (w + len - base) % len)
  else none

/-- R266: the lowest-numbered window of bank `i`, from `k` of 16 on, whose span holds the offset. -/
def winFind (s : State) (i w : Nat) : Nat → Option Nat
  | 0 => none
  | k + 1 =>
    match winHit (s.rd (Reg.MEMC_WIN_BASE i (15 - k))) (s.rd (Reg.MEMC_WIN_LEN i (15 - k))) (bankWords i) w with
    | some x => some x
    | none => winFind s i w k

/-- R266: the word that an access to offset `w` of bank `i` goes to. -/
def winMap (s : State) (i w : Nat) : Nat := if hasWindows i then (winFind s i w 16).getD w else w

/-- R269, R273: the word at physical address `p` of bank `i` fails its check. -/
def Mem.fails (m : Mem) (i p : Nat) : Bool := m.unwritten i p || m.bad.contains p

/-- The word addresses from `a` up to `b`. -/
def wordsIn (a b : Nat) : List Nat := (List.range ((b - a) / 4)).map (fun k => a + 4 * k)

/-- R273: words written whole from `a` up to `b`: those in a bank that has been OFF are written since. -/
def Mem.writeSpan (m : Mem) (a b : Nat) : Mem :=
  let within (i : Nat) : Bool := decide (a ≤ bankBase i) && decide (bankBase i + 4 * bankWords i ≤ b)
  let meets (i : Nat) : Bool := decide (bankBase i < b) && decide (a < bankBase i + 4 * bankWords i)
  let lost := m.lost.filter (fun i => !within i)
  let inLost (p : Nat) : Bool := match bankOf p with
    | some (i, _) => lost.contains i
    | none => false
  let fresh := if lost.any meets then (wordsIn a b).filter inLost else []
  { m with lost := lost, rewritten := m.rewritten.filter (fun p => decide (p < a)) ++ fresh ++ m.rewritten.filter (fun p => decide (b ≤ p)) }

/-- The memory with every word from `a` up to `b` written to 0 with good parity. -/
def Mem.clearSpan (m : Mem) (a b : Nat) : Mem :=
  { m.writeSpan a b with cells := m.cells.filter (fun c => !(decide (a ≤ c.1) && decide (c.1 < b)))
                         bad := m.bad.filter (fun w => !(decide (a ≤ w) && decide (w < b))) }

/-- R272: the words from `a` up to `b` of bank `i` are written to 0 with good parity; a bank that is not ON refuses each word. -/
def clearBank (i a b : Nat) (s : State) : State :=
  if !bankPresent s.variant i then s
  else if s.bankOn i then { s with mem := s.mem.clearSpan a b }
  else s.count Reg.MEMC_REFUSED_CNT ((b - a) / 4)

/-- R83, R151, R272: every crosspoint record of every tile becomes inactive. -/
def clearRecordBanks (s : State) : State :=
  (List.range 64).foldl (fun s t => clearBank (128 + t) (bankBase (128 + t)) (bankBase (128 + t) + 4 * bankWords (128 + t)) s) s

/-- R274: the state that a transition of bank `i` leads to; the present state while there is none. -/
def State.bankTarget (s : State) (i : Nat) : Nat :=
  if s.bget (Reg.MEMC_BANK_PWR i) 29 then (Tab.find s.pwr.moving i).getD (s.fget (Reg.MEMC_BANK_PWR i) 1 0) else s.fget (Reg.MEMC_BANK_PWR i) 31 30

/-- R272: the contents of bank `i` are lost. -/
def loseBank (i : Nat) (s : State) : State :=
  let lo := bankBase i
  let hi := lo + 4 * bankWords i
  let out (a : Nat) : Bool := decide (a < lo) || decide (hi ≤ a)
  let m := s.mem
  { s with mem := { m with cells := m.cells.filter (fun c => out c.1), bad := m.bad.filter out,
                           rewritten := m.rewritten.filter out, lost := insNat m.lost i } }

/-- R272: bank `i` stands in state `st`, with no transition in progress. -/
def setBank (i st : Nat) (s : State) : State :=
  let was := s.fget (Reg.MEMC_BANK_PWR i) 31 30
  let s := (s.bset (Reg.MEMC_BANK_PWR i) 29 false).fset (Reg.MEMC_BANK_PWR i) 31 30 st
  let s := { s with pwr := { s.pwr with moving := Tab.del s.pwr.moving i } }
  if st = 2 && was ≠ 2 then loseBank i s else s

end Sys2Proof.Machine
end

