-- ==== Sys2Proof/Machine/Queue.lean ====
section
/-! DEFINITION. The queue fabric (R278 to R296, R591) and the event unit (R544 to R547): a push may cross a watermark, a
crossing fires an event, and a firing may push an event word. -/

namespace Sys2Proof.Machine

/-- Core `k`'s state. -/
def State.core (s : State) (k : Nat) : QCore := Tab.get (fun _ => QCore.reset) s.cores k

/-- Replace core `k`'s state. -/
def State.setCore (s : State) (k : Nat) (c : QCore) : State := { s with cores := Tab.put (fun _ => QCore.reset) s.cores k c }

/-- Queue `q`'s contents. -/
def State.queue (s : State) (q : Nat) : QState := Tab.get (fun _ => QState.reset) s.queues q

/-- Replace queue `q`'s contents. -/
def State.setQueue (s : State) (q : Nat) (x : QState) : State := { s with queues := Tab.put (fun _ => QState.reset) s.queues q x }

/-- R282: the queue is enabled. -/
def State.qEnabled (s : State) (q : Nat) : Bool := s.bget (Reg.QUEUE_CFG q) 31

/-- DEPTH. -/
def State.qDepth (s : State) (q : Nat) : Nat := s.fget (Reg.QUEUE_CFG q) 28 16

/-- R278, R280: the 64-bit word a pop delivers for an entry. -/
def QEntry.word (e : QEntry) : Nat :=
  e.pay.toNat + (if e.bad then 2 else if e.gap then 3 else 0) * 2 ^ 60

/-- The DRY word. -/
def dryWord : Nat := 2 ^ 60

/-- R286, R292: a GAP marker with payload `n`, saturating. -/
def gapEntry (n : Nat) : QEntry := ⟨BitVec.ofNat 60 (Nat.min n 0xFFFFFFFF), true, false⟩

/-- R286: the queue after `n` words of one push were judged with occupancy items.length: stored, or dropped with a marker.
The second component is the number of words dropped. -/
def pushItems (depth : Nat) (items : List QEntry) (pays : List (BitVec 60)) : List QEntry × Nat :=
  if items.length + pays.length + 1 ≤ depth then (items ++ pays.map (fun p => ⟨p, false, false⟩), 0)
  else match items.getLast? with
    | some t =>
      if t.gap then (items.dropLast ++ [⟨(gapEntry (t.pay.toNat + pays.length)).pay, true, t.bad⟩], pays.length)
      else (items ++ [gapEntry pays.length], pays.length)
    | none => (items ++ [gapEntry pays.length], pays.length)

/-- R281: the fabric address and the bank of slot `n` of the queue storage. -/
def slotAddr (n : Nat) : Nat := if n < 65536 then 0x107D00000 + 8 * n else 0x107DC0000 + 8 * (n - 65536)

/-- The Commons bank that holds slot `n`, as a bank index (R256). -/
def slotBank (n : Nat) : Nat := if n < 65536 then 286 else 287

/-- R281: the slot of word `k` of queue `q`: the ring runs on from BASE (log entry 24). -/
def slotAt (q k : Nat) (s : State) : Nat := s.rd (Reg.QUEUE_BASE q) + ((s.queue q).head + k) % s.qDepth q

/-- R266: the Commons words, physically, that an access to slot `n` goes to: the lower and the upper. -/
def slotWords (n : Nat) (s : State) : Nat × Nat :=
  let i := slotBank n
  let w := (slotAddr n - bankBase i) / 4
  (bankBase i + 4 * winMap s i w, bankBase i + 4 * winMap s i (w + 1))

/-- R272, R281: store a 64-bit word in a slot, bits [31:0] in the lower Commons word; a bank that is not ON refuses both words. -/
def storeSlot (n w : Nat) (s : State) : State :=
  if s.bankOn (slotBank n) then
    let p := slotWords n s
    { s with mem := (s.mem.store (slotBank n) p.1 (toW w) false).store (slotBank n) p.2 (toW (w / 2 ^ 32)) false }
  else s.count Reg.MEMC_REFUSED_CNT 2

/-- R281: entries `k` on of queue `q` take their slots. -/
def storeEntries (q : Nat) : Nat → List QEntry → State → State
  | _, [], s => s
  | k, e :: es, s => storeEntries q (k + 1) es (storeSlot (slotAt q k s) e.word s)

/-- R272, R280: what a pop would find at a slot: the word its Commons halves hold, marked if a half fails its check; 0 where the
bank refuses the read (DEDUCED, log entry 154). -/
def slotView (n : Nat) (s : State) : QEntry :=
  if s.bankOn (slotBank n) then
    let p := slotWords n s
    let w := (s.mem.rdWord p.1).toNat + (s.mem.rdWord p.2).toNat * 2 ^ 32
    ⟨BitVec.ofNat 60 w, getF w 63 60 == 3, s.mem.fails (slotBank n) p.1 || s.mem.fails (slotBank n) p.2⟩
  else ⟨0, false, false⟩

/-- `n` words of queue `q` from entry `k` on as pops would find them. -/
def viewFrom (q : Nat) (s : State) : Nat → Nat → List QEntry
  | _, 0 => []
  | k, n + 1 => slotView (slotAt q k s) s :: viewFrom q s (k + 1) n

/-- The words of queue `q` as pops would find them. -/
def State.qView (s : State) (q : Nat) : List QEntry := viewFrom q s 0 (s.queue q).items.length

/-- R289: the end of a consumer cycle: the watermark is judged, PEAK follows. The Bool says that it crossed. -/
def qSettle (q : Nat) (s : State) : State × Bool :=
  let x := s.queue q
  let occ := x.items.length
  let l := s.rd (Reg.QUEUE_WM q)
  let s := s.wr (Reg.QUEUE_PEAK q) (Nat.max occ (s.rd (Reg.QUEUE_PEAK q)))
  if l = 0 then (s, false)
  else if x.armed && decide (l ≤ occ) then
    (((s.setQueue q { x with armed := false }).bset (Reg.QUEUE_STATUS q) 31 true).count (Reg.QUEUE_WM_CNT q) 1, true)
  else if occ < l then (s.setQueue q { x with armed := true }, false)
  else (s, false)

/-- R287, R289: a push after a pop may fall in that pop's consumer cycle, where the watermark is judged once, at the end. It matters
only where the pop has re-armed a watermark that the push would cross; the producer of this push does not tell its cycle, so a free
value decides (log entry 191). -/
def joinFree (q n : Nat) (s : State) : State :=
  let x := s.queue q
  if x.popped = some false && x.armed && decide (0 < s.rd (Reg.QUEUE_WM q)) && decide (s.rd (Reg.QUEUE_WM q) ≤ n) then
    let r := s.freeW
    if bitOf r.1.toNat 0 then r.2.setQueue q { x with armed := false } else r.2
  else s

/-- R286, R288: one push of one or two words, judged now. -/
def pushRaw (q : Nat) (pays : List (BitVec 60)) (s : State) : State × Bool :=
  if s.qEnabled q then
    let s := joinFree q (pushItems (s.qDepth q) (s.queue q).items pays).1.length s
    let old := (s.queue q).items
    let r := pushItems (s.qDepth q) old pays
    let k := if r.1.length = old.length then old.length - 1 else old.length
    qSettle q (storeEntries q k (r.1.drop k) ((s.setQueue q { s.queue q with items := r.1, popped := none }).count (Reg.QUEUE_GAP_CNT q) r.2))
  else (s.count (Reg.QUEUE_DENY_CNT q) 1, false)

/-- R544: the fault class of an event. -/
def evClass (e : Nat) : Nat :=
  if e ∈ [0x00, 0x03, 0x09, 0x0A, 0x0C, 0x12, 0x31] then 2
  else if e ∈ [0x01, 0x0D, 0x1E, 0x38, 0x3F, 0x40, 0x41, 0x42, 0x45, 0x47, 0x49] then 5
  else if e ∈ [0x13, 0x15, 0x18, 0x34] then 1
  else if e ∈ [0x14, 0x2C] then 3
  else if e ∈ [0x1D, 0x1F, 0x20, 0x21, 0x28, 0x29, 0x3D, 0x3E, 0x44] then 4
  else 0

/-- R546: the event word. -/
def eventWord (e inst bn : Nat) : BitVec 60 :=
  BitVec.ofNat 60 (0xC * 2 ^ 56 + e * 2 ^ 48 + evClass e * 2 ^ 45 + (inst % 2 ^ 11) * 2 ^ 32 + bn % 2 ^ 32)

/-- R291: a crossing of a queue whose consumer is Quill core k pends bit 2 of that core's QL_IPEND. -/
def pendQueueIrq (q : Nat) (s : State) : State :=
  let c := s.fget (Reg.QUEUE_CFG q) 15 8
  if c < 64 then s.setCore c { s.core c with ipend := (s.core c).ipend ||| 4 } else s

/-- R473: the health bit that a firing sets for the second: conditions that begin within it are noted as they begin. -/
def healthBit (e : Nat) : Nat :=
  if e = 0x00 then 0x10 else if e = 0x18 then 0x08 else if e = 0x34 then 0x04 else if e = 0x1D || e = 0x1E then 0x800
  else if e = 0x38 then 0x02 else if e = 0x0D then 0x01 else 0

/-- Bits of the second's health word set. -/
def noteHealth (bits : Nat) (s : State) : State := { s with twin := { s.twin with hBits := s.twin.hBits ||| bits } }

/-- R545: the event unit records a firing: pending bit, count, last instance, and the MSI-X request of its route. -/
def recordEvent (e inst : Nat) (s : State) : State :=
  let s := noteHealth (healthBit e) s
  let s := s.bset (Reg.EVT_PEND (e / 32)) (e % 32) true
  let s := s.count (Reg.EVT_CNT e) 1
  let s := s.wr (Reg.EVT_LAST e) (2 ^ 31 + inst % 2 ^ 11)
  if s.bget (Reg.EVT_ROUTE e) 31 then
    { s with hif := { s.hif with msixPend := s.hif.msixPend ||| BitVec.ofNat 64 (2 ^ s.fget (Reg.EVT_ROUTE e) 29 24) } }
  else s

/-- R545 to R547, R289, R291: an event fires and is routed; a watermark that its words cross fires in turn. Every crossing
disarms its watermark, so the nesting is bounded by the queues a firing can reach; `fuel` exceeds that. -/
def fireN : Nat → Nat → Nat → State → State
  | 0, _, _, s => s
  | fuel + 1, e, inst, s =>
    if s.coreOn then
      let route := s.rd (Reg.EVT_ROUTE e)
      let w := eventWord e inst s.bn
      let s := recordEvent e inst s
      let s := if bitOf route 23 then
          let r := pushRaw 18 [w] s
          if r.2 then fireN fuel 0x1A 18 (pendQueueIrq 18 r.1) else r.1
        else s
      if bitOf route 22 then
        let q := 32 + getF route 21 16
        let r := pushRaw q [w] s
        if r.2 then fireN fuel 0x1A q (pendQueueIrq q r.1) else r.1
      else s
    else s

/-- R548: an event fires with an INSTANCE, after what its class says the module has done. -/
def fire (e inst : Nat) (s : State) : State := fireN 8 e inst s

/-- A push that is judged now, with the event of a crossing. -/
def push (q : Nat) (pays : List (BitVec 60)) (s : State) : State :=
  let r := pushRaw q pays s
  if r.2 then fire 0x1A q (pendQueueIrq q r.1) else r.1

/-- R269, R280: a Commons half of a popped word that fails its check is counted and recorded, as in any read. -/
def halfCheck (i p : Nat) (s : State) : State :=
  if s.mem.fails i p then
    let s := (s.count Reg.MEMC_PARITY_CNT 1).wr Reg.MEMC_PARITY_LAST (2 ^ 31 + i * 2 ^ 20 + (p - bankBase i) / 4)
    if s.sched.parityBlock then s else fire 0x18 i { s with sched := { s.sched with parityBlock := true } }
  else s

/-- R269, R272, R280: what the read of a slot by a pop leaves behind. -/
def slotRead (q n : Nat) (s : State) : State :=
  if s.bankOn (slotBank n) then
    let p := slotWords n s
    if (slotView n s).bad then halfCheck (slotBank n) p.2 (halfCheck (slotBank n) p.1 (s.count (Reg.QUEUE_PARITY_CNT q) 1)) else s
  else s.count Reg.MEMC_REFUSED_CNT 2

/-- R285, R280, R282: the word a pop delivers, and the queue after it; a pop of an empty queue ends the cycle of the pop before. -/
def pop (q : Nat) (s : State) : Nat × State :=
  if s.qEnabled q then
    match (s.queue q).items with
    | [] => (dryWord, if (s.queue q).popped = none then s else s.setQueue q { s.queue q with popped := none })
    | _ :: es =>
      let n := slotAt q 0 s
      let x := s.queue q
      let t := s.setQueue q { x with head := (x.head + 1) % s.qDepth q, items := es, popped := some x.armed }
      ((slotView n s).word, (qSettle q (slotRead q n t)).1)
  else (dryWord, s)

/-- R294: a requester's code stands under a PRODUCER code. Requesters: 0x41 the host, 0x40 the Scribe complex, k a core. -/
def producerOk (code req : Nat) : Bool :=
  code == req || (code == 0x42 && decide (req < 64)) || (code == 0x43 && (decide (req < 64) || req == 0x40 || req == 0x41))

/-- The queue code of a master of BAR0; DBG_ACCESS is no queue user. -/
def Master.qcode : Master → Nat
  | .host => 0x41
  | .scribe _ => 0x40
  | .dbg => 0x7E

/-- R293: queues whose producer and consumer lie in different clock domains. -/
def dualClock (q : Nat) : Bool := q == 19 || q == 20 || q == 21

/-- R288: queue 16's pair mode: a word of KIND 1 is held in the producer's pair register; the next word completes it. -/
def pushPairMode (key : Nat) (p : BitVec 60) (s : State) : State :=
  let first := p.toNat / 2 ^ 56 == 1
  match Tab.find s.pairs key, first with
  | none, true => { s with pairs := Tab.ins s.pairs key p }
  | none, false => push 16 [p] s
  | some h, true => { push 16 [h] s with pairs := Tab.ins s.pairs key p }
  | some h, false => push 16 [h, p] { s with pairs := Tab.del s.pairs key }

/-- R288: a producer is reset or aborted: its held word is pushed alone. -/
def releasePair (key : Nat) (s : State) : State :=
  match Tab.find s.pairs key with
  | none => s
  | some h => push 16 [h] { s with pairs := Tab.del s.pairs key }

/-- R457: the transmitting module holds its host's items for a partner in STANDBY or SYNCING. -/
def holdsItems (s : State) : Bool :=
  (s.twin.st == 0 || s.twin.st == 1) && (s.twin.peerSt == 2 || s.twin.peerSt == 4) && s.twin.lanes ≠ 0 && s.bget Reg.TWIN_CTL 31

/-- R457: an item takes the next CSEQ. -/
def holdItem (kind q : Nat) (tag : Word) (words : List Word) (s : State) : State :=
  let t := s.twin
  { s with twin := { t with heldItems := t.heldItems ++ [⟨t.nextCseq, kind, q, tag, words, none, none⟩], nextCseq := t.nextCseq + 1 } }

/-- A push by an allowed requester reaches the queue, its pair register or its transit stage. -/
def pushBy (key q : Nat) (p : BitVec 60) (s : State) : State :=
  if q = 16 then pushPairMode key p s
  else if dualClock q then s.setQueue q { s.queue q with transit := (s.queue q).transit ++ [p] }
  else push q [p] s

/-- R287, R289: a push in the consumer cycle of the pop before it: the watermark is judged once, at the end of the cycle, so it
stands as it stood before that pop. A push in a cycle of its own meets the watermark as it stands. -/
def joinCycle (q : Nat) (same : Bool) (s : State) : State :=
  match (s.queue q).popped with
  | some a => if s.qEnabled q then s.setQueue q { s.queue q with armed := if same then a else (s.queue q).armed, popped := none } else s
  | none => s

/-- R288: a push by a requester would only be held in its pair register. -/
def onlyHeld (key q : Nat) (p : BitVec 60) (s : State) : Bool :=
  q == 16 && p.toNat / 2 ^ 56 == 1 && (Tab.find s.pairs key).isNone

/-- R279, R286, R295: a write of QUEUE_PUSH_HI pushes the holding register and this word, and clears the register; `same` tells
that the push falls in the consumer cycle of the pop before it (R284, R287). -/
def doPush (m : Master) (q : Nat) (v : Word) (same : Bool) (s : State) : State :=
  if s.served (Reg.QUEUE_PUSH_HI q) then
    let k := Master.key m * 256 + q
    let pay := BitVec.ofNat 60 ((Tab.get (fun _ => 0) s.qHold k).toNat + (v.toNat % 2 ^ 28) * 2 ^ 32)
    let s' := { s with qHold := Tab.put (fun _ => 0) s.qHold k 0 }
    if producerOk (s.fget (Reg.QUEUE_CFG q) 7 0) (Master.qcode m) then
      if m == .host && (q == 16 || (decide (32 ≤ q) && decide (q < 96))) && holdsItems s then
        holdItem 1 q 0 [toW pay.toNat, toW (pay.toNat / 2 ^ 32)] s'
      else pushBy (Master.key m) q pay (if dualClock q || onlyHeld (Master.key m) q pay s then s' else joinCycle q same s')
    else s'.count (Reg.QUEUE_DENY_CNT q) 1
  else s

/-- R295, R285: a read of QUEUE_POP_LO pops, answers [31:0] and latches the rest for the master. -/
def doPop (m : Master) (q : Nat) (s : State) : State :=
  if s.served (Reg.QUEUE_POP_LO q) then
    let r := if s.fget (Reg.QUEUE_CFG q) 15 8 = (Master.qcode m) then pop q s else (dryWord, s.count (Reg.QUEUE_DENY_CNT q) 1)
    ({ r.2 with qLatch := Tab.put (fun _ => 0) r.2.qLatch (Master.key m * 256 + q) (toW (r.1 / 2 ^ 32)) }).answer (toW r.1)
  else s.answer 0

/-- R292: the words a flush removes, counted for its marker. -/
def flushCount (items : List QEntry) : Nat :=
  items.foldl (fun n e => if e.gap && !e.bad then n + e.pay.toNat % 2 ^ 32 else n + 1) 0

/-- R292: empty a queue, leaving a GAP marker if asked and anything was removed. -/
def flush (q : Nat) (mark : Bool) (s : State) : State :=
  let its := s.qView q
  let left := if mark && !its.isEmpty then [gapEntry (flushCount its)] else []
  let x := s.queue q
  let s := s.setQueue q { x with head := (x.head + its.length) % s.qDepth q, items := left, popped := some x.armed }
  let s := storeEntries q 0 left s
  let r := qSettle q s
  if r.2 then fire 0x1A q (pendQueueIrq q r.1) else r.1

/-- R294: the host may not write QUEUE_CFG, QUEUE_BASE and QUEUE_FLUSH of queues 0 to 31. -/
def hostBarred (m : Master) (q : Nat) : Bool := m == .host && decide (q < 32)

/-- R292: a write of QUEUE_FLUSH. -/
def doFlush (m : Master) (q : Nat) (v : Word) (s : State) : State :=
  if s.served (Reg.QUEUE_FLUSH q) && !hostBarred m q && bitOf v.toNat 0 then flush q (bitOf v.toNat 1) s else s

/-- R282: two regions of slots overlap. -/
def overlap (b1 d1 b2 d2 : Nat) : Bool := decide (b1 < b2 + d2) && decide (b2 < b1 + d1)

/-- R282: the region of queue `q` overlaps that of another enabled queue. -/
def regionTaken (q : Nat) (s : State) : Bool :=
  (List.range 256).any (fun p => p != q && s.qEnabled p &&
    overlap (s.rd (Reg.QUEUE_BASE q)) (s.qDepth q) (s.rd (Reg.QUEUE_BASE p)) (s.qDepth p))

/-- R282: the queue becomes empty with no marker; its watermark is armed if its level is not 0 (R289). Words in transit have not
been judged yet and arrive later (R293). -/
def emptyQueue (q : Nat) (s : State) : State := s.setQueue q ⟨0, [], decide (0 < s.rd (Reg.QUEUE_WM q)), (s.queue q).transit, none⟩

/-- R294: PRODUCER codes that a write may set. -/
def producerWritable (q c : Nat) : Bool := decide (160 ≤ q) && (decide (c ≤ 0x43) || c == 0x7F)

/-- R294: CONSUMER codes that a write may set. -/
def consumerWritable (q c : Nat) : Bool :=
  if q = 17 || (decide (96 ≤ q) && decide (q < 160)) then decide (c ≤ 0x41) else decide (160 ≤ q) && (decide (c ≤ 0x41) || c == 0x7F)

/-- R282, R294: the fields of a disabled queue take the values written that the tables allow. -/
def cfgFields (m : Master) (q v : Nat) (s : State) : State :=
  let a := Reg.QUEUE_CFG q
  let s := if hostBarred m q then s else s.fset a 28 16 (getF v 28 16)
  let s := if consumerWritable q (getF v 15 8) then s.fset a 15 8 (getF v 15 8) else s
  if producerWritable q (getF v 7 0) then s.fset a 7 0 (getF v 7 0) else s

/-- R282: enable a queue, or refuse with CFG_REJECT. -/
def enableQueue (q : Nat) (s : State) : State :=
  if s.qDepth q < 16 || 4096 < s.qDepth q || decide (98304 < s.rd (Reg.QUEUE_BASE q) + s.qDepth q) || regionTaken q s then
    s.bset (Reg.QUEUE_STATUS q) 29 true
  else emptyQueue q (s.bset (Reg.QUEUE_CFG q) 31 true)

/-- R282, R294: a write of QUEUE_CFG. -/
def doCfg (m : Master) (q : Nat) (v : Word) (s : State) : State :=
  if s.served (Reg.QUEUE_CFG q) && (!hostBarred m q || q == 17) then
    if s.qEnabled q then
      if bitOf v.toNat 31 then s else emptyQueue q (s.bset (Reg.QUEUE_CFG q) 31 false)
    else
      let s := cfgFields m q v.toNat s
      if bitOf v.toNat 31 then enableQueue q s else s
  else s

/-- R290: a write of QUEUE_WM.LEVEL. -/
def doWm (q : Nat) (v : Word) (s : State) : State :=
  if s.served (Reg.QUEUE_WM q) then
    let l := v.toNat % 2 ^ 13
    (s.wr (Reg.QUEUE_WM q) l).setQueue q { s.queue q with armed := decide ((s.queue q).items.length < l), popped := none }
  else s

/-- R293: the oldest word in transit arrives and is judged, in the consumer cycle of the pop before it or in one of its own. -/
def doArrival (q : Nat) (same : Bool) (s : State) : State :=
  match (s.queue q).transit with
  | [] => s
  | p :: ps => push q [p] (joinCycle q same (s.setQueue q { s.queue q with transit := ps }))

/-- R45, R293: within 3 consumer cycles every word in transit has arrived; a PTP cycle is longer than that. -/
def arriveAll (s : State) : State :=
  [19, 20, 21].foldl (fun s q => (s.queue q).transit.foldl (fun s _ => doArrival q false s) s) s

/-- R28, R45: the interval has come to CORE cycle `c`; where more than 3 cycles pass on the way, words in transit arrive. -/
def State.reach (s : State) (c : Nat) : State := (if s.sched.cycle + 3 < c then arriveAll s else s).atCycle c

/-- QUEUE_PUSH: the queue register access of R295, gated by R563. -/
def execQueuePush (m : Master) (q : Nat) (v : Word) (s : State) (same : Bool := false) : Host.Outcome State Fault Refusal :=
  .next (doPush m q v same s)

/-- QUEUE_POP (R285, R295). -/
def execQueuePop (m : Master) (q : Nat) (s : State) : Host.Outcome State Fault Refusal := .next (doPop m q s)

/-- QUEUE_FLUSH (R292). -/
def execQueueFlush (m : Master) (q : Nat) (v : Word) (s : State) : Host.Outcome State Fault Refusal := .next (doFlush m q v s)

/-- QUEUE_ENABLE_WRITE (R282, R294). -/
def execQueueEnableWrite (m : Master) (q : Nat) (v : Word) (s : State) : Host.Outcome State Fault Refusal := .next (doCfg m q v s)

/-- QUEUE_WM_WRITE (R290): host writes are accepted for every queue. -/
def execQueueWmWrite (_m : Master) (q : Nat) (v : Word) (s : State) : Host.Outcome State Fault Refusal := .next (doWm q v s)

/-- DUAL_CLOCK_ARRIVAL (R293). -/
def execDualClockArrival (q : Nat) (s : State) (same : Bool := false) : Host.Outcome State Fault Refusal := .next (doArrival q same s)

end Sys2Proof.Machine
end

