-- ==== Sys2Proof/Machine/Memc.lean ====
section
/-! DEFINITION. Memory and the on-chip banks (R256 to R277, R589): the bank map, circular windows, parity, power states, visitor
writes, atomics and sub-word writes. -/

namespace Sys2Proof.Machine

/-- Words of a ring of `nb` blocks of `b` frames of `c` words from `base` hold the Commons word. -/
def inRing (base n w : Nat) : Bool := decide (base ≤ w) && decide (w < base + n)

/-- R589: Commons word `w` lies in a tagged region. -/
def commonsTagged (s : State) (w : Nat) : Bool :=
  inRing (11 * 131072) 65536 w
  || (s.sched.rendering && inRing s.cond.outBase (4 * s.blockLen * 80) w)
  || (List.range 32).any (fun p => present s.variant (Reg.TDM_CTL p) && s.bget (Reg.TDM_CTL p) 31 &&
      inRing (s.fget (Reg.TDM_RX_RING p) 20 0) (s.fget (Reg.TDM_RX_RING p) 28 24 * s.blockLen * s.fget (Reg.TDM_CTL p) 5 0) w)
  || (List.range 1024).any (fun n => s.bget (Reg.STRM_RX_STATUS n) 31 &&
      inRing (s.fget (Reg.STRM_RX_BUF n) 20 0)
        ((if s.bget (Reg.STRM_RX_CTL n) 26 then 2 else s.fget (Reg.STRM_RX_WIN n) 27 16) * s.blockLen * s.fget (Reg.STRM_RX_CTL n) 6 0) w)

/-- R256, R589: word `w` of bank `i` has a tag field. -/
def wordTagged (s : State) (i w : Nat) : Bool :=
  (decide (64 ≤ i) && decide (i < 128)) || (decide (276 ≤ i) && commonsTagged s ((i - 276) * 131072 + w))

/-- What a bank read gives: the word as stored, whether its check failed, whether the access was refused. -/
structure RdRes where
  val : Word
  bad : Bool
  refused : Bool
  deriving DecidableEq, Repr

/-- R269: a failing read is counted and recorded; on an untagged word PARITY_FAULT fires once for each block. -/
def parityFail (i w : Nat) (s : State) : State :=
  let t := wordTagged s i w
  let s := (s.count Reg.MEMC_PARITY_CNT 1).wr Reg.MEMC_PARITY_LAST (2 ^ 31 + i * 2 ^ 20 + w)
  if t || s.sched.parityBlock then s
  else fire 0x18 i { s with sched := { s.sched with parityBlock := true } }

/-- R257, R266, R269, R272: a plain read of the word at a fabric byte address. -/
def readWord (a : Nat) (s : State) : RdRes × State :=
  match bankOf a with
  | none => (⟨0, false, false⟩, s)
  | some (i, w) =>
    if !bankPresent s.variant i then (⟨0, false, false⟩, s)
    else if !s.bankOn i then (⟨0, false, true⟩, s.count Reg.MEMC_REFUSED_CNT 1)
    else
      let w' := winMap s i w
      let p := bankBase i + 4 * w'
      if s.mem.unwritten i p then (⟨0, true, false⟩, parityFail i w' s)
      else if s.mem.bad.contains p then (⟨s.mem.rdWord p, true, false⟩, parityFail i w' s)
      else (⟨s.mem.rdWord p, false, false⟩, s)

/-- R122: an Inkwell word is stored with bits [6:0] zero. -/
def bankWord (i : Nat) (v : Word) : Word := if 64 ≤ i && i < 128 then v &&& 0xFFFFFF80 else v

/-- R257, R266, R272: a plain whole-word write, from whichever port is entitled to it. -/
def storeWord (a : Nat) (v : Word) (bad : Bool) (s : State) : State :=
  match bankOf a with
  | none => s
  | some (i, w) =>
    if !bankPresent s.variant i then s
    else if !s.bankOn i then s.count Reg.MEMC_REFUSED_CNT 1
    else { s with mem := s.mem.store i (bankBase i + 4 * winMap s i w) (bankWord i v) bad }

/-- R123, R258: a visitor write by the host, a Scribe core, DBG_ACCESS or the DMA engine. -/
def visitorWrite (a : Nat) (v : Word) (bad : Bool) (s : State) : State :=
  match bankOf a with
  | none => s
  | some (i, _) =>
    if !bankPresent s.variant i then s
    else if 286 ≤ i then s.count Reg.MEMC_PROTECT_CNT 1
    else if 64 ≤ i && i < 128 then s.count (Reg.NIB_TILE_INK_REJECT_CNT (i - 64)) 1
    else storeWord a v bad s

/-- R263: pools on which atomics are accepted. -/
def atomicPool (i : Nat) : Bool := hasWindows i

/-- R261, R265: a port's operation on a word, with whether the word fails its check: an atomic does not touch a failing word. -/
def portRun (o : PortOp) (x : Word × Bool) : Word × Bool :=
  match o with
  | .idle => x
  | .read => x
  | .write v => (v, false)
  | .add v => if x.2 then x else (x.1 + v, false)
  | .swap v => if x.2 then x else (v, false)

/-- The operation writes or modifies the word. -/
def portWrites : PortOp → Bool
  | .write _ => true | .add _ => true | .swap _ => true | _ => false

/-- The operation is an atomic. -/
def portAtomic : PortOp → Bool
  | .add _ => true | .swap _ => true | _ => false

/-- R261: both ports on one word in one cycle: a visitor's plain write, the owner's operation, a visitor's atomic. The word after
the cycle, what the owner sees and what the visitor sees; each with whether it fails its check. -/
def bothPorts (old : Word × Bool) (own vis : PortOp) : (Word × Bool) × (Word × Bool) × (Word × Bool) :=
  let w1 := if portAtomic vis then old else portRun vis old
  let w2 := portRun own w1
  (if portAtomic vis then portRun vis w2 else w2, if portAtomic own then w1 else old, if portAtomic vis then w2 else old)

/-- R269: a port's operation reads the word and finds it failing. -/
def noteSeen (i w : Nat) (o : PortOp) (x : Word × Bool) (s : State) : State :=
  if x.2 && (portAtomic o || o == .read) then parityFail i w s else s

/-- R261, R262, R266, R272: a cycle of bank `i` in which the owner and the visitor address offset `w`: what they see, and the
state after it. A collision is counted where both write or modify the word. -/
def portCycle (i w : Nat) (own vis : PortOp) (s : State) : RdRes × RdRes × State :=
  if !bankPresent s.variant i then (⟨0, false, false⟩, ⟨0, false, false⟩, s)
  else if !s.bankOn i then
    (⟨0, false, true⟩, ⟨0, false, true⟩, s.count Reg.MEMC_REFUSED_CNT (b2n (own != .idle) + b2n (vis != .idle)))
  else
    let k := winMap s i w
    let p := bankBase i + 4 * k
    let old : Word × Bool := (if s.mem.unwritten i p then 0 else s.mem.rdWord p, s.mem.fails i p)
    let r := bothPorts old own vis
    let s := noteSeen i k vis r.2.2 (noteSeen i k own r.2.1 s)
    let s := if portWrites own && portWrites vis then s.count Reg.MEMC_BANK_COLLIDE_CNT 1 else s
    let wrote := (portWrites own || portWrites vis) && !r.1.2
    (⟨r.2.1.1, r.2.1.2, false⟩, ⟨r.2.2.1, r.2.2.2, false⟩,
      if wrote then { s with mem := s.mem.store i p (bankWord i r.1.1) false } else s)

/-- The master is a core of the Scribe complex, which takes access faults (R264, R270, R272, R569). -/
def Master.isScribe : Master → Bool
  | .scribe _ => true
  | _ => false

/-- R270, R273: a word of bank `i` as a visitor receives it: a failing history word of the Inkwell carries [7] = 1. -/
def seenWord (i : Nat) (r : RdRes) : Word := if r.bad && decide (64 ≤ i) && decide (i < 128) then r.val ||| 0x80 else r.val

/-- R264, R270, R272: what an access of bank `i` returns to its master: the host's completion carries EP for a failing or refused
word; a Scribe core takes an access fault for a refused one, and for a failing word of Scribe SRAM or Commons. -/
def accessAnswer (m : Master) (i : Nat) (r : RdRes) (s : State) : State :=
  if Master.isScribe m && (r.refused || (r.bad && decide (272 ≤ i))) then s.accessFault
  else { s.answer (seenWord i r) with readEP := (r.bad || r.refused) && m == .host }

/-- R123, R261: what the owner of bank `i` can do with a word: a Nib tile, which owns an Inkwell bank, only reads it. -/
def ownerOp (i : Nat) (o : PortOp) : PortOp := if 64 ≤ i && i < 128 && o != .idle then .read else o

/-- R261: the operation of the other port alone. -/
def otherAlone (a : Nat) (o : PortOp) (s : State) : State :=
  match bankOf a with
  | none => s
  | some (i, w) =>
    let r := portCycle i w (ownerOp i o) .idle s
    { r.2.2 with otherData := r.1.val }

/-- A visitor's plain write reaches the words of bank `i` (R123, R258). -/
def visitorTakes (i : Nat) : Bool := decide (i < 286) && !(decide (64 ≤ i) && decide (i < 128))

/-- R261, R262: a visitor's plain write, with what the owner port does to the same word in the same cycle: a read sees the word as
it stood before, any other operation follows the write; the cycle counts where both change the word. -/
def withOwner (a : Nat) (own : PortOp) (write : State → State) (s : State) : State :=
  match bankOf a with
  | none => write s
  | some (i, _) =>
    let o := ownerOp i own
    if o = .idle then write s
    else if portWrites o then
      let t := otherAlone a o (write s)
      if bankPresent s.variant i && s.bankOn i && visitorTakes i then t.count Reg.MEMC_BANK_COLLIDE_CNT 1 else t
    else write (otherAlone a o s)

/-- R261, R263 to R265: an atomic of the host or a Scribe core, with what the bank's other port does to the same word in the same
cycle: the old word is returned. A Scribe core owns the Scribe SRAM; every other port of these masters is a visitor's. -/
def doAtomic (m : Master) (a : Nat) (mine other : PortOp) (s : State) : State :=
  if m = .dbg then s else
  match bankOf a with
  | none => if Master.isScribe m then s.accessFault else s.answer 0
  | some (i, w) =>
    if !bankPresent s.variant i then s.answer 0
    else if !atomicPool i then
      let r := ((portCycle i w (ownerOp i other) .idle s).2.2.bset Reg.MEMC_STATUS 2 true).freeW
      r.2.answer r.1
    else if 286 ≤ i then
      let r := ((portCycle i w other .idle s).2.2.count Reg.MEMC_PROTECT_CNT 1).freeW
      r.2.answer r.1
    else if m != .host && decide (272 ≤ i) && decide (i < 276) then
      let r := portCycle i w mine other s
      accessAnswer m i r.1 { r.2.2 with otherData := r.2.1.val }
    else
      let r := portCycle i w other mine s
      accessAnswer m i r.2.1 { r.2.2 with otherData := r.1.val }

/-- R264: the other atomic requests: the host's CAS and 64-bit AtomicOps end in Unsupported Request (R518), a Scribe core's other and
64-bit AMOs in a store access fault, both with no access; LR.W reads as a plain load, and SC.W fails (it returns 1, log entry
155) without writing. The other port's operation of the cycle is done (R261). -/
def doOther (m : Master) (a : Nat) (req : AtomReq) (other : PortOp) (s : State) : State :=
  if m = .dbg then s else
  match m, req with
  | .scribe _, .loadReserved =>
    match bankOf a with
    | none => s.accessFault
    | some (i, w) =>
      let r := portCycle i w (ownerOp i other) .read s
      accessAnswer m i r.2.1 { r.2.2 with otherData := r.1.val }
  | .scribe _, .storeConditional => if (bankOf a).isNone then s.accessFault else (otherAlone a other s).answer 1
  | .scribe _, _ => (otherAlone a other s).accessFault
  | _, _ => (otherAlone a other s).noData

/-- R271: the bytes that `be` enables, merged into a word. -/
def mergeBytes (be : BitVec 4) (old v : Word) : Word :=
  let pick (k : Nat) : Byte := if be.getLsbD k then v.extractLsb' (8 * k) 8 else old.extractLsb' (8 * k) 8
  pick 3 ++ pick 2 ++ pick 1 ++ pick 0

/-- R271: a sub-word write merges into the word; a word that failed parity is stored with its parity inverted. -/
def doSubWord (a : Nat) (be : BitVec 4) (v : Word) (s : State) : State :=
  match bankOf a with
  | none => s
  | some (i, w) =>
    if !bankPresent s.variant i then s
    else if 286 ≤ i then s.count Reg.MEMC_PROTECT_CNT 1
    else if 64 ≤ i && i < 128 then s.count (Reg.NIB_TILE_INK_REJECT_CNT (i - 64)) 1
    else
      let r := readWord a s
      if r.1.refused then r.2
      else
        let p := bankBase i + 4 * winMap s i w
        { r.2 with mem := if r.1.bad then { (r.2.mem.wrWord p (mergeBytes be r.1.val v)).setBad p true with
                                              rewritten := if r.2.mem.lost.contains i then insNat r.2.mem.rewritten p else r.2.mem.rewritten }
                          else r.2.mem.wrWord p (mergeBytes be r.1.val v) }

/-- R272, R569: a visitor write that the pool would take meets a bank that is not ON, or an unmapped address. -/
def storeRefused (a : Nat) (s : State) : Bool :=
  match bankOf a with
  | some (i, _) => bankPresent s.variant i && decide (i < 286) && !(decide (64 ≤ i) && decide (i < 128)) && !s.bankOn i
  | none => true

/-- R267, R268: a write of MEMC_WIN_LEN makes the held BASE and the new LEN live together. -/
def doWinLen (i w : Nat) (v : Word) (s : State) : State :=
  if s.served (Reg.MEMC_WIN_LEN i w) && hasWindows i then
    let base := (Tab.get (fun _ => 0) s.held (Reg.MEMC_WIN_BASE i w)).toNat % 2 ^ 17
    let len := v.toNat % 2 ^ 18
    if bankWords i < base + len then s.bset Reg.MEMC_STATUS 0 true
    else
      let b0 := s.rd (Reg.MEMC_WIN_BASE i w)
      let l0 := s.rd (Reg.MEMC_WIN_LEN i w)
      let s := (s.wr (Reg.MEMC_WIN_BASE i w) base).wr (Reg.MEMC_WIN_LEN i w) len
      if (b0 ≠ base || l0 ≠ len) && (l0 ≠ 0 || len ≠ 0) then
        fire 0x19 i (s.wr Reg.MEMC_WIN_LAST (i * 2 ^ 20 + w))
      else s
  else s

/-- R275: banks whose power may not be taken away while render runs. -/
def bankBarred (s : State) (i : Nat) : Bool :=
  (decide (64 ≤ i) && decide (i < 272)) || i == 286 || i == 287 || i == 272 || (decide (i < 64) && (s.core i).st == .running)

/-- R274, R275: a write of MEMC_BANK_PWR.REQ starts a transition, or is refused; outside ACTIVE it is only held. -/
def doBankPwr (i : Nat) (v : Word) (s : State) : State :=
  let a := Reg.MEMC_BANK_PWR i
  let req := v.toNat % 4
  if s.served a && req ≠ 3 then
    if req ≠ 0 && s.sched.rendering && bankBarred s i then s.bset Reg.MEMC_STATUS 1 true
    else
      let s := s.fset a 1 0 req
      if s.fget Reg.PWR_STATUS 31 30 = 0 && (s.fget a 31 30 ≠ req || s.bget a 29) then
        { s.bset a 29 true with pwr := { s.pwr with moving := Tab.ins s.pwr.moving i req } }
      else s
  else s

/-- R274: a bank power transition ends in the state it leads to. -/
def bankDone (i : Nat) (s : State) : State :=
  if bankPresent s.variant i && decide (i < 288) && s.bget (Reg.MEMC_BANK_PWR i) 29 then setBank i (s.bankTarget i) s else s

/-- R568, R569: the byte address lies in a row of the fabric's map, or beyond the usable DRAM, which R415 treats. -/
def mapped (a : Nat) : Bool :=
  (bankOf a).isSome || (decide (0x10000000 ≤ a) && decide (a < 0x11000000)) || (decide (0x108000000 ≤ a) && decide (a < 0x108200000))
    || (decide (0x400000000 ≤ a) && decide (a < 0x404000000)) || decide (0x800000000 ≤ a)

/-- R569: a Scribe core's access of an unmapped address is an access fault, with no access. -/
def missed (m : Master) (a : Nat) (s : State) : State := if Master.isScribe m && !mapped a && a % 4 == 0 then s.accessFault else s

/-- The fabric address lies in the SRAM window of BAR2 (R519). -/
def inSram (a : Nat) : Bool := decide (0x100000000 ≤ a) && decide (a ≤ 0x107FFFFFF) && decide (a % 4 = 0)

/-- MEMC_WIN_LEN_WRITE (R267, R268). -/
def execMemcWinLenWrite (_m : Master) (bank w : Nat) (v : Word) (s : State) : Host.Outcome State Fault Refusal := .next (doWinLen bank w v s)

/-- MEMC_BANK_PWR_WRITE (R274, R275). -/
def execMemcBankPwrWrite (_m : Master) (bank : Nat) (v : Word) (s : State) : Host.Outcome State Fault Refusal := .next (doBankPwr bank v s)

/-- BANK_PWR_TRANSITION_DONE (R274). -/
def execBankPwrTransitionDone (bank : Nat) (s : State) : Host.Outcome State Fault Refusal := .next (bankDone bank s)

/-- ATOMIC_ADD (R261, R263): (word + operand) mod 2³². -/
def execAtomicAdd (m : Master) (a : Nat) (v : Word) (s : State) (other : PortOp := .idle) : Host.Outcome State Fault Refusal :=
  .next (if inSram a then doAtomic m a (.add v) other s else missed m a s)

/-- ATOMIC_SWAP (R261, R263), and the other atomic requests that a bank's port receives (R264). -/
def execAtomicSwap (m : Master) (a : Nat) (v : Word) (s : State) (req : AtomReq := .swap) (other : PortOp := .idle) : Host.Outcome State Fault Refusal :=
  .next (if inSram a then (if req = .swap then doAtomic m a (.swap v) other s else doOther m a req other s) else missed m a s)

/-- SUB_WORD_WRITE (R261, R271), with what the owner port does to the same word in the write's cycle; a Scribe core takes an access
fault where the bank refuses it (R272) or none is there (R569). -/
def execSubWordWrite (m : Master) (a : Nat) (be : BitVec 4) (v : Word) (s : State) (own : PortOp := .idle) : Host.Outcome State Fault Refusal :=
  .next (if inSram a then
      let t := withOwner a own (doSubWord a be v) s
      if storeRefused a s && Master.isScribe m then t.accessFault else t
    else missed m a s)

end Sys2Proof.Machine
end

