-- ==== Sys2Proof/Machine/Inkwell.lean ====
section
/-! DEFINITION. Object windows of the Inkwell (R54, R121 to R126) and a Quill core's submissions into them (R73, R125, R213). -/

namespace Sys2Proof.Machine

/-- Object `o`. -/
def State.obj (s : State) (o : Nat) : Obj := Tab.get (fun _ => Obj.reset) s.scene.objs o

/-- Replace object `o`. -/
def State.setObj (s : State) (o : Nat) (x : Obj) : State :=
  { s with scene := { s.scene with objs := Tab.put (fun _ => Obj.reset) s.scene.objs o x } }

/-- R53, R57: an accepted spawn sets object `o`, as OBJ_GET shows at once. -/
def State.spawnObj (s : State) (o : Nat) (x : Obj) : State :=
  { s with scene := { s.scene with objs := Tab.put (fun _ => Obj.reset) s.scene.objs o x, seen := Tab.put (fun _ => Obj.reset) s.scene.seen o x } }

/-- R121: the window length W. -/
def winLen (wide : Bool) : Nat := if wide then 4096 else 8192

/-- R54: objects per Inkwell bank. -/
def perBank (wide : Bool) : Nat := if wide then 32 else 16

/-- R54: the bank and tile of object `o`. -/
def tileOf (wide : Bool) (o : Nat) : Nat := o / perBank wide

/-- R121: the fabric byte address of the history word of object `o` for MST `q`. -/
def histAddr (wide : Bool) (o q : Nat) : Nat :=
  0x101000000 + tileOf wide o * 0x80000 + 4 * ((o % perBank wide) * winLen wide + q % winLen wide)

/-- R56: a field of an object's record words. -/
def Obj.field (x : Obj) (w hi lo : Nat) : Nat := getF (nth 0 x.words w).toNat hi lo

/-- SOURCE.KIND. -/
def Obj.kind (x : Obj) : Nat := x.field 1 31 28

/-- The Quill core that SOURCE names. -/
def Obj.srcCore (x : Obj) : Nat := x.field 1 21 16

/-- R124: the write path treats a RELEASING object as LIVE. -/
def Obj.alive (x : Obj) : Bool := x.st == .live || x.st == .releasing

/-- R123: the block in ingress, block BN − 1, holds the MST whose slot is `slot`; its position in the block. -/
def ingressPos (s : State) (slot : Nat) : Option Nat :=
  let b := s.blockLen
  let w := winLen s.scene.wideR
  let first := (s.bn - 1) * b % w
  let p := (slot + w - first) % w
  if s.bn ≠ 0 && decide (p < b) then some p else none

/-- R28: the last cycle of the Quill cores' slot. -/
def quillDeadline (s : State) : Nat := s.slot 391999 324999

/-- R28, R123, R73, R34: where core `k` may store: the object and block position behind bank `n` word `w`. -/
def submitTarget (s : State) (k n w : Nat) : Option (Nat × Nat) :=
  let wide := s.scene.wideR
  let o := n * perBank wide + w / winLen wide
  let x := s.obj o
  if s.sched.rendering && !s.sched.quillClosed && decide (s.sched.cycle ≤ quillDeadline s) && x.alive && x.kind == 4 && x.srcCore == k then
    (ingressPos s (w % winLen wide)).map (fun p => (o, p))
  else none

/-- R47, R125: slot `p` of object `o`'s ingress block has been written by its core; the store that completes the block submits
it, no earlier than the slot of R28. -/
def noteSubmit (k o p : Nat) (s : State) : State :=
  let s := s.reach 16
  let old := Tab.get (fun _ => (0 : BitVec 32)) s.scene.submitted o
  let m := old ||| BitVec.ofNat 32 (2 ^ p)
  let s := { s with scene := { s.scene with submitted := Tab.put (fun _ => (0 : BitVec 32)) s.scene.submitted o m } }
  if m.toNat = 2 ^ s.blockLen - 1 ∧ m ≠ old then
    let c := s.sched.cycle / 16
    ({ s with sched := { s.sched with finQuill := Nat.max s.sched.finQuill c } }).setCore k { s.core k with submit := c }
  else s

/-- R213: a core's store into Inkwell bank `n` word `w`: it takes effect only where R123 allows it, else both counters count. -/
def inkStore (k a : Nat) (v : Word) (s : State) : State :=
  match bankOf a with
  | none => s
  | some (i, w) =>
    if !bankPresent s.variant i then s
    else match submitTarget s k (i - 64) w with
      | some (o, p) => noteSubmit k o p (storeWord a v false s)
      | none => (s.count (Reg.NIB_TILE_INK_REJECT_CNT (i - 64)) 1).count (Reg.QCORE_INK_REJECT_CNT k) 1

end Sys2Proof.Machine
end

