-- ==== Sys2Proof/Machine/Flags.lean ====
section
/-! DEFINITION. The flags of the Quill status register ST (R204, R243) and its field writes. -/

namespace Sys2Proof.Machine

/-- The flags that an X-slot operation writes; none leaves the flag unchanged (R241). -/
structure Flags where
  n : Option Bool
  z : Option Bool
  c : Option Bool
  v : Option Bool
  deriving DecidableEq, Repr

/-- R241: no flag is written. -/
def Flags.none : Flags := ⟨.none, .none, .none, .none⟩

/-- R243: N and Z follow the 32-bit result. -/
def nzFlags (r : Word) : Flags := ⟨some r.msb, some (r == 0), Option.none, Option.none⟩

/-- A signed sum or difference lies outside the 32-bit range. -/
def outside32 (x : Int) : Bool := decide (x < -2147483648) || decide (2147483647 < x)

/-- R243: ADD, ADDS, ADDI: C is the carry out of the unsigned sum, V the signed overflow of the exact sum. -/
def addFlags (a b r : Word) : Flags :=
  { nzFlags r with c := some (decide (2 ^ 32 ≤ a.toNat + b.toNat)), v := some (outside32 (a.toInt + b.toInt)) }

/-- R243: SUB, SUBS, CMP, CMPI, NEG: C := 1 if the first operand is not below the second as unsigned values. -/
def subFlags (a b r : Word) : Flags :=
  { nzFlags r with c := some (decide (b.toNat ≤ a.toNat)), v := some (outside32 (a.toInt - b.toInt)) }

/-- A flag written into a bit of ST. -/
def putFlag (w : Nat) (b : Nat) : Option Bool → Nat
  | Option.none => w
  | some x => setF w b b (b2n x)

/-- The written flags replace those of ST: V [3], C [2], N [1], Z [0]. -/
def Flags.apply (f : Flags) (sr : Nat) : Nat := putFlag (putFlag (putFlag (putFlag sr 0 f.z) 1 f.n) 2 f.c) 3 f.v

/-- R204: SCALE is clamped to −8 to +8. -/
def clampScale (x : Int) : Int := Max.max (-8) (Min.min 8 x)

/-- ST.SCALE, signed. -/
def scaleOf (sr : Nat) : Int := sgn 5 (getF sr 20 16)

/-- R239: the word a write of `w` into ST leaves: reserved bits ignored, SCALE clamped. -/
def stWrite (w : Nat) : Nat :=
  getF w 31 31 * 2 ^ 31 + uns 5 (clampScale (sgn 5 (getF w 20 16))) * 2 ^ 16 + getF w 8 8 * 2 ^ 8 + getF w 5 0

/-- R248: the conditions of BCC on ST. -/
def condHolds (sr c : Nat) : Bool :=
  let z := bitOf sr 0
  let n := bitOf sr 1
  let cy := bitOf sr 2
  let v := bitOf sr 3
  match c with
  | 0 => z
  | 1 => !z
  | 2 => n != v
  | 3 => n == v
  | 4 => !z && (n == v)
  | 5 => z || (n != v)
  | 6 => cy
  | 7 => !cy
  | 8 => v
  | 9 => !v
  | 10 => n
  | 11 => !n
  | 12 => cy && !z
  | 13 => !cy || z
  | 14 => bitOf sr 4
  | _ => bitOf sr 5

end Sys2Proof.Machine
end

