-- ==== Sys2Proof/Machine/Operands.lean ====
section
/-! DEFINITION. The operand forms of a Quill bundle: register codes and class conversions (R238, R239), accumulator moves
(R205), addresses (R211, R216, R247). -/

namespace Sys2Proof.Machine

/-- Dn. -/
def QCore.dreg (c : QCore) (n : Nat) : Word := nth 0 c.d n

/-- An. -/
def QCore.areg (c : QCore) (n : Nat) : BitVec 24 := nth 0 c.a n

/-- Mn. -/
def QCore.mreg (c : QCore) (n : Nat) : BitVec 24 := nth 0 c.m n

/-- R238, R239: out(reg), the 32-bit value a register code delivers. -/
def QCore.outReg (c : QCore) (code : Nat) : Word :=
  if code < 16 then c.dreg code
  else if code < 24 then (c.areg (code - 16)).setWidth 32
  else if code < 32 then (c.mreg (code - 24)).signExtend 32
  else if code = 32 then toW c.lc
  else if code = 33 then toW c.ls
  else if code = 34 then toW c.le
  else if code = 35 then c.sr
  else if code = 36 then toW c.iv
  else if code = 37 then toW c.pc
  else 0

/-- R239: in(reg, w), the register of a code takes its value from a 32-bit word. -/
def QCore.inReg (c : QCore) (code : Nat) (w : Word) : QCore :=
  if code < 16 then { c with d := upd c.d code w }
  else if code < 24 then { c with a := upd c.a (code - 16) (w.setWidth 24) }
  else if code < 32 then { c with m := upd c.m (code - 24) (w.setWidth 24) }
  else if code = 35 then { c with sr := toW (stWrite w.toNat) }
  else if code = 36 then { c with iv := getF w.toNat 11 5 * 32 }
  else c

/-- R205: a move out of an accumulator at SCALE and SAT of ST: the word, and whether it saturated. -/
def acMove (sr : Nat) (ac : BitVec 72) : Word × Bool :=
  let sc := scaleOf sr
  let x := if 0 ≤ sc then ac.toInt * 2 ^ sc.toNat else ac.toInt
  let r := fdiv x (2 ^ (31 + (-sc).toNat))
  if bitOf sr 8 then (intW (satS 32 r), outside32 r) else (intW r, false)

/-- R205: a move from Dn into an accumulator. -/
def acLoad (w : Word) : BitVec 72 := BitVec.ofInt 72 (w.toInt * 2 ^ 31)

/-- R237, R242: a 72-bit sum, and whether it wrapped. -/
def wrap72 (x : Int) : BitVec 72 × Bool := (BitVec.ofInt 72 x, decide ((BitVec.ofInt 72 x).toInt ≠ x))

/-- R216: post-modification, on the raw value of An. -/
def postMod (an mm : BitVec 24) : BitVec 24 := an + mm

/-- R247: the word address of a 13-bit short absolute address. -/
def absAddr (a : Nat) : Nat := if a < 0x1000 then a else 0x708000 + (a - 0x1000)

/-- R211: where a core's word address lies. -/
inductive QPlace where
  /-- Word of the own bank, through the owner port. -/
  | own (w : Nat)
  /-- Core-local register. -/
  | loc (r : Nat)
  /-- Fabric byte address behind a visitor port: a stall region. -/
  | fabric (a : Nat)
  /-- Queue port q, word w of its four. -/
  | qport (q w : Nat)
  | unmapped
  deriving DecidableEq, Repr

/-- R211: the map of a core's 24-bit word addresses. -/
def qPlace (a : Nat) : QPlace :=
  if a < 0x10000 then .own a
  else if a < 0x100000 then .unmapped
  else if a < 0x500000 then .fabric (0x100000000 + (a - 0x100000) * 4)
  else if a < 0x680000 then .fabric (0x107800000 + (a - 0x500000) * 4)
  else if a < 0x700000 then .unmapped
  else if a < 0x700400 then .qport ((a - 0x700000) / 4) (a % 4)
  else if a < 0x708000 then .unmapped
  else if a < 0x708008 then .loc (a - 0x708000)
  else if a < 0x800000 then .unmapped
  else .fabric (0x101000000 + (a - 0x800000) * 4)

/-- R238, R235: the 40 + 3n codes of QCORE_DBG_SEL read the parts of an accumulator. -/
def acPart (ac : BitVec 72) : Nat → Word
  | 0 => ac.extractLsb' 0 32
  | 1 => ac.extractLsb' 32 32
  | _ => (ac.extractLsb' 64 8).signExtend 32

/-- R245, WRAC: part `p` of an accumulator replaced. -/
def acSetPart (ac : BitVec 72) (p : Nat) (w : Word) : BitVec 72 :=
  match p with
  | 0 => ac.extractLsb' 32 40 ++ w
  | 1 => ac.extractLsb' 64 8 ++ w ++ ac.extractLsb' 0 32
  | _ => w.extractLsb' 0 8 ++ ac.extractLsb' 0 64

end Sys2Proof.Machine
end

