-- ==== Sys2Proof/Machine/Quill.lean ====
section
/-! DEFINITION. The Quill cores (R204 to R255): what each slot of a bundle computes, the pipeline's visibility rules, loads and
stores, control flow, interrupts, and the issue of one bundle. -/

namespace Sys2Proof.Machine

/-- What an X-slot operation writes: a D register, accumulators, flags; and whether an accumulator wrapped. -/
structure XRes where
  dW : Option (Nat × Word)
  acW : List (Nat × BitVec 72)
  fl : Flags
  av : Bool
  deriving DecidableEq, Repr

/-- An X-slot operation that writes nothing. -/
def XRes.none : XRes := ⟨Option.none, [], Flags.none, false⟩

/-- A result in a D register, with flags. -/
def XRes.d (dd : Nat) (r : Word) (f : Flags) : XRes := ⟨some (dd, r), [], f, false⟩

/-- A result in an accumulator, with AV if it wrapped. -/
def XRes.acc (k : Nat) (r : BitVec 72 × Bool) : XRes := ⟨Option.none, [(k, r.1)], Flags.none, r.2⟩

/-- R241: shift right arithmetically by `k`. -/
def shAsr (a : Word) (k : Nat) : Word := intW (fdiv a.toInt (2 ^ Nat.min k 31))

/-- R241: shift left by `k`. -/
def shLsl (a : Word) (k : Nat) : Word := if 32 ≤ k then 0 else toW (a.toNat * 2 ^ k)

/-- R241: shift right logically by `k`. -/
def shLsr (a : Word) (k : Nat) : Word := if 32 ≤ k then 0 else toW (a.toNat / 2 ^ k)

/-- R241: the three-register operations: result and flags. -/
def aluEval (op : Alu) (a b : Word) : Word × Flags :=
  match op with
  | .add => (a + b, addFlags a b (a + b))
  | .sub => (a - b, subFlags a b (a - b))
  | .adds => let r := intW (satS 32 (a.toInt + b.toInt)); (r, addFlags a b r)
  | .subs => let r := intW (satS 32 (a.toInt - b.toInt)); (r, subFlags a b r)
  | .and => (a &&& b, nzFlags (a &&& b))
  | .or => (a ||| b, nzFlags (a ||| b))
  | .xor => (a ^^^ b, nzFlags (a ^^^ b))
  | .min => let r := if a.toInt ≤ b.toInt then a else b; (r, nzFlags r)
  | .max => let r := if a.toInt ≤ b.toInt then b else a; (r, nzFlags r)
  | .asr => let r := shAsr a (b.toNat % 64); (r, nzFlags r)
  | .lsl => let r := shLsl a (b.toNat % 64); (r, nzFlags r)
  | .lsr => let r := shLsr a (b.toNat % 64); (r, nzFlags r)

/-- R242: one line of MAC on an accumulator: add, subtract or set the product. -/
def macLine (op : Nat) (ac : BitVec 72) (p : Int) : BitVec 72 × Bool :=
  match op with
  | 1 => wrap72 (ac.toInt + p)
  | 2 => wrap72 (ac.toInt - p)
  | 3 => (BitVec.ofInt 72 p, false)
  | _ => (ac, false)

/-- R242: MAC: both lines act on one accumulator in order if ACA = ACB. -/
def macEval (c : QCore) (aca da1 da2 acb db1 db2 opa opb : Nat) : XRes :=
  let pa := (c.dreg da1).toInt * (c.dreg da2).toInt
  let pb := (c.dreg db1).toInt * (c.dreg db2).toInt
  let ra := macLine opa (nth 0 c.ac aca) pa
  let rb := macLine opb (if opa ≠ 0 && aca = acb then ra.1 else nth 0 c.ac acb) pb
  let wa := if opa = 0 then [] else [(aca, ra.1)]
  let wb := if opb = 0 then [] else [(acb, rb.1)]
  ⟨Option.none, wa ++ wb, Flags.none, ra.2 || rb.2⟩

/-- R241: ACSH by a signed amount. -/
def acShift (ac : BitVec 72) (sh : Int) : BitVec 72 × Bool :=
  if 0 ≤ sh then wrap72 (ac.toInt * 2 ^ sh.toNat) else (BitVec.ofInt 72 (fdiv ac.toInt (2 ^ (-sh).toNat)), false)

/-- R241, R242: what an X-slot operation computes from the registers the bundle sees. -/
def xEval (c : QCore) : XOp → XRes
  | .nop => XRes.none
  | .mac aca da1 da2 acb db1 db2 opa opb => macEval c aca da1 da2 acb db1 db2 opa opb
  | .alu op dd ds dt => let r := aluEval op (c.dreg ds) (c.dreg dt); XRes.d dd r.1 r.2
  | .cmp ds dt => ⟨Option.none, [], subFlags (c.dreg ds) (c.dreg dt) (c.dreg ds - c.dreg dt), false⟩
  | .neg dd ds => XRes.d dd (0 - c.dreg ds) (subFlags 0 (c.dreg ds) (0 - c.dreg ds))
  | .abs dd ds =>
    let a := c.dreg ds
    let r := intW (satS 32 (if a.toInt < 0 then -a.toInt else a.toInt))
    XRes.d dd r { nzFlags r with v := some (a == 0x80000000) }
  | .not dd ds => XRes.d dd (~~~ c.dreg ds) (nzFlags (~~~ c.dreg ds))
  | .addi dd ds imm =>
    let b := imm.signExtend 32
    XRes.d dd (c.dreg ds + b) (addFlags (c.dreg ds) b (c.dreg ds + b))
  | .cmpi ds imm =>
    let b := imm.signExtend 32
    ⟨Option.none, [], subFlags (c.dreg ds) b (c.dreg ds - b), false⟩
  | .asri dd ds k => let r := shAsr (c.dreg ds) k; XRes.d dd r (nzFlags r)
  | .lsli dd ds k => let r := shLsl (c.dreg ds) k; XRes.d dd r (nzFlags r)
  | .lsri dd ds k => let r := shLsr (c.dreg ds) k; XRes.d dd r (nzFlags r)
  | .aclr d => XRes.acc d (0, false)
  | .acmov d s => XRes.acc d (nth 0 c.ac s, false)
  | .acadd d s => XRes.acc d (wrap72 ((nth 0 c.ac d).toInt + (nth 0 c.ac s).toInt))
  | .acsub d s => XRes.acc d (wrap72 ((nth 0 c.ac d).toInt - (nth 0 c.ac s).toInt))
  | .acsh d sh => XRes.acc d (acShift (nth 0 c.ac d) sh.toInt)
  | .acld d ds => XRes.acc d (acLoad (c.dreg ds), false)
  | .acneg d => XRes.acc d (wrap72 (-(nth 0 c.ac d).toInt))

/-- R208, R252: the X results land on the registers as the Y slot left them: flags the X slot writes come from it, AV sticks. -/
def XRes.land (x : XRes) (c : QCore) : QCore :=
  let c := match x.dW with
    | some (k, w) => { c with d := upd c.d k w }
    | Option.none => c
  let sr := x.fl.apply c.sr.toNat
  { c with sr := toW (if x.av then setF sr 5 5 1 else sr), ac := x.acW.foldl (fun l p => upd l p.1 p.2) c.ac }

/-- Interrupt point (R221, R253): no delay slot follows, no REP is live or has just ended, no stall. -/
def QCore.atPoint (c : QCore) : Bool := c.delay.isNone && !c.inRep && !c.repTail && c.stall.isNone && !c.bufWait

/-- R508: the debug state: 0 OPEN, 1 AUTH, 2 CLOSED, 3 KILLED. -/
def State.debugSt (s : State) : Nat :=
  if s.sec.kill then 3 else if s.sec.lc = 0 then 0 else if s.sec.lc = 1 || s.sec.authEn then 1 else 2

/-- R508, R510: the access level: 0 NONE, 1 LIMITED, 2 FULL. -/
def State.level (s : State) : Nat :=
  if s.debugSt = 3 then 0 else if s.debugSt = 0 || s.sec.session then 2 else 1

/-- R510: Quill debug of core `k` is allowed. -/
def State.quillDebug (s : State) (k : Nat) : Bool := s.coreOn && (s.level == 2 || (s.level == 1 && (s.core k).prog == 1))

/-- R231: a breakpoint register is armed on a bundle, and breakpoints work. -/
def brkArmed (s : State) (k pc : Nat) : Bool :=
  s.quillDebug k && (List.range 4).any (fun i => s.bget (Reg.QCORE_BRK k i) 31 && s.fget (Reg.QCORE_BRK k i) 11 0 == pc)

/-- A core of the variant. -/
def State.hasCore (s : State) (k : Nat) : Bool := decide (k < capTiles s.variant)

/-- R226: a core-local register read. -/
def locRead (s : State) (k r : Nat) : Word :=
  let c := s.core k
  match r with
  | 0 => toW c.ipend
  | 1 => toW c.imask
  | 2 => toW c.epc
  | 3 => c.est
  | 4 => toW (s.sched.cycle % 2 ^ 19)
  | 5 => toW s.bn
  | 6 => c.timer
  | _ => toW k

/-- R226: a core-local register write. -/
def locWrite (c : QCore) (r : Nat) (w : Word) : QCore :=
  match r with
  | 0 => { c with ipend := (BitVec.ofNat 8 c.ipend &&& ~~~ (w.setWidth 8)).toNat }
  | 1 => { c with imask := w.toNat % 256 }
  | 2 => { c with epc := w.toNat % 4096 }
  | 3 => { c with est := w }
  | 6 => { c with timer := toW (getF w.toNat 31 31 * 2 ^ 31 + getF w.toNat 18 0) }
  | _ => c

/-- R214: a parity failure of a core's load of an untagged word. -/
def coreParity (k : Nat) (s : State) : State :=
  fire 0x15 k ((s.bset (Reg.QCORE_STATUS k) 17 true).count (Reg.QCORE_PARITY_CNT k) 1)

/-- R214, R270, R213: what a core's load of a fabric word delivers. -/
def coreLoad (k a : Nat) (s : State) : Word × State :=
  let r := readWord a s
  let tagged := match bankOf a with
    | some (i, w) => wordTagged s i (winMap s i w)
    | none => false
  if r.1.bad then (if tagged then (r.1.val ||| 0x80, r.2) else (r.1.val, coreParity k r.2)) else (r.1.val, r.2)

/-- R228: a core may pop a queue whose CONSUMER it is. -/
def corePop (k q : Nat) (s : State) : Word × State :=
  let r := if queuePresent s.variant q && s.fget (Reg.QUEUE_CFG q) 15 8 == k then pop q s
    else (dryWord, (s.count (Reg.QCORE_QDENY_CNT k) 1).count (Reg.QUEUE_DENY_CNT q) 1)
  (toW r.1, { r.2 with qLatch := Tab.put (fun _ => 0) r.2.qLatch (coreKey k * 256 + q) (toW (r.1 / 2 ^ 32)) })

/-- R227: a read of a queue port. -/
def qportRead (k q w : Nat) (s : State) : Word × State :=
  match w with
  | 0 => corePop k q s
  | 1 => (Tab.get (fun _ => 0) s.qLatch (coreKey k * 256 + q), s)
  | 2 => (toW (s.queue q).items.length, s)
  | _ => (0, s)

/-- R227, R228: a write of a queue port. -/
def qportWrite (k q w : Nat) (v : Word) (s : State) : State :=
  let key := coreKey k * 256 + q
  match w with
  | 0 => { s with qHold := Tab.put (fun _ => 0) s.qHold key v }
  | 1 =>
    let pay := BitVec.ofNat 60 ((Tab.get (fun _ => 0) s.qHold key).toNat + (v.toNat % 2 ^ 28) * 2 ^ 32)
    let s := { s with qHold := Tab.put (fun _ => 0) s.qHold key 0 }
    if queuePresent s.variant q && producerOk (s.fget (Reg.QUEUE_CFG q) 7 0) k then pushBy (coreKey k) q pay s
    else (s.count (Reg.QCORE_QDENY_CNT k) 1).count (Reg.QUEUE_DENY_CNT q) 1
  | _ => s

/-- A load's data, wherever its address lies. -/
def memLoad (k a : Nat) (s : State) : Word × State :=
  match qPlace a with
  | .own w => coreLoad k (0x100000000 + k * 0x40000 + 4 * w) s
  | .loc r => (locRead s k r, s)
  | .fabric f => coreLoad k f s
  | .qport q w => qportRead k q w s
  | .unmapped => (0, s)

/-- A store that reaches its place. -/
def memStore (k a : Nat) (v : Word) (s : State) : State :=
  match qPlace a with
  | .own w => storeWord (0x100000000 + k * 0x40000 + 4 * w) v false s
  | .loc r => s.setCore k (locWrite (s.core k) r v)
  | .fabric f =>
    match bankOf f with
    | some (i, _) => if 64 ≤ i && i < 128 then inkStore k f v s else visitorWrite f v false s
    | none => s
  | .qport q w => qportWrite k q w v s
  | .unmapped => s

/-- R211: the region stalls a load and posts a store. -/
def stallRegion (a : Nat) : Bool :=
  match qPlace a with
  | .fabric _ => true
  | .qport _ _ => true
  | _ => false

/-- A Y-slot memory access: word address, and for a store its data. -/
structure YMem where
  addr : Nat
  /-- A load's register code. -/
  load : Option Nat
  data : Word
  /-- The moved accumulator saturated. -/
  sv : Bool
  deriving DecidableEq, Repr

/-- R245: the memory access of a Y-slot operation, on the registers the bundle sees. -/
def yMem (c : QCore) : YOp → Option YMem
  | .ld r an _ _ => some ⟨(c.areg an).toNat, some r, 0, false⟩
  | .st r an _ _ => some ⟨(c.areg an).toNat, none, c.outReg r, false⟩
  | .stac ac an _ _ => let m := acMove c.sr.toNat (nth 0 c.acm ac); some ⟨(c.areg an).toNat, none, m.1, m.2⟩
  | .lds r a => some ⟨absAddr a, some r, 0, false⟩
  | .sts r a => some ⟨absAddr a, none, c.outReg r, false⟩
  | .stacs ac a => let m := acMove c.sr.toNat (nth 0 c.acm ac); some ⟨absAddr a, none, m.1, m.2⟩
  | _ => none

/-- R218: FOLD of an address in the windows of the bank it addresses. -/
def foldAddr (s : State) (k a : Nat) : Nat :=
  let fab := match qPlace a with
    | .own w => some (0x100000000 + k * 0x40000 + 4 * w)
    | .fabric f => some f
    | _ => none
  match fab with
  | some f =>
    match bankOf f with
    | some (i, w) => if bankPresent s.variant i then a + winMap s i w - w else a
    | none => a
  | none => a

/-- R208, R209, R216: post-modification when PM = 1, by the An and Mm that the bundle sees (`c0`), also in the shadow of a load
into either that lands now. -/
def withPost (c0 c : QCore) (an mm : Nat) (pm : Bool) : QCore :=
  if pm then { c with a := upd c.a an (postMod (c0.areg an) (c0.mreg mm)) } else c

/-- SV is sticky (R204, R205). -/
def setSV (b : Bool) (c : QCore) : QCore := if b then { c with sr := toW (setF c.sr.toNat 4 4 1) } else c

/-- R245: the register writes of a Y-slot operation (memory and control apart), from the registers `c0` that the bundle sees. -/
def yRegs (s : State) (k : Nat) (c0 : QCore) (y : YOp) (c : QCore) : QCore :=
  match y with
  | .ld _ an mm pm => withPost c0 c an mm pm
  | .st _ an mm pm => withPost c0 c an mm pm
  | .stac ac an mm pm => setSV (acMove c0.sr.toNat (nth 0 c0.acm ac)).2 (withPost c0 c an mm pm)
  | .stacs ac _ => setSV (acMove c0.sr.toNat (nth 0 c0.acm ac)).2 c
  | .mvac d ac =>
    let m := acMove c0.sr.toNat (nth 0 c0.acm ac)
    setSV m.2 { c with d := upd c.d d m.1 }
  | .mov dst src => c.inReg dst (c0.outReg src)
  | .ldi dd imm => { c with d := upd c.d dd (imm.signExtend 32) }
  | .ldih dd imm => { c with d := upd c.d dd (imm ++ (c0.dreg dd).extractLsb' 0 16) }
  | .rdac d ac p => { c with d := upd c.d d (acPart (nth 0 c0.acm ac) p) }
  | .lia an imm => { c with a := upd c.a an imm }
  | .lim mn imm => { c with m := upd c.m mn (imm.signExtend 24) }
  | .adda an mm => { c with a := upd c.a an (c0.areg an + c0.mreg mm) }
  | .addai an imm => { c with a := upd c.a an (c0.areg an + imm.signExtend 24) }
  | .fold an => { c with a := upd c.a an (BitVec.ofNat 24 (foldAddr s k (c0.areg an).toNat)) }
  | .setb bit v => { c with sr := toW (setF c.sr.toNat bit bit (b2n v)) }
  | .sscl sc => { c with sr := toW (setF c.sr.toNat 20 16 (uns 5 (clampScale sc.toInt))) }
  | .call _ => { c with a := upd c.a 7 (BitVec.ofNat 24 ((c0.pc + 3) % 4096)) }
  | .loop d _ => { c with d := upd c.d d (c0.dreg d - 1) }
  | _ => c

/-- R252: a WRAC lands on the X-slot view unless the X slot of this bundle or of the last one wrote the accumulator. -/
def wracLand (c0 : QCore) (x : XRes) (y : YOp) (c : QCore) : QCore :=
  match y with
  | .wrac d ac p =>
    if x.acW.any (fun w => w.1 == ac) || c0.acBusy.contains ac then c
    else { c with ac := upd c.ac ac (acSetPart (nth 0 c.ac ac) p (c0.dreg d)) }
  | _ => c

/-- R210: control operations that may not stand in a delay slot or a REP body. -/
def isControl : YOp → Bool
  | .br _ => true
  | .bcc _ _ => true
  | .call _ => true
  | .bra _ => true
  | .rti => true
  | .loop _ _ => true
  | .repi _ _ => true
  | .repd _ _ => true
  | _ => false

/-- R249: the body length of a REP at `p` with end `t`. -/
def repLen (p t : Nat) : Nat := let l := (t + 4096 - p) % 4096; if l = 0 then 4096 else l

/-- R210, R212, R219, R249: the CAUSE with which a bundle faults when it is decoded, or 0. -/
def faultCause (c : QCore) (y : YOp) : Nat :=
  if isControl y && (c.delay.isSome || c.inRep) then 6
  else match y with
    | .repi _ t => if 32 < repLen c.pc t then 6 else 0
    | .repd d t => if 32 < repLen c.pc t then 6 else if 4096 < (c.dreg d).toNat then 7 else 0
    | _ =>
      match yMem c y with
      | some m => if qPlace m.addr = .unmapped then 8 else 0
      | none => 0

/-- R248, R249, R223: what a control operation starts: delay slots, a loop or a REP; else the next bundle in sequence. -/
def yControl (c0 : QCore) (y : YOp) (c : QCore) : QCore :=
  let next := (c0.pc + 1) % 4096
  let branch (t : Option Nat) (st : Option Word) : QCore := { c with pc := next, delay := some ⟨2, t, st⟩ }
  let rep (n t : Nat) : QCore :=
    let c := { c with ls := next, le := t, lc := n }
    if n = 0 then { c with pc := (t + 1) % 4096, repTail := true } else { c with pc := next, inRep := true }
  match y with
  | .br t => branch (some t) none
  | .bcc cc t => branch (if condHolds c0.sr.toNat cc then some t else none) none
  | .call t => branch (some t) none
  | .bra an => branch (some ((c0.areg an).toNat % 4096)) none
  | .rti => branch (some c0.epc) (some c0.est)
  | .loop d t => { c with pc := if c0.dreg d - 1 = 0 then next else t }
  | .repi n t => rep n t
  | .repd d t => rep (c0.dreg d).toNat t
  | .wait => { c with pc := next, waiting := true }
  | _ => { c with pc := next }

/-- Every result in flight lands. -/
def QCore.settle (c : QCore) : QCore :=
  { c.land.foldl (fun c p => c.inReg p.1 p.2) c with land := [], acm := c.ac, acBusy := [] }

/-- R223: the core as the bundle after an RTI finds it, every result landed; else as it stands. -/
def QCore.released (c : QCore) : QCore := if c.hold then c.settle else c

/-- R248, R249: after a bundle in a delay slot or a REP body, the next bundle's address. -/
def advance (c0 c : QCore) : QCore :=
  match c0.delay with
  | some d =>
    if d.left = 1 then
      let c := { c with delay := none, pc := d.target.getD c.pc }
      match d.status with
      | some w => { c with hold := true, sr := toW (stWrite w.toNat) }
      | none => c
    else { c with delay := some { d with left := d.left - 1 } }
  | none =>
    if c0.inRep && c0.pc = c0.le then
      if c0.lc ≤ 1 then { c with lc := 0, inRep := false, repTail := true, pc := (c0.le + 1) % 4096 }
      else { c with lc := c0.lc - 1, pc := c0.ls }
    else c

/-- R208, R209, R252: the registers after a bundle: loads of the bundle before land first, then the Y slot's writes, then the X
slot's; moves see the accumulators one bundle late. -/
def bundleRegs (s : State) (k : Nat) (x : XOp) (y : YOp) (c0 : QCore) : QCore :=
  let xr := xEval c0 x
  let c := { c0.land.foldl (fun c p => c.inReg p.1 p.2) c0 with land := [], repTail := false, waiting := false, hold := false, bufWait := false, lastPc := c0.pc }
  let c := yRegs s k c0 y c
  let c := xr.land c
  let c := wracLand c0 xr y c
  let c := { c with acm := c0.ac, acBusy := xr.acW.map (fun w => w.1) }
  advance c0 (yControl c0 y c)

/-- R231: BRK, and a breakpoint met away from an interrupt point, halt at the next one. -/
def bundleHalt (s : State) (k : Nat) (y : YOp) (c0 c : QCore) : QCore :=
  if c.haltReq = 0 && ((y == .brk && s.quillDebug k) || brkArmed s k c0.pc) then { c with haltReq := 3 } else c

/-- The bundle's memory access: a store to the own bank or a local register is done, another store is posted, a load from the
own bank lands at n + 2, another load stalls the core (R208, R215, R246). A store to a queue port is posted like any store to a stall
region, so the 8 cycles that R215's table gives a write of the high word hold up no bundle and are not counted (the table and the
text of R215 leave open which applies; DESIGN CHOICE, log entry 185). -/
def bundleMem (k : Nat) (m : YMem) (s : State) : State :=
  match m.load with
  | some r =>
    if stallRegion m.addr then s.setCore k { s.core k with stall := some (r, m.addr) }
    else
      let l := memLoad k m.addr s
      l.2.setCore k { l.2.core k with land := [(r, l.1)] }
  | none =>
    if stallRegion m.addr then s.setCore k { s.core k with wbuf := (s.core k).wbuf ++ [(m.addr, m.data)] }
    else memStore k m.addr m.data s

/-- R232: the core enters FAULT at its bundle, which has no effect; earlier bundles complete. -/
def coreFault (k cause : Nat) (s : State) : State :=
  fire 0x14 k (s.setCore k { (s.core k).settle with st := .fault, cause := cause, stall := none, bufWait := false })

/-- The word and the effect of one bundle at the core's PC, which the core is free to issue. -/
def issueBundle (k : Nat) (x : XOp) (y : YOp) (s : State) : State :=
  let c0 := (s.core k).released
  if c0.pmBad.contains c0.pc then coreFault k 9 s
  else if faultCause c0 y ≠ 0 then coreFault k (faultCause c0 y) s
  else
    let s' := s.setCore k (bundleHalt s k y c0 (bundleRegs s k x y c0))
    match yMem c0 y with
    | some m => bundleMem k m s'
    | none => s'

/-- The program-memory bundle at the core's PC. -/
def QCore.bundle (c : QCore) : Bundle := Tab.get (fun _ => (0 : Bundle)) c.pm c.pc

/-- R233: an ABORT has stopped the core's issue and has not yet ended. -/
def State.coreAborting (s : State) (k : Nat) : Bool := s.hif.aborting.contains k

/-- R207, R231, R233, R250: the core issues a bundle: RUNNING, not stalled, not waiting for a source, not about to halt, not
under an ABORT. -/
def canIssue (s : State) (k : Nat) : Bool :=
  let c := s.core k
  s.hasCore k && s.coreOn && c.st == .running && c.stall.isNone && !(c.waiting && (BitVec.ofNat 8 c.ipend &&& BitVec.ofNat 8 c.imask) == 0)
    && !(c.atPoint && (c.haltReq ≠ 0 || brkArmed s k c.pc)) && !s.coreAborting k

/-- R215: a store to a stall region waits while the write buffer of 8 entries is full. -/
def bufferFull (c : QCore) (y : YOp) : Bool :=
  match yMem c y with
  | some m => m.load.isNone && stallRegion m.addr && decide (8 ≤ c.wbuf.length)
  | none => false

/-- The command's bundle is the one at the core's PC: it issues, or stalls a cycle behind a full write buffer. Otherwise the
event does not occur. No interrupt is taken between the stall's first cycle and the bundle (R221). -/
def issue (k : Nat) (x : XOp) (y : YOp) (s : State) : State :=
  if canIssue s k && decodeBundle (s.core k).bundle == some (x, y) then
    if bufferFull (s.core k).released y && !(s.core k).pmBad.contains (s.core k).pc then
      (s.setCore k { s.core k with bufWait := true }).count (Reg.QCORE_STALL_CNT k) 1
    else issueBundle k x y s
  else s

end Sys2Proof.Machine
end

