-- ==== Sys2Proof/Machine/QuillCtl.lean ====
section
/-! DEFINITION. Control of the Quill cores: interrupt sources and entry (R221, R222), stalls and posted stores (R215), START, HALT,
STEP, RESET and ABORT (R229 to R233), program memory and debug access (R234, R235). -/

namespace Sys2Proof.Machine

/-- Set bit `b` of a core's QL_IPEND (R221). -/
def pendIrq (k b : Nat) (s : State) : State := s.setCore k { s.core k with ipend := (s.core k).ipend ||| 2 ^ b }

/-- R221: BLOCK pends on every core at cycle 16 of the interval. -/
def blockIrq (s : State) : State :=
  if s.coreOn && decide (s.sched.cycle ≤ 16) then (List.range (capTiles s.variant)).foldl (fun s k => pendIrq k 0 s) (s.reach 16) else s

/-- R221: TIMER pends when QL_CYCLE reaches QL_TIMER.CYCLE with EN = 1. -/
def timerIrq (k : Nat) (s : State) : State :=
  let t := (s.core k).timer.toNat
  if s.coreOn && s.hasCore k && bitOf t 31 && decide (s.sched.cycle ≤ getF t 18 0) then pendIrq k 1 (s.reach (getF t 18 0)) else s

/-- R235: a write of QCORE_DOORBELL. -/
def doDoorbell (k : Nat) (v : Word) (s : State) : State :=
  if s.served (Reg.QCORE_DOORBELL k) && bitOf v.toNat 0 then pendIrq k 3 s else s

/-- The lowest set bit of an 8-bit number, if any. -/
def lowBit (n : Nat) : Option Nat := (List.range 8).find? (fun b => bitOf n b)

/-- R221: the source an interrupt point takes: ST.IE = 1 and the lowest enabled pending bit. -/
def takenSource (c : QCore) : Option Nat :=
  if bitOf c.sr.toNat 31 then lowBit (BitVec.ofNat 8 c.ipend &&& BitVec.ofNat 8 c.imask).toNat else none

/-- R222: entry: PC and ST saved, IE cleared, results in flight land, PC := IV + 4·s. -/
def enterIrq (k : Nat) (s : State) : State :=
  let c := s.core k
  if s.hasCore k && s.coreOn && c.st == .running && c.atPoint && !s.coreAborting k then
    match takenSource c with
    | some b =>
      let c' := c.settle
      s.setCore k { c' with epc := c.pc, est := c'.sr, sr := toW (setF c'.sr.toNat 31 31 0), pc := (c.iv + 4 * b) % 4096,
                            waiting := false, hold := false }
    | none => s
  else s

/-- R215, R261: the oldest posted store reaches its region, with what the owner of the bank does to the same word in that cycle. -/
def postDone (k : Nat) (s : State) (own : PortOp := .idle) : State :=
  match (s.core k).wbuf with
  | [] => s
  | (a, v) :: rest =>
    let t := s.setCore k { s.core k with wbuf := rest }
    match qPlace a with
    | .fabric f => withOwner f own (memStore k a v) t
    | _ => memStore k a v t

/-- Every posted store completes, in order; the buffer has at most 8 entries. -/
def drain (k : Nat) (s : State) : State := (List.range 8).foldl (fun s _ => postDone k s) s

/-- R215: the data of a stalled load arrives, after the write buffer has emptied, and follows the load rule of R208. An ABORT
has abandoned the load (R233). -/
def stallDone (k cycles : Nat) (s : State) : State :=
  match (s.core k).stall with
  | some (r, a) =>
    if (s.core k).wbuf.isEmpty && !s.coreAborting k then
      let l := memLoad k a s
      (l.2.setCore k { l.2.core k with stall := none, land := (l.2.core k).land ++ [(r, l.1)] }).count (Reg.QCORE_STALL_CNT k) cycles
    else s
  | none => s

/-- R204, R230: the registers at start from IDLE. -/
def startRegs (c : QCore) (pc : Nat) : QCore :=
  { c with st := .running, cause := 0, pc := pc, lastPc := pc, d := QCore.reset.d, a := QCore.reset.a, m := QCore.reset.m,
           ac := QCore.reset.ac, acm := QCore.reset.acm, acBusy := [], lc := 0, ls := 0, le := 0, sr := 0x100, iv := 0,
           land := [], delay := none, inRep := false, repTail := false, waiting := false, hold := false, stall := none, bufWait := false,
           haltReq := 0 }

/-- R230: START. -/
def coreStart (k : Nat) (s : State) : State :=
  let c := s.core k
  match c.st with
  | .running => s
  | .halted =>
    if c.cause = 2 then s.setCore k (startRegs c (s.rd (Reg.QCORE_START_PC k)))
    else s.setCore k { c with st := .running, cause := 0, haltReq := 0 }
  | _ => s.setCore k (startRegs c (s.rd (Reg.QCORE_START_PC k)))

/-- R231: HALT requests a halt of a RUNNING core. -/
def coreHalt (k : Nat) (s : State) : State :=
  let c := s.core k
  if c.st == .running && c.haltReq = 0 then s.setCore k { c with haltReq := 1 } else s

/-- R231: a requested halt or an armed breakpoint takes effect at an interrupt point. -/
def haltTaken (k : Nat) (s : State) : State :=
  let c := s.core k
  if s.hasCore k && c.st == .running && c.atPoint && !s.coreAborting k && (c.haltReq ≠ 0 || brkArmed s k c.pc) then
    s.setCore k { c with st := .halted, cause := if c.haltReq ≠ 0 then c.haltReq else 3, haltReq := 0 }
  else s

/-- R215: the uncontended stall of a load from a word address. -/
def stallLen (a : Nat) : Nat :=
  match qPlace a with
  | .fabric f =>
    match bankOf f with
    | some (i, _) => if i < 64 then 12 else if i < 128 then 14 else 10
    | none => 0
  | .qport _ _ => 8
  | _ => 0

/-- R237, R234: the CAUSE of a bundle that no encoding defines: a parity failure of the fetch is found first. -/
def undefinedCause (c : QCore) : Nat := if c.pmBad.contains c.pc then 9 else 5

/-- R231: under STEP a bundle runs on registers where every result has landed, and its stores and loads complete; nothing
contends with a stalled load, which counts R215's cycles (DEDUCED, log entry 163). A core that was halted while WAIT held back its
issue executes its next bundle, with no source pending (R231 is silent; DESIGN CHOICE, log entry 187). -/
def stepBundle (k : Nat) (s : State) : State :=
  let s := s.setCore k (s.core k).settle
  match decodeBundle (s.core k).bundle with
  | some (x, y) =>
    let s := drain k (issueBundle k x y (drain k s))
    stallDone k (match (s.core k).stall with | some (_, a) => stallLen a | none => 0) s
  | none => coreFault k (undefinedCause (s.core k)) s

/-- R231: the bundles of a REP body that follow under one STEP; a body has at most 32 bundles and 4,096 iterations. -/
def stepRep (k : Nat) : Nat → State → State
  | 0, s => s
  | n + 1, s => if (s.core k).inRep && (s.core k).st == .halted then stepRep k n (stepBundle k s) else s

/-- R231: STEP executes one bundle or one whole REP, lets its results land, and halts with CAUSE 4. -/
def coreStep (k : Nat) (s : State) : State :=
  if (s.core k).st == .halted && s.quillDebug k then
    let s := stepRep k (32 * 4096) (stepBundle k s)
    let c := s.core k
    if c.st == .halted then s.setCore k { c.settle with cause := 4, haltReq := 0, hold := false } else s
  else s

/-- R215: an abandoned load has stalled the core for a number of cycles that the command does not tell: the model draws it (log
entry 162). -/
def dropStall (k : Nat) (s : State) : State :=
  if (s.core k).stall.isSome then
    let w := s.freeW
    (w.2.setCore k { w.2.core k with stall := none }).count (Reg.QCORE_STALL_CNT k) w.1.toNat
  else s

/-- R235: RESET: IDLE at once, stalled loads abandoned, the write buffer discarded; a held pair word is pushed alone (R288). -/
def coreReset (k : Nat) (s : State) : State :=
  let s := dropStall k s
  let c := s.core k
  let c := { c with st := .idle, cause := 0, wbuf := [], bufWait := false, haltReq := 0, land := [], delay := none }
  releasePair (coreKey k) (s.setCore k { c with inRep := false, repTail := false, waiting := false, hold := false })

/-- R235: a write of QCORE_CTL. Of several bits in one write RESET acts alone, and else START, HALT and STEP act in this order (R235
gives none; DESIGN CHOICE, log entry 188). -/
def doQcoreCtl (k v : Nat) (s : State) : State :=
  if s.served (Reg.QCORE_CTL k) then
    if bitOf v 4 then coreReset k s
    else
      let s := if bitOf v 1 then coreStart k s else s
      let s := if bitOf v 2 then coreHalt k s else s
      if bitOf v 3 then coreStep k s else s
  else s

/-- R233: ABORT of a core: its stores complete, its queues are flushed with a marker, it is HALTED with CAUSE 2. -/
def coreAbort (k : Nat) (s : State) : State :=
  if (s.core k).st == .halted then s
  else
    let s := drain k (dropStall k s)
    let s := releasePair (coreKey k) s
    let s := (List.range 256).foldl (fun s q => if s.fget (Reg.QUEUE_CFG q) 15 8 = k && queuePresent s.variant q then flush q true s else s) s
    let c := (s.core k).settle
    let c := { c with st := .halted, cause := 2, haltReq := 0, waiting := false, hold := false, bufWait := false }
    s.setCore k { c with delay := none, inRep := false, repTail := false }

/-- The bundle address of QCORE_PM_IDX rises after an access to QCORE_PM_HI (R235). -/
def bumpPmIdx (k : Nat) (s : State) : State := s.wr (Reg.QCORE_PM_IDX k) ((s.rd (Reg.QCORE_PM_IDX k) + 1) % 4096)

/-- R234, R510: a write of QCORE_PM_HI stores the whole bundle, or sets PM_REJECT. A write that is ignored does not move QCORE_PM_IDX
(R235 is silent; DESIGN CHOICE, log entry 189). -/
def doPmHi (k : Nat) (v : Word) (s : State) : State :=
  if s.served (Reg.QCORE_PM_HI k) then
    if (s.core k).st == .running || s.level ≠ 2 then s.bset (Reg.QCORE_STATUS k) 18 true
    else
      let i := s.rd (Reg.QCORE_PM_IDX k)
      let b : Bundle := v ++ Tab.get (fun _ => 0) s.held (Reg.QCORE_PM_LO k)
      let c := s.core k
      bumpPmIdx k (s.setCore k { c with pm := Tab.put (fun _ => (0 : Bundle)) c.pm i b, pmBad := c.pmBad.filter (fun j => j != i), prog := 1 })
  else s

/-- R234, R510: program memory may be read back. -/
def pmReadable (s : State) (k : Nat) : Bool := (s.core k).st ≠ .running && s.quillDebug k

/-- The bundle that QCORE_PM_IDX names. -/
def pmBundle (s : State) (k : Nat) : Bundle := Tab.get (fun _ => (0 : Bundle)) (s.core k).pm (s.rd (Reg.QCORE_PM_IDX k))

/-- R235, R18: a read of QCORE_PM_LO fetches the bundle and latches HI. -/
def doPmLoRead (m : Master) (k : Nat) (s : State) : State :=
  if s.served (Reg.QCORE_PM_LO k) && pmReadable s k then
    (s.latch m (Reg.QCORE_PM_HI k) ((pmBundle s k).extractLsb' 32 32)).answer ((pmBundle s k).extractLsb' 0 32)
  else s.answer 0

/-- R235: what QCORE_DBG_DATA reads while HALTED. -/
def dbgReg (c : QCore) (sel : Nat) : Word :=
  if sel < 38 then c.outReg sel
  else if 40 ≤ sel && sel < 52 then acPart (nth 0 c.ac ((sel - 40) / 3)) ((sel - 40) % 3)
  else 0

/-- R235: a write of QCORE_DBG_DATA while HALTED. -/
def dbgSet (c : QCore) (sel : Nat) (w : Word) : QCore :=
  if sel < 32 || sel = 35 || sel = 36 then c.inReg sel w
  else if sel = 32 then { c with lc := w.toNat % 8192 }
  else if sel = 33 then { c with ls := w.toNat % 4096 }
  else if sel = 34 then { c with le := w.toNat % 4096 }
  else if sel = 37 then { c with pc := w.toNat % 4096 }
  else if 40 ≤ sel && sel < 52 then
    let n := (sel - 40) / 3
    { c with ac := upd c.ac n (acSetPart (nth 0 c.ac n) ((sel - 40) % 3) w), acm := upd c.acm n (acSetPart (nth 0 c.acm n) ((sel - 40) % 3) w) }
  else c

/-- R237, R232: the core decodes an undefined bundle at its PC and enters FAULT with CAUSE 5, also where the other slot holds a
misplaced control operation, which alone gives CAUSE 6 (R210 names no order; DESIGN CHOICE, log entry 186). -/
def undefinedBundle (k : Nat) (s : State) : State :=
  if canIssue s k && decodeBundle (s.core k).bundle == none then
    coreFault k (undefinedCause (s.core k)) s
  else s

/-- BLOCK_INTERRUPT (R221). -/
def execBlockInterrupt (s : State) : Host.Outcome State Fault Refusal := .next (blockIrq s)

/-- TIMER_INTERRUPT (R221). -/
def execTimerInterrupt (core : Nat) (s : State) : Host.Outcome State Fault Refusal := .next (timerIrq core s)

/-- QCORE_DOORBELL (R235). -/
def execQcoreDoorbell (_m : Master) (core : Nat) (v : Word) (s : State) : Host.Outcome State Fault Refusal := .next (doDoorbell core v s)

/-- INTERRUPT_ENTRY (R222). -/
def execInterruptEntry (core : Nat) (s : State) : Host.Outcome State Fault Refusal := .next (enterIrq core s)

/-- STALL_END (R215). -/
def execStallEnd (core cycles : Nat) (s : State) : Host.Outcome State Fault Refusal := .next (stallDone core cycles s)

/-- POSTED_STORE_COMPLETE (R215). -/
def execPostedStoreComplete (core : Nat) (s : State) (own : PortOp := .idle) : Host.Outcome State Fault Refusal := .next (postDone core s own)

/-- START (R230): a write of QCORE_CTL with START = 1. -/
def execStart (_m : Master) (core : Nat) (s : State) : Host.Outcome State Fault Refusal := .next (doQcoreCtl core 2 s)

/-- HALT (R231): a write of QCORE_CTL with HALT = 1. -/
def execHalt (_m : Master) (core : Nat) (s : State) : Host.Outcome State Fault Refusal := .next (doQcoreCtl core 4 s)

/-- HALT_TAKEN (R231). -/
def execHaltTaken (core : Nat) (s : State) : Host.Outcome State Fault Refusal := .next (haltTaken core s)

/-- STEP (R231): a write of QCORE_CTL with STEP = 1. -/
def execStep (_m : Master) (core : Nat) (s : State) : Host.Outcome State Fault Refusal := .next (doQcoreCtl core 8 s)

/-- RESET (R235): a write of QCORE_CTL with RESET = 1. -/
def execReset (_m : Master) (core : Nat) (s : State) : Host.Outcome State Fault Refusal := .next (doQcoreCtl core 16 s)

/-- QCORE_PM_HI_WRITE (R234). -/
def execQcorePmHiWrite (_m : Master) (core : Nat) (v : Word) (s : State) : Host.Outcome State Fault Refusal := .next (doPmHi core v s)

/-- QCORE_PM_LO_READ (R235). -/
def execQcorePmLoRead (m : Master) (core : Nat) (s : State) : Host.Outcome State Fault Refusal := .next (doPmLoRead m core s)

/-- UNDEFINED_ENCODING (R237). -/
def execUndefinedEncoding (core : Nat) (s : State) : Host.Outcome State Fault Refusal := .next (undefinedBundle core s)

end Sys2Proof.Machine
end

