-- ==== Sys2Proof/Machine/Exact.lean ====
section
/-! DEFINITION. Exactly rounded real expressions (R86, R79, R130, R174): reals held in fixed point with 512 fraction bits, with
the power series of sine, cosine, logarithm, exponential and I₀. Two algebraic values that the tables can form either are equal
or differ by far more than the error of the fixed point, so equality is decided by it (log entry 5). -/

namespace Sys2Proof.Machine.Fx

/-- Fraction bits. -/
def bits : Nat := 512

/-- 1. -/
def one : Int := 2 ^ 512

/-- An integer. -/
def ofInt (x : Int) : Int := x * one

/-- A quotient of integers. -/
def ratio (a : Int) (b : Nat) : Int := a * one / (b : Int)

/-- Product. -/
def mul (a b : Int) : Int := a * b / one

/-- Quotient. -/
def div (a b : Int) : Int := a * one / b

/-- Square root of a nonnegative value. -/
def sqrt (a : Int) : Int := (isqrt (a.toNat * 2 ^ 512) : Nat)

/-- The error bound of a computed value: what differs by less is equal. -/
def eps : Int := 2 ^ 112

/-- R86: round to the nearest integer, a tie upward. -/
def round (a : Int) : Int := (2 * (a + eps) + one) / (2 * one)

/-- The sign of a computed value, as −1, 0 or 1. -/
def sign (a : Int) : Int := if a.natAbs < 2 ^ 162 then 0 else a.sign

/-- π. -/
def pi : Int := 42121870893450636219446821484559388105255997313489254605594685088103805782276098919793885372247726346443771296916333485327292916625599161542353774203832599

/-- Σ of the terms t, t·y/((k+1)(k+2)), …: the even or odd series of cosine and sine, `y` = −x². -/
def trigSeries (y : Int) : Nat → Nat → Int → Int → Int
  | 0, _, _, s => s
  | n + 1, k, t, s =>
    let t' := mul t y / (((k + 1) * (k + 2) : Nat) : Int)
    trigSeries y n (k + 2) t' (s + t')

/-- Cosine, for |x| up to 2π. -/
def cos (x : Int) : Int := trigSeries (-(mul x x)) 85 0 one one

/-- Sine, for |x| up to 2π. -/
def sin (x : Int) : Int := trigSeries (-(mul x x)) 85 1 x x

/-- The angle a / 65,536 of a turn. -/
def turn (a : Int) : Int := 2 * pi * a / 65536

/-- Σ z^(2k+1)/(2k+1). -/
def atanhSeries (z2 : Int) : Nat → Nat → Int → Int → Int
  | 0, _, _, s => s
  | n + 1, k, p, s =>
    let p' := mul p z2
    atanhSeries z2 n (k + 2) p' (s + p' / ((k + 2 : Nat) : Int))

/-- ln m for m in [1, 2]. -/
def lnUnit (m : Int) : Int :=
  let z := div (m - one) (m + one)
  2 * atanhSeries (mul z z) 170 1 z z

/-- ln 2. -/
def ln2 : Int := lnUnit (2 * one)

/-- ln of a positive integer. -/
def lnNat (n : Nat) : Int :=
  let k := n.log2
  (k : Int) * ln2 + lnUnit ((n : Int) * one / ((2 ^ k : Nat) : Int))

/-- ln 10. -/
def ln10 : Int := lnNat 10

/-- Σ r^k/k!. -/
def expSeries (r : Int) : Nat → Nat → Int → Int → Int
  | 0, _, _, s => s
  | n + 1, k, t, s =>
    let t' := mul t r / ((k + 1 : Nat) : Int)
    expSeries r n (k + 1) t' (s + t')

/-- The exponential. -/
def exp (x : Int) : Int :=
  let k := x / ln2
  let e := expSeries (x - k * ln2) 100 0 one one
  if 0 ≤ k then e * 2 ^ k.toNat else e / 2 ^ (-k).toNat

/-- Σ q^k/(k!)². -/
def besselSeries (q : Int) : Nat → Nat → Int → Int → Int
  | 0, _, _, s => s
  | n + 1, k, t, s =>
    let t' := mul t q / (((k + 1) * (k + 1) : Nat) : Int)
    besselSeries q n (k + 1) t' (s + t')

/-- I₀(y) from q = y²/4. -/
def besselI0 (q : Int) : Int := besselSeries q 120 0 one one

/-- sinc(x) κ(x) scaled by 2¹⁸ and rounded: R130, for x = num / 256 with T taps and β. -/
def tapCoef (taps beta : Nat) (num : Int) : Int :=
  if num = 0 then 2 ^ 18
  else
    let px := pi * num / 256
    -- |x| ≤ T/2, so πx is reduced by whole turns of the sine: sin(πx) = ± sin(π·frac)
    let r := num % 512
    let sn := sin (pi * (if 256 < r then r - 512 else r) / 256)
    let sinc := div sn px
    let q (m : Int) : Int := ((beta * beta : Nat) : Int) * m / 4
    let u := one - (num * num * 4 * one / ((65536 * taps * taps : Nat) : Int))
    round (2 ^ 18 * div (mul sinc (besselI0 (q u))) (besselI0 (q one)))

/-- 10^(−num / den). -/
def pow10neg (num : Int) (den : Nat) : Int := exp (-(ln10 * num / (den : Int)))

/-- R79: SPM = round(Fs · 2²² / c), c = 331.3 · √(1 + T / 273.15), T = temp / 256. -/
def spm (fs : Nat) (temp : Int) : Nat :=
  -- 1 + temp/(256·273.15) = (6,992,640 + 100·temp) / 6,992,640
  let root := sqrt (ratio (6992640 + 100 * temp) 6992640)
  (round (div (ofInt ((fs * 2 ^ 22 * 10 : Nat) : Int)) (3313 * root))).toNat

/-- R174: round(65,536 · 20 · log₁₀(p / 2²³)). -/
def levelOf (p : Nat) : Int := round (65536 * 20 * div (lnNat p - 23 * ln2) ln10)

/-- R174: round(65,536 · 10^(−gr / (20 · 65,536))). -/
def gainOf (gr : Nat) : Nat := (round (65536 * pow10neg gr (20 * 65536))).toNat

/-- R176: round(2²³ · 10^(−ceil / 5,120)). -/
def ceilingOf (ceil : Nat) : Nat := (round (2 ^ 23 * pow10neg ceil 5120)).toNat

/-- R168: the twiddle factors round(2¹⁷ · cos(2πq/n)) and round(−2¹⁷ · sin(2πq/n)). -/
def twiddle (q n : Nat) : Int × Int :=
  let a := 2 * pi * (q : Int) / (n : Int)
  (round (2 ^ 17 * cos a), round (-(2 ^ 17) * sin a))

end Sys2Proof.Machine.Fx
end

