-- ==== Sys2Proof/Machine/CondRom.lean ====
section
/-! DEFINITION. The ROM tables of the conditioning chain: the FIR coefficients of the decimator's presets (R392, R393) and the
coefficients of the A and C weighting (R405). The spec states what the tables achieve, not their numbers: each is a free constant
held to those properties (log entry 9). -/

namespace Sys2Proof.Machine

/-- R393: taps of a preset. -/
def presetLen (p : Nat) : Nat := nth 189 [48, 96, 160] p

/-- R393: the SETTLE count. -/
def presetSettle (p : Nat) : Nat := nth 97 [27, 51, 83] p

/-- R393: the group delay in render samples at 1 kHz, rounded. -/
def presetDelay (p : Nat) : Int := nth 48 [6, 16, 36] p

/-- R393: the passband edge in thousandths of Fs. -/
def presetPass (p : Nat) : Nat := nth 450 [400] p

/-- R393: the attenuation from 0.55 Fs on, in dB. -/
def presetStop (p : Nat) : Nat := nth 150 [80, 110, 140] p

/-- Σ h[n] · cos(π n·a / b) and Σ h[n] · sin(π n·a / b), each weighted by `w n`, over a table with LSB 2⁻²². -/
def firSum (w : Nat → Int) (a b : Nat) (h : List Int) : Int × Int :=
  (List.range h.length).foldl (fun (x : Int × Int) n =>
    let t := Fx.pi * ((n * a % (2 * b) : Nat) : Int) / (b : Int)
    let c := w n * nth 0 h n
    (x.1 + c * Fx.cos t / 2 ^ 22, x.2 + c * Fx.sin t / 2 ^ 22)) (0, 0)

/-- The power gain of the FIR, which runs at 2·Fs, at k/1,000 of Fs. -/
def firPower (h : List Int) (k : Nat) : Int :=
  let r := firSum (fun _ => 1) k 1000 h
  Fx.mul r.1 r.1 + Fx.mul r.2 r.2

/-- R392: the power gain of the CIC of five stages and rate M at k/1,000 of Fs, 0 < k. -/
def cicPower (m k : Nat) : Int :=
  let c := Fx.div (Fx.sin (Fx.pi * (k : Int) / 2000)) ((m : Int) * Fx.sin (Fx.pi * (k : Int) / ((2000 * m : Nat) : Int)))
  let p := Fx.mul c c
  Fx.mul p (Fx.mul (Fx.mul p p) (Fx.mul p p))

/-- R393: ±0.01 dB of CIC and FIR together up to the passband edge, and the FIR's attenuation from 0.55 Fs to its band's end, at
each thousandth of Fs. -/
def firBands (preset m : Nat) (h : List Int) : Bool :=
  (List.range (presetPass preset + 1)).all (fun k => k == 0 ||
      (let g := Fx.mul (firPower h k) (cicPower m k)
       decide (Fx.pow10neg 1 1000 ≤ g) && decide (g ≤ Fx.pow10neg (-1) 1000)))
    && (List.range 451).all (fun k => decide (firPower h (550 + k) ≤ Fx.pow10neg (presetStop preset) 10))

/-- R393: the group delay of CIC and FIR at 1 kHz in render samples: half that of the FIR's taps, and 5·(M − 1)/2 bits. -/
def firDelay (m fs : Nat) (h : List Int) : Int :=
  let r := firSum (fun _ => 1) 1000 fs h
  let d := firSum (fun n => (n : Int)) 1000 fs h
  let t := Fx.div (Fx.mul d.1 r.1 + Fx.mul d.2 r.2) (Fx.mul r.1 r.1 + Fx.mul r.2 r.2)
  Fx.round (t / 2 + Fx.ofInt (5 * ((m : Int) - 1)) / ((4 * m : Nat) : Int))

/-- R390: the rates Fs at which M is 16 · 2^mSel. -/
def ratesOf (mSel : Nat) : List Nat := nth [48000] [[96000], [96000, 48000]] mSel

/-- R392, R393: a table sums to exactly 2²², that of ANALYSIS is symmetric, and the bands and the group delay are those stated. -/
def firLegal (preset mSel : Nat) : Bool :=
  let m := 16 * 2 ^ mSel
  let len := presetLen preset
  let h := (List.range len).map (fun n => (Config.firCoef preset mSel n).toInt)
  h.foldl (· + ·) 0 == 2 ^ 22 && (preset != 3 || h == h.reverse)
    && firBands preset m h && (ratesOf mSel).all (fun fs => firDelay m fs h == presetDelay preset)

/-- R392, R393: the table of a preset and of M: the ROM's, which is one of the legal tables; the single centre tap stands for a
value of the free constant that is no legal table (log entry 9). -/
def firTable (preset mSel : Nat) : List Int :=
  let len := presetLen preset
  if firLegal preset mSel then (List.range len).map (fun n => (Config.firCoef preset mSel n).toInt)
  else (List.range len).map (fun n => if n = len / 2 then 2 ^ 22 else 0)

/-- IEC 61672-1: the squares of the pole frequencies f1 to f4 of the A and C weightings, in 10⁻⁶ Hz² (PRESUMED, log entry 9). -/
def wtPole (k : Nat) : Int := nth 148698931852529 [424318680, 11589092760, 544440671547] k

/-- Sections of a weighting: A (0) has three, C (1) two. -/
def wtSections (w : Nat) : Nat := if w = 0 then 3 else 2

/-- x² of the analogue frequency, in Hz², that the bilinear transform with prewarping at 1 kHz puts at `f` Hz. -/
def wtWarp (fs f : Nat) : Int :=
  let tan (g : Nat) : Int := Fx.div (Fx.sin (Fx.pi * (g : Int) / (fs : Int))) (Fx.cos (Fx.pi * (g : Int) / (fs : Int)))
  let r := Fx.div (tan f) (tan 1000)
  1000000 * Fx.mul r r

/-- IEC 61672-1: the power response of a weighting at x² = `x`, up to a factor. -/
def wtAnalogue (w : Nat) (x : Int) : Int :=
  let share (k : Nat) : Int := Fx.div x (x + wtPole k * Fx.one / 1000000)
  let low := Fx.div (wtPole 3 * Fx.one / 1000000) (x + wtPole 3 * Fx.one / 1000000)
  let c := Fx.mul (Fx.mul (share 0) (share 0)) (Fx.mul low low)
  if w = 0 then Fx.mul c (Fx.mul (share 1) (share 2)) else c

/-- |c0 + c1·z⁻¹ + c2·z⁻²|² at `f` Hz, for coefficients with LSB 2⁻³⁰. -/
def quadPower (fs f : Nat) (c0 c1 c2 : Int) : Int :=
  let a := 2 * Fx.pi * (f : Int) / (fs : Int)
  let re := (c0 * Fx.one + c1 * Fx.cos a + c2 * Fx.cos (2 * a)) / 2 ^ 30
  let im := (c1 * Fx.sin a + c2 * Fx.sin (2 * a)) / 2 ^ 30
  Fx.mul re re + Fx.mul im im

/-- The power response at `f` Hz of a weighting's sections, whose coefficients b0, b1, b2, a1, a2 the function gives. -/
def wtPower (fs w f : Nat) (co : Nat → Nat → Int) : Int :=
  (List.range (wtSections w)).foldl (fun p i =>
    Fx.mul p (Fx.div (quadPower fs f (co i 0) (co i 1) (co i 2)) (quadPower fs f (2 ^ 30) (co i 3) (co i 4)))) Fx.one

/-- Fs. -/
def wtRate (is48 : Bool) : Nat := if is48 then 48000 else 96000

/-- R405: the coefficients are those of the bilinear transform of the weighting, normalised at 1 kHz: at each of these frequencies
the response is that of the analogue weighting to 0.05 dB, which leaves room for the rounding to Q2.30 only. -/
def wtLegal (is48 : Bool) (w : Nat) : Bool :=
  let fs := wtRate is48
  [16, 31, 63, 125, 250, 500, 1000, 2000, 4000, 8000, 16000, 20000].all (fun f =>
    let g := Fx.div (wtPower fs w f (fun i c => (Config.wtCoef is48 w i c).toInt))
      (Fx.div (wtAnalogue w (wtWarp fs f)) (wtAnalogue w (1000000 * Fx.one)))
    decide (Fx.pow10neg 5 1000 ≤ g) && decide (g ≤ Fx.pow10neg (-5) 1000))

/-- The pole in z that the bilinear transform gives the analogue pole `k`. -/
def wtZPole (fs k : Nat) : Int :=
  let t := Fx.div (Fx.sin (Fx.pi * 1000 / (fs : Int))) (Fx.cos (Fx.pi * 1000 / (fs : Int)))
  let r := Fx.mul t (Fx.sqrt (wtPole k * Fx.one / 1000000) / 1000)
  Fx.div (Fx.one - r) (Fx.one + r)

/-- A section of the bilinear transform before its gain: two zeros at z = 1, or at z = −1 in the last section. -/
def wtRaw (fs w i c : Nat) : Int :=
  let last := i + 1 == wtSections w
  let p := wtZPole fs (if last then 3 else if i = 0 then 0 else 1)
  let q := wtZPole fs (if last then 3 else if i = 0 then 0 else 2)
  nth 0 [2 ^ 30, if last then 2 ^ 31 else -(2 ^ 31), 2 ^ 30, Fx.round (-(2 ^ 30) * (p + q)), Fx.round (2 ^ 30 * Fx.mul p q)] c

/-- R405: one set of coefficients that the bilinear transform gives, with the gain in the last section: it stands for a value of
the free constant that is none (log entry 9). -/
def wtDesign (is48 : Bool) (w i c : Nat) : Int :=
  let fs := wtRate is48
  if i + 1 = wtSections w ∧ c < 3 then Fx.round (Fx.mul (Fx.sqrt (Fx.div Fx.one (wtPower fs w 1000 (wtRaw fs w)))) (wtRaw fs w i c * Fx.one))
  else wtRaw fs w i c

/-- R405: coefficient `c` of section `i` of a weighting, as a number with LSB 2⁻³⁰. -/
def wtTable (is48 : Bool) (w i c : Nat) : Int := if wtLegal is48 w then (Config.wtCoef is48 w i c).toInt else wtDesign is48 w i c

end Sys2Proof.Machine
end

