-- ==== Sys2Proof/Machine/Commit.lean ====
section
/-! DEFINITION. Commits (R188 to R203): shadows, seals and joins, arming, the verdict, deferral and failure. -/

namespace Sys2Proof.Machine

/-- R192: the participants that hold something of an item, one bit for each. -/
def Item.parts : Item → Nat
  | .reg off _ _ => match unitOf off with
    | some .strm => 0x002 | some .tdm => 0x004 | some .cond => 0x008 | some .rule => 0x020 | some .nib => 0x040
    | some .out => 0x080 | some .ddr => 0x200 | some .pwr => 0x400 | _ => 0
  | .spawn _ _ => 0x070
  | .objSet _ _ => 0x070
  | .release _ => 0x070
  | .spk _ _ => 0x1A0
  | .zone _ _ => 0x020
  | .maskSet _ _ => 0x020
  | .vbap _ _ => 0x020
  | .partition _ => 0x070
  | .route _ _ => 0x086
  | .handover => 0x800
  | .anchor _ => 0x001

/-- Every participant. -/
def allParts : Nat := 0xFFF

/-- R7: the participants that are present: all but the RCC and the twin controller, where the variant lacks them. -/
def presentParts (v : Variant) : Nat := allParts - (if capRcc v = 0 then 0x100 else 0) - (if capLig v then 0 else 0x800)

/-- The present participants that hold something of a list of items (R7). -/
def partsOf (v : Variant) (items : List Item) : Nat := items.foldl (fun a i => a ||| i.parts) 0 &&& presentParts v

/-- R52, R188, R189, R197: the field that an item stages, where a value staged later replaces the earlier one; the fields of
OBJ_SET lie over each other, and a spawn or a release is staged once. -/
def Item.key : Item → Option (Nat × Nat)
  | .reg off _ _ => some (0, off)
  | .spk n _ => some (1, n)
  | .zone n _ => some (2, n)
  | .maskSet n _ => some (3, n)
  | .vbap n _ => some (4, n)
  | .partition _ => some (5, 0)
  | .route n _ => some (6, n)
  | .handover => some (7, 0)
  | .anchor _ => some (8, 0)
  | .spawn _ _ => none
  | .objSet _ _ => none
  | .release _ => none

/-- The item that two items of one key come to, `new` staged after `old`. -/
def Item.over (old new : Item) : Item :=
  match old, new with
  | .reg off m v, .reg _ n w => .reg off (m ||| n) ((v - (v &&& n)) ||| (w &&& n))
  | _, i => i

/-- The two items stage one field. -/
def Item.same (i j : Item) : Bool := i.key.isSome && i.key == j.key

/-- Stage one more item behind a list: of one field only the last value stays. -/
def addItem (is : List Item) (i : Item) : List Item :=
  match is.find? (fun j => j.same i) with
  | some j => is.filter (fun k => !k.same i) ++ [j.over i]
  | none => is ++ [i]

/-- R201: commits wait for the standby: this module is ACTIVE, the link is UP and its partner is STANDBY (a partner whose link
is DOWN goes STALE, R443, and nothing can be forwarded to it, R455). -/
def twinHolds (s : State) : Bool := s.twin.st == 1 && s.twin.peerSt == 2 && decide (s.twin.lanes ≠ 0)

/-- R433: the pause of an APPLY, at most 2 µs from its cycle on. -/
def ddrPaused (s : State) (c : Nat) : Bool :=
  s.bget (Reg.DDR_STATUS c) 26 && decide (s.sched.cycle < s.slot 396400 329000)

/-- R193, R433, R441: the participants that withhold ARM now: a DRAM controller in TRAINING or in the pause of a delay load. -/
def withholding (s : State) : Nat :=
  if (List.range 2).any (fun c => present s.variant (Reg.DDR_CTL c) && (s.fget (Reg.DDR_STATUS c) 31 29 == 1 || ddrPaused s c)) then 0x200
  else 0

/-- Participants of `mask` lower ARM. -/
def lower (armed mask : Nat) : Nat := armed - (armed &&& mask)

/-- Change the pending commits. -/
def State.setCommits (s : State) (cs : List Commit) : State := { s with sched := { s.sched with commits := cs } }

/-- R193: participants that begin to withhold lower ARM for every pending commit. -/
def lowerAll (mask : Nat) (s : State) : State :=
  s.setCommits (s.sched.commits.map (fun c => { c with armed := lower c.armed mask }))

/-- R190: the refusals LATE, RANGE, FULL, STATE that a target meets. -/
structure Refusals where
  late : Bool
  range : Bool
  full : Bool
  state : Bool
  deriving DecidableEq, Repr

/-- R190: what a seal or command with target `t` meets now. -/
def refusals (t : Nat) (s : State) : Refusals where
  late := decide (t < s.bn + 2)
  range := decide (s.bn + 16777216 < t)
  full := decide (8 ≤ s.sched.commits.length) && !(s.sched.commits.any (fun c => c.target == t))
  state := !s.sched.rendering

/-- R190: any of them. -/
def Refusals.any (r : Refusals) : Bool := r.late || r.range || r.full || r.state

/-- R188, R189: the most recently sealed pending commit with target `t`, the module's own or one that its partner has forwarded. -/
def joinable (t : Nat) (cs : List Commit) : Option Commit := cs.reverse.find? (fun c => c.target == t)

/-- The union of two lists of offsets. -/
def unionNat (a b : List Nat) : List Nat := b.foldl insNat a

/-- R188, R455: the commit with joined values; its participants load them anew, and the standby must acknowledge them. -/
def Commit.join (v : Variant) (c : Commit) (items : List Item) (wrote : List Nat) (hold : Bool) : Commit :=
  { c with items := items.foldl addItem c.items
           armed := lower (lower c.armed (partsOf v items)) (if hold then 0x800 else 0)
           wrote := unionNat c.wrote wrote
           rewritten := c.rewritten.filter (fun o => !wrote.contains o)
           acksDue := c.acksDue + b2n hold }

/-- R188, R192: a new commit: participants with nothing staged arm at the seal, unless they withhold. -/
def newCommit (v : Variant) (cid t : Nat) (items : List Item) (wrote : List Nat) (hold : Bool) (wh : Nat) : Commit where
  cid := cid
  target := t
  original := t
  defers := 0
  items := items
  armed := lower allParts (partsOf v items ||| wh ||| (if hold then 0x800 else 0))
  wrote := wrote
  rewritten := []
  verdict := none
  acksDue := b2n hold
  peer := false

/-- R455: the values are to be forwarded to the partner. -/
def noteForward (cid t : Nat) (items : List Item) (s : State) : State :=
  if (s.twin.st == 1 || s.twin.st == 0) && s.twin.lanes ≠ 0 && s.twin.peerSt ≠ 5 && s.bget Reg.TWIN_CTL 31 then
    { s with twin := { s.twin with toForward := s.twin.toForward ++ [(cid, t, items)] } }
  else s

/-- R188, R189: stage items for target `t` into the joinable commit, or a new one. The CID of the commit is answered. -/
def stage (t : Nat) (items : List Item) (wrote : List Nat) (s : State) : Nat × State :=
  let hold := twinHolds s
  match joinable t s.sched.commits with
  | some c =>
    (c.cid, noteForward c.cid t items
      (s.setCommits (s.sched.commits.map (fun d => if d.cid = c.cid && d.peer == c.peer then d.join s.variant items wrote hold else d))))
  | none =>
    let cid := s.sched.nextCid
    let s := s.setCommits (s.sched.commits ++ [newCommit s.variant cid t items wrote hold (withholding s)])
    (cid, noteForward cid t items { s with sched := { s.sched with nextCid := cid + 1 } })

/-- The bits of the RWE fields of the register at a live offset. -/
def rweMask (off : Nat) : Nat := maskOf off (fun f => f.acc == .rwe)

/-- The pending word of a register with RWE fields. -/
def State.shadowWord (s : State) (off : Nat) : Nat := s.rd (shadowOf off)

/-- What an open shadow stages. -/
def shadowItem (s : State) (off : Nat) : Item := .reg off (rweMask off) (s.shadowWord off &&& rweMask off)

/-- A shadow returns to its live value. -/
def revertShadow (s : State) (off : Nat) : State := s.wr (shadowOf off) (s.rd off &&& rweMask off)

/-- R188: a write to a shadow: it is open until the next seal, and it no longer returns to the live value with an earlier
commit's failure (R196). -/
def openShadow (off w : Nat) (s : State) : State :=
  let s := s.wr (shadowOf off) w
  let s := s.setCommits (s.sched.commits.map (fun c => if c.wrote.contains off then { c with rewritten := insNat c.rewritten off } else c))
  { s with sched := { s.sched with openShadows := insNat s.sched.openShadows off } }

/-- R188, R190: the seal of every open shadow for target `t`. -/
def sealOpen (t : Nat) (s : State) : State :=
  let r := refusals t s
  if r.any then
    s.wr Reg.GLB_COMMIT_STATUS (s.rd Reg.GLB_COMMIT_STATUS |||
      (b2n r.late * 2 ^ 31 + b2n r.range * 2 ^ 30 + b2n r.full * 2 ^ 29 + b2n r.state * 2 ^ 28))
  else
    let offs := s.sched.openShadows
    let s := (stage t (offs.map (shadowItem s)) offs s).2
    { s with sched := { s.sched with openShadows := [] } }

/-- A write of GLB_COMMIT_EPOCH_HI (R188). -/
def doSeal (v : Word) (s : State) : State :=
  if s.served Reg.GLB_COMMIT_EPOCH_HI then
    let s := s.wr Reg.GLB_COMMIT_EPOCH_HI v.toNat
    sealOpen (s.rd64 Reg.GLB_COMMIT_EPOCH_LO) s
  else s

/-- R191: every open shadow returns to its live value. -/
def doAbandon (v : Word) (s : State) : State :=
  if s.served Reg.GLB_COMMIT_ABANDON && bitOf v.toNat 0 then
    let s := s.sched.openShadows.foldl revertShadow s
    { s with sched := { s.sched with openShadows := [] } }
  else s

/-- R7, R192, R193: present participant `p` raises ARM for commit `cid`, unless it withholds. -/
def raiseArm (cid p : Nat) (s : State) : State :=
  let bit := 2 ^ p
  if p < 12 && bitOf (presentParts s.variant) p && withholding s &&& bit == 0 then
    s.setCommits (s.sched.commits.map (fun c =>
      if c.cid = cid && !(p == 11 && c.acksDue ≠ 0 && twinHolds s) then { c with armed := c.armed ||| bit } else c))
  else s

/-- R192: by the verdict slot every participant that does not withhold has armed, since 3 cycles of its domain have passed. -/
def armedBy (s : State) (c : Commit) : Nat :=
  lower allParts (withholding s ||| (if c.acksDue ≠ 0 && twinHolds s then 0x800 else 0))

/-- R57: a spawned object returns to FREE, with its record at its reset values. -/
def freeObj (o : Nat) (s : State) : State := s.setObj o Obj.reset

/-- R196: a commit fails: nothing of it applies. -/
def failCommit (c : Commit) (s : State) : State :=
  let s := s.setCommits (s.sched.commits.filter (fun d => !(d.cid == c.cid && d.peer == c.peer)))
  let s := (c.wrote.filter (fun o => !c.rewritten.contains o && !s.sched.openShadows.contains o)).foldl revertShadow s
  let s := c.items.foldl (fun s i => match i with
    | .spawn o _ => if (s.obj o).st = .armed && (s.obj o).armCid = c.cid then freeObj o s else s
    | _ => s) s
  let s := if c.items.any (fun i => match i with | .anchor _ => true | _ => false) then
      { s with time := { s.time with anchorRetry := true } } else s
  let s := (s.count Reg.GLB_COMMIT_FAIL_CNT 1).wr64 Reg.GLB_COMMIT_FAIL_LO c.original
  fire 0x03 0 s

/-- R195: ARM_BN of the objects a commit spawns follows its target. -/
def trackArmBN (c : Commit) (t : Nat) (s : State) : State :=
  c.items.foldl (fun s i => match i with
    | .spawn o _ => if (s.obj o).st = .armed && (s.obj o).armCid = c.cid then s.setObj o { s.obj o with armBN := t } else s
    | _ => s) s

/-- R195, R196: one commit's DEFER for boundary `x`, with `unarmed` not armed: its target moves on, or the eighth deferral
fails it. -/
def deferCommit (x unarmed : Nat) (c : Commit) (s : State) : State :=
  if 7 ≤ c.defers then failCommit c s
  else
    let s := s.wr Reg.GLB_COMMIT_WAIT unarmed
    let s := s.setCommits (s.sched.commits.map (fun d =>
      if d.cid = c.cid && d.peer = c.peer then { d with target := x + 1, defers := d.defers + 1, verdict := none } else d))
    fire 0x02 0 ((trackArmBN c (x + 1) s).count Reg.GLB_COMMIT_DEFER_CNT 1)

/-- The module's own pending commits due at boundary `x`. -/
def dueCommits (x : Nat) (s : State) : List Commit := s.sched.commits.filter (fun c => c.target == x && !c.peer)

/-- R456: the outcomes of a verdict, for the VERDICT message. -/
def noteOutcomes (o : List (Nat × Nat)) (s : State) : State := { s with twin := { s.twin with outcomes := o } }

/-- R194, R198: the verdict for boundary `x`: GO for every commit due, or DEFER for every one. -/
def latchVerdict (x : Nat) (s : State) : State :=
  let due := dueCommits x s
  let unarmed := lower allParts (due.foldl (fun a c => a &&& armedBy s c) allParts)
  if due.isEmpty then s
  else if unarmed = 0 && s.sched.quietAt ≠ some x then
    noteOutcomes (due.map (fun c => (c.cid, 0)))
      (s.setCommits (s.sched.commits.map (fun c => if c.target = x && !c.peer then { c with armed := allParts, verdict := some true } else c)))
  else
    let s := noteOutcomes (due.map (fun c => (c.cid, if 7 ≤ c.defers then 2 else 1))) s
    due.foldl (fun s c => deferCommit x unarmed c s) s

/-- R456: the module takes its verdicts from its partner. -/
def followsPeer (s : State) : Bool := s.twin.st == 2 || s.twin.st == 4

/-- R456: the outcome that the partner's VERDICT for boundary `x` gives a forwarded commit: 0 GO, 1 DEFER, 2 FAIL. -/
def peerOutcome (x cid : Nat) (s : State) : Option Nat :=
  match s.twin.verdicts.find? (fun v => v.bn == x) with
  | some v => (v.outs.find? (fun o => o.1 == cid)).map (fun o => o.2)
  | none => none

/-- R194, R456: the commit has the verdict GO for boundary `x`. -/
def goesAt (x : Nat) (c : Commit) (s : State) : Bool :=
  if c.peer then followsPeer s && peerOutcome x c.cid s == some 0 else c.target == x && c.verdict == some true

/-- R194: the verdict for the next boundary, once in each interval. -/
def doVerdict (s : State) : State :=
  if s.sched.rendering && !s.sched.verdictDone then
    let s := s.reach (s.slot 392000 325000)
    let s := { s with sched := { s.sched with verdictDone := true } }
    if followsPeer s then s else latchVerdict (s.bn + 1) s
  else s

/-- COMMIT_SEAL (R188 to R190). -/
def execCommitSeal (_m : Master) (v : Word) (s : State) : Host.Outcome State Fault Refusal := .next (doSeal v s)

/-- COMMIT_ABANDON (R191). -/
def execCommitAbandon (_m : Master) (v : Word) (s : State) : Host.Outcome State Fault Refusal := .next (doAbandon v s)

/-- ARM_RAISE (R192, R193). -/
def execArmRaise (cid p : Nat) (s : State) : Host.Outcome State Fault Refusal := .next (raiseArm cid p s)

end Sys2Proof.Machine
end

