-- ==== Sys2Proof/Machine/Ddr.lean ====
section
/-! DEFINITION. The DRAM controllers (R412 to R427): address mapping, ECC and poison, ports, queues and the choice of the request
that a command slot issues. Contents are held by logical address; a device error enters with the command that meets it, and stays
with the word until the word is written (log entry 165). -/

namespace Sys2Proof.Machine

/-- R415: a fabric address lies in usable DRAM. -/
def inDram (v : Variant) (a : Nat) : Bool := decide (0x800000000 ≤ a) && decide (a < 0x800000000 + capGib v * 2 ^ 30)

/-- R415: the controller of a DRAM address. -/
def ddrOf (v : Variant) (a : Nat) : Nat := if v = .el9630 then 0 else (a / 128) % 2

/-- R415: the logical rank of a DRAM address. -/
def rankOf (v : Variant) (a : Nat) : Nat := if v = .el9610 then (a / 2 ^ 18) % 2 else 0

/-- R414: active ranks of each controller. -/
def activeRanks (v : Variant) : Nat := if v = .el9610 then 2 else 1

/-- R415: fabric address of unit `m` of a logical rank of a controller. -/
def unitAddr (v : Variant) (c rank m : Nat) : Nat :=
  let low := m / 2 % 1024 * 256 + c * 128 + m % 2 * 64
  0x800000000 + (if v = .el9610 then m / 2048 * 2 ^ 19 + rank * 2 ^ 18 + low
    else if v = .el9620 then m / 2048 * 2 ^ 18 + low else m * 64)

/-- Controller `c` beside its registers. -/
def State.ddrSt (s : State) (c : Nat) : DdrSt := Tab.get (fun _ => DdrSt.reset) s.ddr c

/-- Replace it. -/
def State.setDdr (s : State) (c : Nat) (x : DdrSt) : State := { s with ddr := Tab.put (fun _ => DdrSt.reset) s.ddr c x }

/-- DDR_STATUS.STATE. -/
def ddrState (s : State) (c : Nat) : Nat := s.fget (Reg.DDR_STATUS c) 31 29

/-- Ports are served in READY, MIGRATING and DEGRADED (R432). -/
def ddrServed (s : State) (c : Nat) : Bool := decide (2 ≤ ddrState s c)

/-- R427: DDR_UE, at most once for each block, and DDR_ERR_LAST. -/
def ddrError (a kind : Nat) (s : State) : State :=
  let c := ddrOf s.variant a
  let d := a - 0x800000000
  let s := (s.wr (Reg.DDR_ERR_LAST_LO c) (d % 2 ^ 32)).wr (Reg.DDR_ERR_LAST_HI c) (2 ^ 31 + kind * 2 ^ 29 + d / 2 ^ 32 % 8)
  if (s.ddrSt c).ueBlock then s else fire 0x34 c (s.setDdr c { s.ddrSt c with ueBlock := true })

/-- R436: the spare's delays return to those last applied to it (log entry 197). -/
def spareDelays (s : State) (c : Nat) : List (Nat × Nat) :=
  let x := s.ddrSt c
  x.spareSet.foldl (fun m p => Tab.put (fun _ => 0) m p.1 p.2) (x.trnUse.filter (fun p => getF p.1 21 20 != s.fget (Reg.DDR_STATUS c) 1 0))

/-- R435: the physical rank that a test runs on. -/
def testRank (s : State) (c : Nat) : Nat := s.fget (Reg.DDR_TEST_CTL c) 21 20

/-- R436: a test that runs on the spare is abandoned, and its result reads as failed. -/
def dropTest (c : Nat) (s : State) : State :=
  if (s.ddrSt c).testRunning && testRank s c == s.fget (Reg.DDR_STATUS c) 1 0 then
    let f := s.freeW
    let t := (f.2.bset (Reg.DDR_TEST_CTL c) 30 true).wr (Reg.DDR_TEST_RES c) (f.1.toNat ||| 1)
    t.setDdr c { t.ddrSt c with testRunning := false }
  else s

/-- R436: logical rank `r` is retired: migration starts, or no spare exists. -/
def retireRank (c r : Nat) (s : State) : State :=
  let a := Reg.DDR_STATUS c
  if s.bget a 28 && ddrState s c ≠ 3 && ddrState s c ≠ 0 then
    let s := dropTest c (((s.fset a 31 29 3).bset a 28 false).wr (Reg.DDR_MIG_PTR c) 0)
    fire 0x37 c (s.setDdr c { s.ddrSt c with migRank := some r, migAt := s.sched.up, oldWords := [], spareMem := [], trnUse := spareDelays s c })
  else fire 0x38 c s

/-! Address mapping (R415). -/

/-- R415: where a DRAM address lies: subchannel, controller, logical rank, device bank group and bank, row, device column, byte. -/
structure DramLoc where
  sub : Nat
  ctl : Nat
  rank : Nat
  group : Nat
  bank : Nat
  row : Nat
  col : Nat
  byte : Nat
  deriving DecidableEq, Repr

/-- R415: the decoding of a DRAM address; the device bank group is g XOR row[1:0]. -/
def dramLoc (v : Variant) (a : Nat) : DramLoc :=
  let d := a - 0x800000000
  let lo := if v = .el9630 then 0 else 1
  let rk := if v = .el9610 then 1 else 0
  let row := d / 2 ^ (17 + lo + rk) % 65536
  { sub := d / 64 % 2, ctl := ddrOf v a, rank := rankOf v a, group := (d / 2 ^ (7 + lo) % 4) ^^^ (row % 4)
    bank := d / 2 ^ (15 + lo) % 4, row := row, col := 16 * (d / 2 ^ (9 + lo) % 64), byte := d % 64 }

/-- R415: the 64-byte unit of an address. -/
def unitOfAddr (a : Nat) : Nat := a / 64 * 64

/-- R422: the bank whose open row an address meets, as one number. -/
def DramLoc.rowKey (l : DramLoc) : Nat := ((l.rank * 2 + l.sub) * 4 + l.group) * 4 + l.bank

/-! ECC and poison (R424 to R427). -/

/-- R425: a corrected word is counted, and its unit is to be written back unless a write to it is queued; DDR_CE fires at most once
per second (R427). -/
def corrected (a : Nat) (s : State) : State :=
  let c := ddrOf s.variant a
  let s := s.count (Reg.DDR_CE_CNT c) 1
  let x := s.ddrSt c
  let u := unitOfAddr a
  let s := if x.wq.any (fun r => r.unit == u) || x.wb.contains u then s else s.setDdr c { x with wb := x.wb ++ [u] }
  match x.ceAt with
  | some t => if s.sched.up < t + 1000000000 then s else fire 0x35 c (s.setDdr c { s.ddrSt c with ceAt := some s.sched.up })
  | none => fire 0x35 c (s.setDdr c { s.ddrSt c with ceAt := some s.sched.up })

/-- R424, R427, R436: the device read of the word at an aligned address: clean, corrected, poisoned or uncorrectable, which retires
its rank. -/
def beat (a : Nat) (s : State) : (Word × Bool) × State :=
  let c := ddrOf s.variant a
  let v := s.mem.rdWord a
  if s.mem.bad.contains a then ((v, true), ddrError a 2 (s.count (Reg.DDR_POISON_CNT c) 1))
  else if (s.ddrSt c).ueWords.contains a then
    let s := ddrError a 1 (s.count (Reg.DDR_UE_CNT c) 1)
    ((v, true), retireRank c (rankOf s.variant a) s)
  else if (s.ddrSt c).ceWords.contains a then ((v, false), corrected a s)
  else ((v, false), s)

/-- The words of a unit read beat by beat, from word `k` on; `n` remain. -/
def beats (u : Nat) : Nat → Nat → State → List (Word × Bool) × State
  | 0, _, s => ([], s)
  | n + 1, k, s =>
    let r := beat (u + 4 * k) s
    let t := beats u n (k + 1) r.2
    (r.1 :: t.1, t.2)

/-- R424: a device error enters with the access that meets it: for each beat of the unit 0 no new error, 1 correctable, else
uncorrectable. -/
def meetSyn (u : Nat) (syn : List Nat) (s : State) : State :=
  let c := ddrOf s.variant u
  let x := s.ddrSt c
  let at' (p : Nat → Bool) : List Nat := ((List.range 16).filter (fun k => p (nth 0 syn k))).map (fun k => u + 4 * k)
  if syn.all (fun n => n == 0) then s
  else s.setDdr c { x with ceWords := (at' (fun n => n == 1)).foldl insNat x.ceWords
                           ueWords := (at' (fun n => decide (2 ≤ n))).foldl insNat x.ueWords }

/-- R424: a device error strikes a word that is not poisoned: correctable (1) or uncorrectable. -/
def strike (s : State) (e : Nat × Nat) : State :=
  let a := e.1 / 4 * 4
  let c := ddrOf s.variant a
  let x := s.ddrSt c
  if !inDram s.variant a || s.mem.bad.contains a || e.2 = 0 then s
  else if e.2 = 1 then s.setDdr c { x with ceWords := insNat x.ceWords a }
  else s.setDdr c { x with ueWords := insNat x.ueWords a }

/-- R426, R438: a word is written to the device, and to the spare of a migration; with or without poison, its check bits are right. -/
def writeBeat (a : Nat) (v : Word) (poison : Bool) (s : State) : State :=
  let c := ddrOf s.variant a
  let x := s.ddrSt c
  let s := if x.ceWords.contains a || x.ueWords.contains a || x.oldWords.any (fun w => w.1 == a) then
      s.setDdr c { x with ceWords := x.ceWords.filter (fun w => w != a), ueWords := x.ueWords.filter (fun w => w != a)
                          oldWords := Tab.del x.oldWords a }
    else s
  { s with mem := (s.mem.wrWord a v).setBad a poison }

/-! Ports and queues (R416 to R421). -/

/-- R416: a real-time port. -/
def rtPort (p : Nat) : Bool := decide (p < 3)

/-- Every byte of the unit is enabled. -/
def DramReq.whole (r : DramReq) : Bool := (List.range 16).all (fun k => (nth ⟨0, 0, false⟩ r.words k).be == 15)

/-- Word `k` of an entry. -/
def DramReq.word (r : DramReq) (k : Nat) : DramWord := nth ⟨0, 0, false⟩ r.words k

/-- R417: the queue of a request has room: eight write entries are kept for real-time ports. -/
def hasRoom (x : DdrSt) (wr : Bool) (port : Nat) : Bool :=
  if wr then decide (x.wq.length < (if rtPort port then 64 else 56)) else decide (x.rq.length < 64)

/-- R425: a write drops the write-back of its unit. -/
def DdrSt.dropWb (x : DdrSt) (u : Nat) : DdrSt := { x with wb := x.wb.filter (fun w => w != u) }

/-- Insert a request in order of arrival at the controller. -/
def bySeq (q : DramReq) : List DramReq → List DramReq
  | [] => [q]
  | r :: rs => if q.seq < r.seq then q :: r :: rs else r :: bySeq q rs

/-- R418, R425: a request enters its queue, in order of arrival; a write drops the write-back of its unit. -/
def DdrSt.push (x : DdrSt) (r : DramReq) : DdrSt :=
  if r.wr then { x.dropWb r.unit with wq := bySeq r x.wq } else { x with rq := bySeq r x.rq }

/-- R417: requests that wait at their ports enter while there is room, each port's in order. -/
def DdrSt.enter (x : DdrSt) : DdrSt :=
  x.wait.foldl (fun x r =>
    if !x.wait.any (fun q => q.port == r.port) && hasRoom x r.wr r.port then x.push r else { x with wait := x.wait ++ [r] })
    { x with wait := [] }

/-- Requests that have not been served, waiting ones included. -/
def DdrSt.unserved (x : DdrSt) : List DramReq := x.rq ++ x.wq ++ x.wait

/-- R420: the backlog of a real-time port reaches PANIC_LVL, or its oldest request has waited PANIC_AGE. Every unit that has not
issued is backlog (DEDUCED, log entry 166). -/
def panicCond (s : State) (c p : Nat) : Bool :=
  let rs := (s.ddrSt c).unserved.filter (fun r => r.port == p)
  decide (s.fget (Reg.DDR_RT_CFG c p) 7 0 ≤ rs.length)
    || rs.any (fun r => decide (s.fget (Reg.DDR_RT_CFG c p) 31 16 ≤ s.sched.up - r.at'))

/-- R417, R419, R420: what follows whenever the queues have changed: waiting requests enter, a drain starts at HI_WM and ends at
LO_WM, and ports drop PANIC. -/
def ddrSettle (c : Nat) (s : State) : State :=
  let x := (s.ddrSt c).enter
  let n := x.wq.length
  let x := { x with drain := if s.fget (Reg.DDR_WQ c) 21 16 ≤ n then true else if n ≤ s.fget (Reg.DDR_WQ c) 5 0 then false else x.drain }
  let s := s.setDdr c x
  s.setDdr c { x with panic := x.panic.filter (fun p => panicCond s c p) }

/-- R418: the writes of a unit at the controller, queued or waiting, oldest first. -/
def DdrSt.writesOf (x : DdrSt) (u : Nat) : List DramReq :=
  (x.wait.filter (fun r => r.wr && r.unit == u)).foldl (fun l r => bySeq r l) (x.wq.filter (fun r => r.unit == u))

/-- R418: what the queued writes hold of word `k` of a unit: the enabled bytes, the newest data, poison. -/
def queued (x : DdrSt) (u k : Nat) : DramWord :=
  (x.wq.filter (fun r => r.unit == u)).foldl (fun o r =>
    let w := r.word k
    ⟨o.be ||| w.be, mergeBytes w.be o.val w.val, if w.be = 15 then w.poison else o.poison⟩) ⟨0, 0, false⟩

/-- R418: every byte that a read wants of a unit lies in queued writes. -/
def covered (x : DdrSt) (u : Nat) (want : Nat → BitVec 4) : Bool :=
  (List.range 16).all (fun k => (queued x u k).be &&& want k == want k)

/-! Issue (R418, R419, R422, R436). -/

/-- R422: a slot of the controller issues a unit: its row is open, a real-time burst goes on while requests of its buffer remain,
and the rank has had its slot (R429). -/
def useSlot (c : Nat) (r : DramReq) (s : State) : State :=
  let l := dramLoc s.variant r.unit
  let x := s.ddrSt c
  let bs := if rtPort r.port && !x.bursts.contains (r.port, r.buf) then x.bursts ++ [(r.port, r.buf)] else x.bursts
  s.setDdr c { x with slots := x.slots + 1
                      openRows := Tab.ins x.openRows l.rowKey l.row
                      bursts := bs.filter (fun b => x.unserved.any (fun q => q.port == b.1 && q.buf == b.2))
                      panicSlot := x.panicSlot.filter (fun k => k != l.rank) }

/-- R418, R426: one word of a write: with read, merge and write where `rmw`; a word of the unit that the read finds poisoned or
uncorrectable is written as poison unless the write covers its four bytes. -/
def issueWord (rmw : Bool) (r : DramReq) (s : State) (k : Nat) : State :=
  let a := r.unit + 4 * k
  let w := r.word k
  if rmw then
    let b := beat a s
    writeBeat a (mergeBytes w.be b.1.1 w.val) (w.poison || (w.be ≠ 15 && b.1.2)) b.2
  else writeBeat a w.val w.poison s

/-- R418: a write leaves its queue and issues; a partial byte mask makes it one indivisible read, merge and write. -/
def issueWrite (c : Nat) (r : DramReq) (s : State) : State :=
  let x := s.ddrSt c
  let s := s.setDdr c { x.dropWb r.unit with wq := x.wq.filter (fun q => q.seq != r.seq), wait := x.wait.filter (fun q => q.seq != r.seq) }
  let s := (List.range 16).foldl (issueWord (!r.whole) r) s
  let s := s.setDdr c ((s.ddrSt c).dropWb r.unit)
  ddrSettle c (useSlot c r s)

/-- R438, R439: a word below M is read from the failing rank again. -/
def oldWord (c : Nat) (s : State) (w : Nat × Word × Nat) : State :=
  let x := s.ddrSt c
  { s.setDdr c { x with ceWords := if w.2.2 = 1 then insNat x.ceWords w.1 else x.ceWords
                        ueWords := if w.2.2 = 2 then insNat x.ueWords w.1 else x.ueWords } with
    mem := (s.mem.wrWord w.1 w.2.1).setBad w.1 (w.2.2 == 3) }

/-- R439: a command error on the spare ends the migration; the failing rank stays in service with what it holds. -/
def spareError (c : Nat) (s : State) : State :=
  let s := (s.ddrSt c).oldWords.foldl (oldWord c) s
  fire 0x38 c ((s.fset (Reg.DDR_STATUS c) 31 29 4).setDdr c { s.ddrSt c with migRank := none, oldWords := [] })

/-- R415: the unit index of an address within its rank; `unitAddr` undone. -/
def unitIndex (v : Variant) (a : Nat) : Nat :=
  let d := a - 0x800000000
  if v = .el9630 then d / 64
  else (if v = .el9610 then d / 2 ^ 19 else d / 2 ^ 18) * 2048 + d / 256 % 1024 * 2 + d / 64 % 2

/-- R438: reads of the unit come from the spare: it lies below M of the rank that is moving. -/
def fromSpare (s : State) (c u : Nat) : Bool :=
  ddrState s c == 3 && (s.ddrSt c).migRank == some (rankOf s.variant u) && decide (unitIndex s.variant u < s.rd (Reg.DDR_MIG_PTR c))

/-- R438: the failing rank holds `w` in place of word `k` of a unit that is read from the spare. -/
def noteOld (c : Nat) (r : DramReq) (ws : List DramWord) (s : State) (k : Nat) : State :=
  let w := nth ⟨0, 0, false⟩ ws k
  let a := r.unit + 4 * k
  if w.be = 0 then s
  else s.setDdr c { s.ddrSt c with oldWords := Tab.ins (s.ddrSt c).oldWords a (mergeBytes w.be (s.mem.rdWord a) w.val, 0) }

/-- R427: DDR_ERR_LAST of a command error. -/
def noteCmdErr (a : Nat) (s : State) : State :=
  let c := ddrOf s.variant a
  let d := a - 0x800000000
  (s.wr (Reg.DDR_ERR_LAST_LO c) (d % 2 ^ 32)).wr (Reg.DDR_ERR_LAST_HI c) (2 ^ 31 + 3 * 2 ^ 29 + d / 2 ^ 32 % 8)

/-- The data of the enabled words replaced by free values. -/
def garble : List DramWord → State → List DramWord × State
  | [], s => ([], s)
  | w :: ws, s =>
    let f := if w.be = 0 then (w.val, s) else s.freeW
    let t := garble ws f.2
    ({ w with val := f.1 } :: t.1, t.2)

/-- R436, R438, R439: a write fails its write CRC `fails` times; the second failure is a command error, which retires the rank, or
ends a migration to the spare that it meets. What the failing rank then holds is free; a unit below M is read from the spare, which
has the write. -/
def issueWriteCrc (c : Nat) (r : DramReq) (fails : Nat) (onSpare : Bool) (s : State) : State :=
  if fails < 2 then issueWrite c r s
  else
    let s := noteCmdErr r.unit (s.count (Reg.DDR_CMD_ERR_CNT c) 1)
    if onSpare && ddrState s c == 3 then spareError c (issueWrite c r s)
    else
      let g := garble r.words s
      if fromSpare s c r.unit then retireRank c (rankOf s.variant r.unit) ((List.range 16).foldl (noteOld c r g.1) (issueWrite c r g.2))
      else retireRank c (rankOf s.variant r.unit) (issueWrite c { r with words := g.1 } g.2)

/-- R418: the writes of a unit issue, oldest first. -/
def flushUnit (c u : Nat) (s : State) : State := ((s.ddrSt c).writesOf u).foldl (fun s r => issueWrite c r s) s

/-- R418: a write issues after the older ones of its unit. -/
def issueInTurn (c : Nat) (r : DramReq) (s : State) : State :=
  (((s.ddrSt c).writesOf r.unit).filter (fun q => decide (q.seq ≤ r.seq))).foldl (fun s q => issueWrite c q s) s

/-- R417: the oldest writes issue until a write of the port has room. -/
def makeRoom (c port : Nat) : Nat → State → State
  | 0, s => s
  | n + 1, s =>
    if hasRoom (s.ddrSt c) true port then s
    else match (s.ddrSt c).wq with
      | [] => s
      | r :: _ => makeRoom c port n (issueInTurn c r s)

/-- The words of an entry with the bytes of one word laid over. -/
def layWord (ws : List DramWord) (k : Nat) (be : BitVec 4) (v : Word) (poison : Bool) : List DramWord :=
  let w := nth ⟨0, 0, false⟩ ws k
  upd ws k ⟨w.be ||| be, mergeBytes be w.val v, if be = 15 then poison else w.poison⟩

/-! Requests from outside, and the command slots (R416 to R422). -/

/-- R424, R427: a unit is delivered to its reader, with the poison marks; the first word wanted is the answer. A poisoned word gives
a Scribe core an access fault, and its destination is unchanged. -/
def deliver (r : DramReq) (ws : List (Word × Bool)) (s : State) : State :=
  let want := (List.range 16).filter (fun k => (r.word k).be ≠ 0)
  let bad := want.any (fun k => (nth (0, false) ws k).2)
  let s := { s with dramUnit := ws }
  if bad && r.port = 3 then s.accessFault
  else
    let s := { s with readEP := bad, readFault := false }
    match want with
    | k :: _ => { s with readData := (nth (0, false) ws k).1 }
    | [] => s

/-- The queued data of a unit. -/
def queuedUnit (x : DdrSt) (u : Nat) : List (Word × Bool) := (List.range 16).map (fun k => ((queued x u k).val, (queued x u k).poison))

/-- R415, R416, R418: a request arrives at its port of the controller that holds its unit: a read that the queued writes cover is
answered from them at once; beyond the usable size a read gives 0 and a write is ignored. -/
def arrive (s : State) (d : DramArr) : State :=
  let c := ddrOf s.variant d.a
  let u := unitOfAddr d.a
  let x := s.ddrSt c
  let ws : List DramWord := (List.range 16).map (fun k => let w := nth (0, 0) d.words k; ⟨w.1, w.2, false⟩)
  let r : DramReq := ⟨x.nextSeq, d.port, d.wr, u, ws, d.buf, s.sched.up, x.slots, false⟩
  if !inDram s.variant u then (if d.wr then s else deliver r (List.replicate 16 (0, false)) s)
  else if !d.wr && ddrServed s c && covered x u (fun k => (r.word k).be) then deliver r (queuedUnit x u) s
  else
    let x := if d.wr then x.dropWb u else x
    let s := s.setDdr c { x with wait := x.wait ++ [r], nextSeq := x.nextSeq + 1 }
    if ddrServed s c then ddrSettle c s else s

/-- R421: the urgency of a user request by its age. -/
def urgency (s : State) (c : Nat) (r : DramReq) : Nat :=
  let age := s.sched.up - r.at'
  let t := s.fget (Reg.DDR_UPORT_TGT0 c + 4 * (r.port - 3)) 15 0
  if t ≤ age then 2 else if t ≤ 2 * age then 1 else 0

/-- R422: the class of a request: 1 to 3, 5 for urgency 1 and 6 for urgency 0. -/
def classOf (s : State) (c : Nat) (r : DramReq) : Nat :=
  if rtPort r.port then (if (s.ddrSt c).panic.contains r.port then 1 else 3)
  else match urgency s c r with
    | 2 => 2
    | 1 => 5
    | _ => 6

/-- R418: the request must wait: for an older write to its unit, or, a read, for an older write that covers a byte of it; an older
write that still waits at its port counts (log entry 166). -/
def held' (x : DdrSt) (r : DramReq) : Bool :=
  (x.writesOf r.unit).any (fun w => decide (w.seq < r.seq)
    && (r.wr || (List.range 16).any (fun k => ((w.word k).be &&& (r.word k).be) != 0)))

/-- The requests of a queue that the device timing allows (`ready`) and R418 lets go; on a rank whose slot after a forced refresh
is a PANIC port's, only that port's if one is ready (R429). -/
def candidates (s : State) (c : Nat) (ready : List Nat) (q : List DramReq) : List DramReq :=
  let x := s.ddrSt c
  let go (r : DramReq) : Bool := ready.contains r.seq && !held' x r
  let rank (r : DramReq) : Nat := rankOf s.variant r.unit
  let barred (r : DramReq) : Bool :=
    classOf s c r ≠ 1 && x.panicSlot.contains (rank r)
      && (x.rq ++ x.wq).any (fun p => go p && rank p == rank r && classOf s c p == 1)
  q.filter (fun r => go r && !barred r)

/-- R422: `r` goes before `q` within one class: PANIC ports in their order, then the oldest. -/
def goesBefore (cls : Nat) (r q : DramReq) : Bool :=
  if cls = 1 && r.port ≠ q.port then decide (r.port < q.port) else decide (r.seq < q.seq)

/-- The first of a list in the order of one class. -/
def firstOf (cls : Nat) (rs : List DramReq) : Option DramReq :=
  rs.foldl (fun b r => match b with | none => some r | some q => if goesBefore cls r q then some r else b) none

/-- R422: the request hits an open row. -/
def rowHit (s : State) (c : Nat) (r : DramReq) : Bool :=
  let l := dramLoc s.variant r.unit
  Tab.find (s.ddrSt c).openRows l.rowKey == some l.row

/-- R422: the request that goes first: the highest class; within it a row hit before a request that needs an activate and is no
more than 32 slots older. -/
def bestOf (s : State) (c : Nat) (rs : List DramReq) : Option DramReq :=
  match (List.range 7).find? (fun k => rs.any (fun r => classOf s c r == k)) with
  | none => none
  | some k =>
    let same := rs.filter (fun r => classOf s c r == k)
    match firstOf k same, firstOf k (same.filter (rowHit s c)) with
    | some r, some h => if rowHit s c r || h.slot ≤ r.slot + 32 then some h else some r
    | b, _ => b

/-- R422, R437: the copy is behind its rate: it has moved fewer units than MIG_RATE for each µs since the migration began. -/
def copyBehind (s : State) (c : Nat) : Bool :=
  decide (s.rd (Reg.DDR_MIG_PTR c) * 1000 < s.fget (Reg.DDR_MIG_RATE c) 15 0 * (s.sched.up - (s.ddrSt c).migAt))

/-- R437: units of a rank. -/
def rankUnits : Nat := 134217728

/-- R422: the copy of class 4 wants the slot: a unit remains, and it is behind its rate. -/
def copyWants (s : State) (c : Nat) : Bool :=
  ddrState s c == 3 && (s.ddrSt c).migRank.isSome && decide (s.rd (Reg.DDR_MIG_PTR c) < rankUnits) && copyBehind s c

/-- R419, R422: the request that goes first in queue order: reads ahead of writes; in a drain writes first, but a PANIC read ahead of
the next write unless the queue is full. -/
def front (s : State) (c : Nat) (ready : List Nat) : Option DramReq :=
  let x := s.ddrSt c
  let rs := candidates s c ready x.rq
  let ws := candidates s c ready x.wq
  let pr := rs.filter (fun r => classOf s c r == 1)
  if x.drain && !ws.isEmpty then
    if x.wq.length < 64 && !pr.isEmpty then bestOf s c pr else bestOf s c ws
  else if rs.isEmpty then bestOf s c ws
  else bestOf s c rs

/-- R422, R433: the request that the command slot issues; a user request below urgency 2 leaves the slot to a copy that is behind. -/
def choose (s : State) (c : Nat) (ready : List Nat) : Option DramReq :=
  if !ddrServed s c || ddrPaused s c then none
  else (front s c ready).filter (fun r => decide (classOf s c r ≤ 3) || !copyWants s c)

/-- R422: a request that outranks the copy of R437 (`limit` 3 while it is behind its rate, else 6), the scrubber and the write-back
is ready. -/
def outranked (s : State) (c : Nat) (ready : List Nat) (limit : Nat) : Bool :=
  (candidates s c ready ((s.ddrSt c).rq ++ (s.ddrSt c).wq)).any (fun r => decide (classOf s c r ≤ limit))

/-- R424: a read issues: every beat of its unit is read, and the unit is delivered. -/
def issueRead (c : Nat) (r : DramReq) (syn : List Nat) (s : State) : State :=
  let x := s.ddrSt c
  let s := meetSyn r.unit syn (s.setDdr c { x with rq := x.rq.filter (fun q => q.seq != r.seq) })
  let b := beats r.unit 16 0 s
  deliver r b.1 (ddrSettle c (useSlot c r b.2))

/-! Accesses of the module's own units. A unit's command stands for the whole of its transfer, so its reads are served and its
writes accepted within it: a read enters its port and is answered from the queued writes that cover it, or goes to the device when
its class and its age put it first, after the writes that it meets in part; a write enters the queue, the oldest writes issuing
while it is full (log entry 166). -/

/-- What a DRAM word read gives. -/
structure DramRes where
  val : Word
  poisoned : Bool
  served : Bool
  deriving DecidableEq, Repr

/-- R416, R419, R422: a read of one of the module's own units stands in the read queue until the slots have issued what goes before
it. Device timing allows every request meanwhile (log entry 166). -/
def awaitTurn (c : Nat) (r : DramReq) : Nat → State → State
  | 0, s => s
  | n + 1, s =>
    let x := s.ddrSt c
    match choose (s.setDdr c { x with rq := bySeq r x.rq }) c (r.seq :: (x.rq ++ x.wq).map (fun q => q.seq)) with
    | none => s
    | some q =>
      if q.seq = r.seq then s
      else if q.wr then awaitTurn c r n (issueWrite c q s)
      else
        let t := issueRead c q [] s
        awaitTurn c r n { t with dramOut := t.dramOut ++ [(q.port, t.dramUnit)] }

/-- R416, R418, R422, R424, R427: a word read by a unit of the module through a port. -/
def dramRead (port a : Nat) (s : State) : DramRes × State :=
  if !inDram s.variant a then (⟨0, false, true⟩, s)
  else
    let c := ddrOf s.variant a
    let u := unitOfAddr a
    let w := a / 4 * 4
    let k := w % 64 / 4
    if !ddrServed s c then (⟨0, false, false⟩, s)
    else
      let o := queued (s.ddrSt c) u k
      if o.be = 15 then
        (⟨o.val, o.poison, true⟩, if o.poison then ddrError w 2 (s.count (Reg.DDR_POISON_CNT c) 1) else s)
      else
        let x := s.ddrSt c
        let req : DramReq := ⟨x.nextSeq, port, false, u, layWord (List.replicate 16 ⟨0, 0, false⟩) k 15 0 false, 0, s.sched.up, x.slots, false⟩
        let s := awaitTurn c req 128 (s.setDdr c { x with nextSeq := x.nextSeq + 1 })
        let r := beat w (useSlot c req (if (queued (s.ddrSt c) u k).be = 0 then s else flushUnit c u s))
        (⟨r.1.1, r.1.2, true⟩, r.2)

/-- R417: a write of a port joins the newest entry if that is its own and of the same unit, and else enters the queue. -/
def enqueueWord (port buf a : Nat) (be : BitVec 4) (v : Word) (poison : Bool) (s : State) : State :=
  let c := ddrOf s.variant a
  let u := unitOfAddr a
  let k := a % 64 / 4
  let x := s.ddrSt c
  match x.wq.getLast? with
  | some r =>
    if r.unit == u && r.port == port && r.buf == buf then
      s.setDdr c { x with wq := x.wq.dropLast ++ [{ r with words := layWord r.words k be v poison }] }
    else fresh c u k s
  | none => fresh c u k s
where
  fresh (c u k : Nat) (s : State) : State :=
    let s := makeRoom c port 64 s
    let x := (s.ddrSt c).dropWb u
    let ws := layWord (List.replicate 16 ⟨0, 0, false⟩) k be v poison
    ddrSettle c (s.setDdr c { x.push ⟨x.nextSeq, port, true, u, ws, buf, s.sched.up, x.slots, false⟩ with nextSeq := x.nextSeq + 1 })

/-- R415, R426: a whole-word write by a port, with or without poison. -/
def dramStore (port buf a : Nat) (v : Word) (poison : Bool) (s : State) : State :=
  if inDram s.variant a && ddrServed s (ddrOf s.variant a) then enqueueWord port buf (a / 4 * 4) 15 v poison s else s

/-- R418: a write of the bytes that `be` enables. -/
def dramBytes (port a : Nat) (be : BitVec 4) (v : Word) (s : State) : State :=
  if inDram s.variant a && ddrServed s (ddrOf s.variant a) then enqueueWord port 0 (a / 4 * 4) be v false s else s

/-- DRAM_READ: device errors strike, requests arrive, and the slot issues a read if that is what goes first. -/
def readSlot (c : Nat) (arr : List DramArr) (ready syn : List Nat) (hits : List (Nat × Nat)) (s : State) : State :=
  let s := arr.foldl arrive (hits.foldl strike { s with dramOut := [] })
  match choose s c ready with
  | some r => if r.wr then s else issueRead c r syn s
  | none => s

/-- DRAM_WRITE: requests arrive, and the slot issues a queued write if that is what goes first; `syn` are the device errors that the
read of a merge meets. -/
def writeSlot (c : Nat) (arr : List DramArr) (ready syn : List Nat) (fails : Nat) (onSpare : Bool) (s : State) : State :=
  let s := arr.foldl arrive { s with dramOut := [] }
  match choose s c ready with
  | some r => if r.wr then issueWriteCrc c r fails onSpare (if r.whole then s else meetSyn r.unit syn s) else s
  | none => s

end Sys2Proof.Machine
end

