-- ==== Sys2Proof/Machine/Dram.lean ====
section
/-! DEFINITION. The DRAM subsystem's commands (R424 to R441): write-backs, refresh, temperature, training, retirement, migration,
scrubbing and tests. -/

namespace Sys2Proof.Machine

/-- R425: the oldest corrected unit is written back, at the lowest priority, or dropped if a write to it is queued; the contents held here are already the corrected
ones, and the device's are now. -/
def writeBack (c : Nat) (ready : List Nat) (s : State) : State :=
  let x := s.ddrSt c
  match x.wb with
  | [] => s
  | u :: us =>
    if x.wq.any (fun r => r.unit == u) then s.setDdr c { x with wb := us }
    else if ddrServed s c && !ddrPaused s c && !outranked s c ready 6 then
      s.setDdr c { x with wb := us, ceWords := x.ceWords.filter (fun w => unitOfAddr w != u) }
    else s

/-- R428: the owed count: OWED of a logical rank, and that of the spare rank, which stands at 2. -/
def owed (s : State) (c r : Nat) : Nat :=
  if r = 0 then s.fget (Reg.DDR_REF c) 27 24 else if r = 1 then s.fget (Reg.DDR_REF c) 31 28 else (s.ddrSt c).spareOwed

/-- Set an owed count. -/
def setOwed (c r n : Nat) (s : State) : State :=
  if r = 0 then s.fset (Reg.DDR_REF c) 27 24 n else if r = 1 then s.fset (Reg.DDR_REF c) 31 28 n
  else s.setDdr c { s.ddrSt c with spareOwed := n }

/-- R428: the ranks that are refreshed: the active ones, and the spare until it has taken an active rank's place. -/
def refRanks (s : State) (c : Nat) : List Nat :=
  List.range (activeRanks s.variant) ++ (if s.bget (Reg.DDR_STATUS c) 28 || (s.ddrSt c).migRank.isSome then [2] else [])

/-- R428, R431: tREFI: 3.9 µs, or 1.95 µs while HOT. -/
def refInterval (s : State) (c : Nat) : Nat := if s.bget (Reg.DDR_STATUS c) 27 then 1950 else 3900

/-- R428: the tREFI ticks that are due and have not been counted; the first comes at once. -/
def ticksDue (s : State) (c : Nat) : Nat :=
  match (s.ddrSt c).refAt with
  | some t => (s.sched.up - t) / refInterval s c
  | none => 1

/-- R428: the time of the latest tick due. -/
def lastTick (s : State) (c : Nat) : Nat :=
  match (s.ddrSt c).refAt with
  | some t => t + ticksDue s c * refInterval s c
  | none => s.sched.up

/-- R428: the ticks due are counted for every rank. -/
def countTicks (c : Nat) (s : State) : State :=
  (refRanks s c).foldl (fun t r => setOwed c r (Nat.min 15 (owed t c r + ticksDue s c)) t)
    (s.setDdr c { s.ddrSt c with refAt := some (lastTick s c) })

/-- R428, R431: tREFI is over: 3.9 µs after the last tick, 1.95 µs while HOT. -/
def refDue (s : State) (c : Nat) : Bool := ticksDue s c != 0

/-- R428: a tREFI tick, with those before it that are due. -/
def refreshTick (c : Nat) (s : State) : State :=
  if present s.variant (Reg.DDR_CTL c) && refDue s c then countTicks c s else s

/-- R428, R431: a refresh of the rank is forced: above LIMIT, and after a rise to HOT. -/
def refForced (s : State) (c r : Nat) : Bool :=
  (s.ddrSt c).forcing.contains r || decide (s.fget (Reg.DDR_REF c) 2 0 < owed s c r)

/-- R429: a real-time burst is in progress on the rank: requests of its buffer remain there. -/
def burstOn (s : State) (c r : Nat) : Bool :=
  let x := s.ddrSt c
  x.bursts.any (fun b => x.unserved.any (fun q => q.port == b.1 && q.buf == b.2 && rankOf s.variant q.unit == r))

/-- R428, R429: the refresh may issue: an opportunistic one when the rank has no ready request and no real-time burst in progress;
a forced one whatever waits, but not before the PANIC slot that follows the last forced one. -/
def refMay (s : State) (c r : Nat) (ready : List Nat) : Bool :=
  let x := s.ddrSt c
  let on := (candidates s c ready (x.rq ++ x.wq)).filter (fun q => rankOf s.variant q.unit == r)
  if refForced s c r then !(x.panicSlot.contains r && on.any (fun q => classOf s c q == 1)) else on.isEmpty && !burstOn s c r

/-- R428, R429, R431: a REFab issues to a rank that owes one; the rank's rows close. -/
def refab (c r : Nat) (ready : List Nat) (s : State) : State :=
  if present s.variant (Reg.DDR_CTL c) && (refRanks s c).contains r && decide (0 < owed s c r) && refMay s c r ready then
    let forced := refForced s c r
    let n := owed s c r - 1
    let s := setOwed c r n s
    let x := s.ddrSt c
    let s := s.setDdr c
      { x with forcing := if n = 0 then x.forcing.filter (fun q => q != r) else x.forcing
               openRows := x.openRows.filter (fun p => p.1 / 32 != r)
               panicSlot := if forced then insNat x.panicSlot r else x.panicSlot }
    if forced then s.count (Reg.DDR_REF_FORCED_CNT c) 1 else s
  else s

/-- R430, R488: the hottest reading that the ageing monitor holds for the packages of controller `c` (thermal sensors 16 to 19 for
DDR0, 20 to 23 for DDR1); `t` where it holds none yet (DEDUCED, log entry 173). -/
def packTemp (s : State) (c : Nat) (t : BitVec 16) : BitVec 16 :=
  (List.range 4).foldl (fun (a : Option (BitVec 16)) i => match Tab.find s.pwr.sens (128 + 16 + 4 * c + i), a with
    | some v, some m => some (if m.toInt < (v.setWidth 16).toInt then v.setWidth 16 else m)
    | some v, none => some (v.setWidth 16)
    | none, m => m) none |>.getD t

/-- R431: as HOT sets the interval halves from that moment: a tick that the half interval would have put earlier comes now. -/
def hotTicks (c : Nat) (s : State) : State :=
  s.setDdr c { s.ddrSt c with refAt := (s.ddrSt c).refAt.map (fun t => Nat.max t (s.sched.up - 1950)) }

/-- R430, R431: the controller reads the temperature of its packages. -/
def tempReading (c : Nat) (t' : BitVec 16) (s : State) : State :=
  if present s.variant (Reg.DDR_CTL c) then
    let a := Reg.DDR_STATUS c
    let t := packTemp s c t'
    let s := s.wr (Reg.DDR_TEMP c) t.toNat
    if 21760 < t.toInt && !s.bget a 27 then
      let s := hotTicks c (if refDue s c then countTicks c s else s)
      let s := (s.bset a 27 true).fset (Reg.DDR_REF c) 2 0 2
      fire 0x36 c (s.setDdr c { s.ddrSt c with forcing := (refRanks s c).filter (fun r => decide (0 < owed s c r)) })
    else if t.toInt < 21248 && s.bget a 27 then (s.bset a 27 false).fset (Reg.DDR_REF c) 2 0 4
    else s
  else s

/-- R420: PANIC_RISE: a real-time port whose backlog or oldest request has reached its limit raises PANIC, which counts. -/
def panicRise (c port : Nat) (s : State) : State :=
  if present s.variant (Reg.DDR_CTL c) && rtPort port && panicCond s c port && !(s.ddrSt c).panic.contains port then
    (s.setDdr c { s.ddrSt c with panic := insNat (s.ddrSt c).panic port }).count (Reg.DDR_PANIC_CNT c) 1
  else s

/-- A request with its urgency 2 counted, if it is the one numbered `n`. -/
def markHot (n : Nat) (r : DramReq) : DramReq := if r.seq = n then { r with hot := true } else r

/-- R421: USER_URGENCY_RISE: the oldest request of user port `port` that has reached urgency 2 and has not been counted counts. -/
def urgencyRise (c port : Nat) (s : State) : State :=
  let x := s.ddrSt c
  match x.unserved.find? (fun r => r.port == 3 + port && !r.hot && urgency s c r == 2) with
  | some r =>
    (s.setDdr c { x with rq := x.rq.map (markHot r.seq), wq := x.wq.map (markHot r.seq), wait := x.wait.map (markHot r.seq) }).count
      (Reg.DDR_URGENT_CNT c) 1
  | none => s

/-- R436: the delays of the spare in use. -/
def spareInUse (s : State) (c : Nat) : List (Nat × Nat) :=
  (s.ddrSt c).trnUse.filter (fun p => getF p.1 21 20 == s.fget (Reg.DDR_STATUS c) 1 0)

/-- R433, R436, R441: a write of DDR_CTL; an APPLY also settles the delays of the spare (log entry 197). -/
def ddrCtlWrite (c : Nat) (v : Word) (s : State) : State :=
  let a := Reg.DDR_CTL c
  if s.served a then
    let w := v.toNat
    let s := (s.bset a 31 (bitOf w 31)).bset a 16 (bitOf w 16)
    let s := if bitOf w 31 && ddrState s c == 1 then ddrSettle c (s.fset (Reg.DDR_STATUS c) 31 29 2) else s
    let s := if bitOf w 0 then s.setDdr c { s.ddrSt c with applyAt := some (s.bn + 1), spareSet := spareInUse s c } else s
    let r := getF w 2 1
    if (r == 1 || r == 2) && decide (r - 1 < activeRanks s.variant) then retireRank c (r - 1) s else s
  else s

/-- The physical rank of a delay key of DDR_TRN_IDX serves a logical rank. -/
def isActivePhys (s : State) (c p : Nat) : Bool :=
  s.fget (Reg.DDR_STATUS c) 3 2 == p || (decide (1 < activeRanks s.variant) && s.fget (Reg.DDR_STATUS c) 5 4 == p)

/-- R432, R433: a write of DDR_TRN_DATA: held for an active rank, in use at once otherwise. -/
def trnWrite (c : Nat) (v : Word) (s : State) : State :=
  let k := s.rd (Reg.DDR_TRN_IDX c)
  let x := s.ddrSt c
  let d := v.toNat % 1024
  if isActivePhys s c (getF k 21 20) then s.setDdr c { x with trnHeld := Tab.ins x.trnHeld k d }
  else s.setDdr c { x with trnUse := Tab.put (fun _ => 0) x.trnUse k d }

/-- R433, R441: DDR_STATUS as it reads: APPLY_BUSY is 1 during the pause. -/
def ddrStatusWord (c : Nat) (s : State) : Nat :=
  let w := s.rd (Reg.DDR_STATUS c)
  if bitOf w 26 && !ddrPaused s c then setF w 26 26 0 else w

/-- R432: a read of DDR_TRN_DATA gives the value in use. -/
def trnRead (c : Nat) (s : State) : Nat := Tab.get (fun _ => 0) (s.ddrSt c).trnUse (s.rd (Reg.DDR_TRN_IDX c))

/-- R433: in the guard slot of the interval after the write, the held delays load. -/
def applyPause (c : Nat) (s : State) : State :=
  let x := s.ddrSt c
  match x.applyAt with
  | some i =>
    if i ≤ s.bn then
      let s := s.reach (s.slot 394000 327000)
      let s := s.setDdr c { x with applyAt := none, trnHeld := []
                                   trnUse := x.trnHeld.foldl (fun m p => Tab.put (fun _ => 0) m p.1 p.2) x.trnUse }
      lowerAll 0x200 (s.bset (Reg.DDR_STATUS c) 26 true)
    else s
  | none => s

/-- R438: what the failing rank holds of a word besides its data. -/
def oldKind (s : State) (a : Nat) : Nat :=
  let x := s.ddrSt (ddrOf s.variant a)
  if s.mem.bad.contains a then 3 else if x.ueWords.contains a then 2 else if x.ceWords.contains a then 1 else 0

/-- R426, R437, R438: one word of the copy: read from the failing rank, and written to the spare, poison where it could not be read;
the failing rank keeps what it held. -/
def copyWord (u : Nat) (s : State) (k : Nat) : State :=
  let a := u + 4 * k
  let c := ddrOf s.variant a
  let b := beat a s
  let t := writeBeat a b.1.1 b.1.2 b.2
  if oldKind s a = 0 then t
  else t.setDdr c { t.ddrSt c with oldWords := Tab.ins (t.ddrSt c).oldWords a (s.mem.rdWord a, oldKind s a) }

/-- R422, R437, R439: the copy of unit M, in the place that its rate gives it among the ready requests; `bad` and `soft` are the words
that the failing rank reads uncorrectable and correctable for the first time. M moves on, unless the write to the spare ends in a
command error. -/
def migrationCopy (c : Nat) (bad ready soft : List Nat) (cmdErr : Bool) (s : State) : State :=
  match (s.ddrSt c).migRank with
  | some r =>
    let m := s.rd (Reg.DDR_MIG_PTR c)
    if ddrState s c = 3 && m < rankUnits && !ddrPaused s c && !outranked s c ready (if copyBehind s c then 3 else 6) then
      let u := unitAddr s.variant c r m
      let s := meetSyn u ((List.range 16).map (fun k => if bad.contains k then 2 else if soft.contains k then 1 else 0)) s
      if cmdErr then spareError c (noteCmdErr u ((beats u 16 0 s).2.count (Reg.DDR_CMD_ERR_CNT c) 1))
      else
      let s := (List.range 16).foldl (copyWord u) s
      (s.setDdr c ((s.ddrSt c).dropWb u)).wr (Reg.DDR_MIG_PTR c) (m + 1)
    else s
  | none => s

/-- R439: the last unit is copied. -/
def migrationDone (c : Nat) (s : State) : State :=
  match (s.ddrSt c).migRank with
  | some r =>
    if ddrState s c = 3 && s.rd (Reg.DDR_MIG_PTR c) = rankUnits then
      let a := Reg.DDR_STATUS c
      let spare := s.fget a 1 0
      let s := if r = 0 then s.fset a 3 2 spare else s.fset a 5 4 spare
      let s := setOwed c r (owed s c 2) s
      fire 0x37 c ((s.fset a 31 29 2).setDdr c { s.ddrSt c with migRank := none, oldWords := [], spareOwed := 0 })
    else s
  | none => s

/-- R440: a scrub read of the unit at `a`, at the lowest priority. -/
def scrubRead (a : Nat) (syn ready : List Nat) (s : State) : State :=
  let c := ddrOf s.variant a
  let u := unitOfAddr a
  if s.bget (Reg.DDR_CTL c) 16 && inDram s.variant u && ddrServed s c && !ddrPaused s c && !outranked s c ready 6 then
    (beats u 16 0 (meetSyn u syn s)).2
  else s

/-- R414, R439: the physical rank is active or the spare; every other one is in self-refresh and never accessed. -/
def rankInUse (s : State) (c p : Nat) : Bool :=
  isActivePhys s c p || (s.bget (Reg.DDR_STATUS c) 28 && s.fget (Reg.DDR_STATUS c) 1 0 == p)

/-- R435: a write of DDR_TEST_CTL. A test of a rank that is in self-refresh (R414) does not start, and sets nothing (DESIGN CHOICE,
log entry 168). -/
def testStart (c : Nat) (v : Word) (s : State) : State :=
  let a := Reg.DDR_TEST_CTL c
  if s.served a then
    let w := v.toNat
    let s := ((((s.fset a 26 24 (getF w 26 24)).fset a 21 20 (getF w 21 20)).fset a 16 16 (getF w 16 16)).fset a 15 0 (getF w 15 0))
    if !bitOf w 31 then s
    else if isActivePhys s c (getF w 21 20) && (ddrState s c == 2 || ddrState s c == 3) then s.bset (Reg.DDR_STATUS c) 25 true
    else if !rankInUse s c (getF w 21 20) then s
    else (s.bset a 30 false).setDdr c { s.ddrSt c with testRunning := true }
  else s

/-- R435, R441: PRBS-23, x²³ + x¹⁸ + 1, one step: the new bit enters at bit 0 (log entry 198). -/
def prbsStep (r : Nat) : Nat := (r * 2 + (r / 2 ^ 22 + r / 2 ^ 17) % 2) % 2 ^ 23

/-- R435: `n` bits of the pattern, the first at bit 0, and the generator's state after them. -/
def prbsBits : Nat → Nat → Nat × Nat
  | 0, r => (0, r)
  | n + 1, r =>
    let t := prbsBits n (prbsStep r)
    (prbsStep r % 2 + 2 * t.1, t.2)

/-- R441: the seed; 0 is taken as 1. -/
def testSeed (s : State) (c : Nat) : Nat := if s.rd (Reg.DDR_TEST_SEED c) % 2 ^ 23 = 0 then 1 else s.rd (Reg.DDR_TEST_SEED c) % 2 ^ 23

/-- R435: unit and beat of beat `j` of the range of a test, as its index within the rank; the range wraps at the end of the
subchannel (log entry 198). -/
def testUnit (s : State) (c j : Nat) : Nat :=
  2 * ((s.rd (Reg.DDR_TEST_ADDR c) + j / 16) % 2 ^ 26) + s.fget (Reg.DDR_TEST_CTL c) 16 16

/-- R435: the fabric address of that beat on an active rank. -/
def testAddr (s : State) (c j : Nat) : Nat :=
  unitAddr s.variant c (if s.fget (Reg.DDR_STATUS c) 3 2 = testRank s c then 0 else 1) (testUnit s c j) + 4 * (j % 16)

/-- R435: a beat of the pattern is written. -/
def testPut (c j : Nat) (w : Word) (s : State) : State :=
  if isActivePhys s c (testRank s c) then writeBeat (testAddr s c j) w false s
  else s.setDdr c { s.ddrSt c with spareMem := Tab.ins (s.ddrSt c).spareMem (testUnit s c j * 16 + j % 16) w }

/-- R435: a beat that the rank holds; one of the spare that no test has written is free. -/
def testGet (c j : Nat) (s : State) : Word × State :=
  if isActivePhys s c (testRank s c) then (s.mem.rdWord (testAddr s c j), s)
  else match Tab.find (s.ddrSt c).spareMem (testUnit s c j * 16 + j % 16) with
    | some w => (w, s)
    | none =>
      let f := s.freeW
      (f.1, testPut c j f.1 f.2)

/-- R435: write `n` beats from beat `j` on, the generator standing at `r`. -/
def testWrite (c : Nat) : Nat → Nat → Nat → State → State
  | 0, _, _, s => s
  | n + 1, j, r, s =>
    let p := prbsBits 32 r
    testWrite c n (j + 1) p.2 (testPut c j (toW p.1) s)

/-- R435: read and compare: the OR of the 40 failing positions, check byte above data, and the beats that fail. `err` gives the bits
that the device flips in a beat; the check bits of a word that is not the pattern's differ freely. -/
def testCompare (c : Nat) (err : Nat → Nat) : Nat → Nat → Nat → State → (Nat × Nat) × State
  | 0, _, _, s => ((0, 0), s)
  | n + 1, j, r, s =>
    let p := prbsBits 32 r
    let g := testGet c j s
    let diff := g.1.toNat ^^^ p.1
    let f := if diff = 0 then ((0 : Word), g.2) else g.2.freeW
    let bits := (f.1.toNat % 256 * 2 ^ 32 + diff) ^^^ (err j % 2 ^ 40)
    let t := testCompare c err n (j + 1) p.2 f.2
    ((bits ||| t.1.1, b2n (bits != 0) + t.1.2), t.2)

/-- R435: the bits flipped in beat `j`: those of `bits` and `ecc` in the first `beats`, and what `more` lists. -/
def flips (bits : Word) (ecc : BitVec 8) (beats : Nat) (more : List (Nat × Nat)) (j : Nat) : Nat :=
  (if j < beats then ecc.toNat * 2 ^ 32 + bits.toNat else 0) ^^^ ((Tab.find more j).getD 0)

/-- R435: a test ends, at the lowest priority, with its results; `mrr` is what the device answers an MRR. -/
def testDone (c : Nat) (bits : Word) (ecc : BitVec 8) (mrr : BitVec 16) (beats : Nat) (more : List (Nat × Nat)) (ready : List Nat)
    (s : State) : State :=
  if (s.ddrSt c).testRunning && !outranked s c ready 6 then
    let op := s.fget (Reg.DDR_TEST_CTL c) 26 24
    let n := s.fget (Reg.DDR_TEST_CTL c) 15 0 * 16
    let r := if op = 0 then ((0, 0), testWrite c n 0 (testSeed s c) s)
      else if op = 1 then testCompare c (flips bits ecc beats more) n 0 (testSeed s c) s
      else ((0, 0), s)
    let s := (r.2.bset (Reg.DDR_TEST_CTL c) 30 true).wr (Reg.DDR_TEST_RES c) (r.1.1 % 2 ^ 32)
    let s := s.wr (Reg.DDR_TEST_RES_ECC c) ((if op = 2 then mrr.toNat else s.fget (Reg.DDR_TEST_RES_ECC c) 31 16) * 2 ^ 16 + r.1.1 / 2 ^ 32 % 256)
    (s.wr (Reg.DDR_TEST_CNT c) r.1.2).setDdr c { s.ddrSt c with testRunning := false }
  else s

/-- DRAM_READ (R416 to R424): device errors strike words, to be met by whatever reads them; requests arrive; the slot reads the unit
that goes first and delivers it. -/
def execDramRead (c : Nat) (arr : List DramArr) (s : State) (ready : List Nat := []) (syn : List Nat := []) (hits : List (Nat × Nat) := []) :
    Host.Outcome State Fault Refusal := .next (readSlot c arr ready syn hits s)

/-- DRAM_WRITE (R416 to R422, R436): requests arrive; the slot issues the queued write that goes first. -/
def execDramWrite (c : Nat) (arr : List DramArr) (ready syn : List Nat) (fails : Nat) (s : State) (onSpare : Bool := false) :
    Host.Outcome State Fault Refusal := .next (writeSlot c arr ready syn fails onSpare s)

/-- CORRECTED_WRITE_BACK (R425). -/
def execCorrectedWriteBack (c : Nat) (s : State) (ready : List Nat := []) : Host.Outcome State Fault Refusal := .next (writeBack c ready s)

/-- PANIC_RISE (R420). -/
def execPanicRise (c port : Nat) (s : State) : Host.Outcome State Fault Refusal := .next (panicRise c port s)

/-- USER_URGENCY_RISE (R421). -/
def execUserUrgencyRise (c port : Nat) (s : State) : Host.Outcome State Fault Refusal := .next (urgencyRise c port s)

/-- REFRESH_TICK (R428). -/
def execRefreshTick (c : Nat) (s : State) : Host.Outcome State Fault Refusal := .next (refreshTick c s)

/-- REFAB (R428 to R431). -/
def execRefab (c rank : Nat) (s : State) (ready : List Nat := []) : Host.Outcome State Fault Refusal := .next (refab c rank ready s)

/-- DDR_TEMP_READING (R430). -/
def execDdrTempReading (c : Nat) (t : BitVec 16) (s : State) : Host.Outcome State Fault Refusal := .next (tempReading c t s)

/-- DDR_ENABLE_WRITE (R441). -/
def execDdrEnableWrite (_m : Master) (c : Nat) (v : Word) (s : State) : Host.Outcome State Fault Refusal := .next (ddrCtlWrite c v s)

/-- APPLY (R433): a write of DDR_CTL with its APPLY bit. -/
def execApply (_m : Master) (c : Nat) (v : Word) (s : State) : Host.Outcome State Fault Refusal := .next (ddrCtlWrite c v s)

/-- APPLY_PAUSE (R433). -/
def execApplyPause (c : Nat) (s : State) : Host.Outcome State Fault Refusal := .next (applyPause c s)

/-- RETIRE (R436): a write of DDR_CTL with its RETIRE field. -/
def execRetire (_m : Master) (c : Nat) (v : Word) (s : State) : Host.Outcome State Fault Refusal := .next (ddrCtlWrite c v s)

/-- MIGRATION_COPY (R437, R439): `bad` and `soft` are the words of the unit that the failing rank reads uncorrectable and correctable;
`cmdErr`: the write to the spare fails its write CRC twice. -/
def execMigrationCopy (c : Nat) (bad : List Nat) (s : State) (ready : List Nat := []) (soft : List Nat := []) (cmdErr : Bool := false) :
    Host.Outcome State Fault Refusal := .next (migrationCopy c bad ready soft cmdErr s)

/-- MIGRATION_COMPLETE (R439). -/
def execMigrationComplete (c : Nat) (s : State) : Host.Outcome State Fault Refusal := .next (migrationDone c s)

/-- PATROL_SCRUB_READ (R440). -/
def execPatrolScrubRead (a : Nat) (syn : List Nat) (s : State) (ready : List Nat := []) : Host.Outcome State Fault Refusal :=
  .next (scrubRead a syn ready s)

/-- DDR_TEST_START (R435). -/
def execDdrTestStart (_m : Master) (c : Nat) (v : Word) (s : State) : Host.Outcome State Fault Refusal := .next (testStart c v s)

/-- DDR_TEST_DONE (R435). -/
def execDdrTestDone (c : Nat) (bits : Word) (ecc : BitVec 8) (mrr : BitVec 16) (beats : Nat) (s : State) (more : List (Nat × Nat) := [])
    (ready : List Nat := []) : Host.Outcome State Fault Refusal := .next (testDone c bits ecc mrr beats more ready s)

end Sys2Proof.Machine
end

