-- ==== Sys2Proof/Machine/Fabric.lean ====
section
/-! DEFINITION. Fabric addresses (R568, R569, R257, R415): words and bytes as a unit that is a visitor reads and writes them. -/

namespace Sys2Proof.Machine

/-- R534: bit 63 marks a host PCIe address. -/
def hostBit : Nat := 2 ^ 63

/-- R568: the address lies in an on-die bank row. -/
def inBanks (a : Nat) : Bool := (bankOf a).isSome

/-- R568: MRAM. -/
def inMram (a : Nat) : Bool := decide (0x400000000 ≤ a) && decide (a < 0x404000000)

/-- R270, R273: a bank word as a visitor receives it. -/
def visitorVal (a : Nat) (r : RdRes) : Word :=
  match bankOf a with
  | some (i, _) => seenWord i r
  | none => r.val

/-- A word at an aligned fabric or host address, and whether it arrives poisoned; DRAM is read through a port (R416). An on-die bank
that is not ON gives 0; a DRAM controller that serves no port gives 0. -/
def fabReadBy (port a : Nat) (s : State) : (Word × Bool) × State :=
  let w := a / 4 * 4
  if hostBit ≤ a || inMram a then ((s.mem.rdWord w, s.mem.bad.contains w), s)
  else if inBanks a then
    let r := readWord w s
    ((visitorVal w r.1, r.1.bad), r.2)
  else if 0x800000000 ≤ a then
    let r := dramRead port w s
    ((r.1.val, r.1.poisoned), r.2)
  else ((0, false), s)

/-- R416: a read of the Scribe complex, and of units that R416 gives no DRAM port: port U0 (DESIGN CHOICE, log entry 166). -/
def fabRead (a : Nat) (s : State) : (Word × Bool) × State := fabReadBy 3 a s

/-- A whole-word write at an aligned fabric or host address, with or without poison (R534); DRAM takes it at a port (R416). -/
def fabWriteBy (port a : Nat) (v : Word) (bad : Bool) (s : State) : State :=
  let w := a / 4 * 4
  if hostBit ≤ a then { s with mem := (s.mem.wrWord w v).setBad w bad }
  else if inMram a then s
  else if inBanks a then visitorWrite w v bad s
  else if 0x800000000 ≤ a then dramStore port 0 w v bad s
  else s

/-- R416: a write of the Scribe complex, and of units that R416 gives no DRAM port: port U0 (DESIGN CHOICE, log entry 166). -/
def fabWrite (a : Nat) (v : Word) (bad : Bool) (s : State) : State := fabWriteBy 3 a v bad s

/-- R519, R542: the fabric address of a BAR2 offset: the SRAM window, the DRAM window at HIF_DRAM_WIN, or none (reserved). -/
def bar2Addr (a : Nat) (s : State) : Option Nat :=
  if a < 0x8000000 then some (0x100000000 + a)
  else if a < 0x18000000 then some (s.fget Reg.HIF_DRAM_WIN 7 0 * 0x10000000 + (a - 0x8000000))
  else none

/-- R261, R519, R520: a host write at a BAR2 offset, with what the owner port of the bank does to the same word in the same cycle;
the reserved offsets and unmapped addresses ignore it. -/
def hostWrite (a : Nat) (v : Word) (own : PortOp) (s : State) : State :=
  match bar2Addr a s with
  | some fa => withOwner fa own (fabWriteBy 5 fa v false) s
  | none => s

/-- R519, R520, R569: a host read at a BAR2 offset: the completion carries EP for a word that fails its check or that the bank
refuses; the reserved offsets, unmapped addresses and the DRAM beyond the usable size read 0. -/
def hostRead (a : Nat) (s : State) : State :=
  match bar2Addr a s with
  | none => s.answer 0
  | some fa =>
    match bankOf fa with
    | some (i, _) =>
      let r := readWord fa s
      accessAnswer .host i r.1 r.2
    | none =>
      let r := fabReadBy 5 fa s
      { r.2.answer r.1.1 with readEP := r.1.2 }

/-- R270, R272, R427, R569: a Scribe core's plain load or instruction fetch of a fabric word. Registers have commands of their own,
and MRAM and the program load alias serve no load (DESIGN CHOICE, log entry 190). -/
def scribeLoad (core a : Nat) (s : State) : State :=
  match bankOf a with
  | some (i, _) =>
    let r := readWord a s
    accessAnswer (.scribe core) i r.1 r.2
  | none =>
    if 0x800000000 ≤ a then
      let r := dramRead 3 a s
      if r.1.poisoned then r.2.accessFault else r.2.answer r.1.val
    else if 0x10000000 ≤ a && a < 0x11000000 then s
    else s.accessFault

/-- R272, R569: a Scribe core's store of a whole word. -/
def scribeStore (a : Nat) (v : Word) (own : PortOp) (s : State) : State :=
  if (bankOf a).isSome then
    let t := withOwner a own (visitorWrite a v false) s
    if storeRefused a s then t.accessFault else t
  else if 0x800000000 ≤ a then dramStore 3 0 a v false s
  else if 0x10000000 ≤ a && a < 0x11000000 then s
  else s.accessFault

/-- R518, R521, R523: what a register of configuration space reads: the Device ID is the variant, the class an audio device. -/
def cfgWord (r : CfgReg) (s : State) : Word :=
  match r with
  | .id => toW (capCode s.variant * 2 ^ 16 + Config.vendorId.toNat)
  | .command => toW (b2n (s.bget Reg.HIF_STATUS 0) * 4)
  | .classCode => toW (0x040100 * 2 ^ 8 + Config.revisionId.toNat)
  | .power => if s.hif.d3 then 3 else 0
  | .msix => toW (b2n s.hif.msixEn * 2 ^ 31 + b2n s.hif.funcMask * 2 ^ 30 + 63 * 2 ^ 16)
  | .aerStatus => s.hif.aerStatus
  | .aerMask => s.hif.aerMask

/-- R518, R523: the host writes a register of configuration space: Bus Master Enable, the power state (D1 and D2 do not exist and
change nothing), MSI-X Enable and the function mask, AER's status (a 1 clears) and mask. -/
def cfgWrite (r : CfgReg) (v : Word) (s : State) : State :=
  let x := v.toNat
  match r with
  | .command => s.bset Reg.HIF_STATUS 0 (bitOf x 2)
  | .power => if x % 4 = 3 then { s with hif := { s.hif with d3 := true } }
              else if x % 4 = 0 then { s with hif := { s.hif with d3 := false } } else s
  | .msix => { s with hif := { s.hif with msixEn := bitOf x 31, funcMask := bitOf x 30 } }
  | .aerStatus => { s with hif := { s.hif with aerStatus := s.hif.aerStatus &&& ~~~v } }
  | .aerMask => { s with hif := { s.hif with aerMask := v } }
  | .id => s
  | .classCode => s

/-- R518, R521: a memory request of the host meets the function in D0; in D3hot it is an Unsupported Request, `f` if it is that. -/
def inD0 (f g : State → State) (s : State) : State := if s.hif.d3 then g s else f s

/-- R518, R522: a configuration request of the host is answered while the link is up. -/
def configured (f : State → State) (s : State) : State := if s.hif.linkUp then f s else s

/-- BAR2_WRITE (R261, R518 to R520, R569): a whole-word host write at an aligned BAR2 offset; by its last operand a host read there, a
Scribe core's plain load, fetch or store at a fabric address, or a configuration request. -/
def execBar2Write (a : Nat) (v : Word) (s : State) (own : PortOp := .idle) (acc : MemAcc := .write) : Host.Outcome State Fault Refusal :=
  .next (if a % 4 = 0 then
      match acc with
      | .write => inD0 (hostWrite a v own) State.unsupported s
      | .read => inD0 (hostRead a) State.noData s
      | .cfgRead r => configured (fun s => s.answer (cfgWord r s)) s
      | .cfgWrite r => configured (cfgWrite r v) s
      | .load c => scribeLoad c a s
      | .fetch c => scribeLoad c a s
      | .store _ => scribeStore a v own s
    else s)

/-- A byte write: a sub-word write of the word that holds it (R271, R418). -/
def fabByte (a : Nat) (b : Byte) (s : State) : State :=
  let be := BitVec.ofNat 4 (2 ^ (a % 4))
  let v := toW (b.toNat * 2 ^ (8 * (a % 4)))
  if hostBit ≤ a then { s with mem := s.mem.wrByte a b }
  else if inMram a then s
  else if inBanks a then doSubWord (a / 4 * 4) be v s
  else if 0x800000000 ≤ a then dramBytes 3 (a / 4 * 4) be v s
  else s

/-- Bytes written from an address on: whole words at once, single bytes at the edges; `n` bounds the writes. -/
def fabBytesN : Nat → Nat → List Byte → State → State
  | 0, _, _, s => s
  | _ + 1, _, [], s => s
  | n + 1, a, b :: bs, s =>
    match bs with
    | b1 :: b2 :: b3 :: rest =>
      if a % 4 = 0 then fabBytesN n (a + 4) rest (fabWrite a (b3 ++ b2 ++ b1 ++ b) false s)
      else fabBytesN n (a + 1) bs (fabByte a b s)
    | _ => fabBytesN n (a + 1) bs (fabByte a b s)

/-- Bytes written from an address on. -/
def fabBytes (a : Nat) (bs : List Byte) (s : State) : State := fabBytesN bs.length a bs s

/-- `n` words read from an address on; the Nat counts those that arrived poisoned. -/
def fabWords : Nat → Nat → State → (List Word × Nat) × State
  | 0, _, s => (([], 0), s)
  | n + 1, a, s =>
    let r := fabRead a s
    let rest := fabWords n (a + 4) r.2
    ((r.1.1 :: rest.1.1, b2n r.1.2 + rest.1.2), rest.2)

/-- The bytes of a list of words. -/
def wordBytes (ws : List Word) : List Byte := ws.flatMap (fun w => leBytes 4 w.toNat)

/-- `n` bytes read from a byte address on. -/
def fabGet (n a : Nat) (s : State) : List Byte × State :=
  let r := fabWords ((a % 4 + n + 3) / 4) (a / 4 * 4) s
  (((wordBytes r.1.1).drop (a % 4)).take n, r.2)

/-- One bit step of a reflected CRC. -/
def crcStep (poly c : Nat) : Nat := if c % 2 = 1 then c / 2 ^^^ poly else c / 2

/-- One byte of a reflected CRC. -/
def crcByte (poly c : Nat) (b : Byte) : Nat :=
  let f := crcStep poly
  f (f (f (f (f (f (f (f (c ^^^ b.toNat))))))))

/-- A reflected 32-bit CRC, initial value and final XOR all ones. -/
def crc32With (poly : Nat) (bs : List Byte) : Nat := bs.foldl (crcByte poly) 0xFFFFFFFF ^^^ 0xFFFFFFFF

/-- IEEE 802.3 CRC-32. -/
def crc32 (bs : List Byte) : Nat := crc32With 0xEDB88320 bs

/-- R448: CRC-32C (Castagnoli). -/
def crc32c (bs : List Byte) : Nat := crc32With 0x82F63B78 bs

end Sys2Proof.Machine
end

