-- ==== Sys2Proof/Machine/Net.lean ====
section
/-! DEFINITION. The network ports' transmit side, rings, PAUSE, link and MDIO (R325 to R345). Port 16 is the management port. -/

namespace Sys2Proof.Machine

/-- R344: a register of port `p` at an offset of its layout. -/
def netReg (p off : Nat) : Nat := if p = 16 then 0xC0000 + off else 0x80000 + p * 0x4000 + off

/-- The port is present. -/
def netPresent (s : State) (p : Nat) : Bool := p == 16 || decide (p < capMedia s.variant)

/-- A port beside its registers. -/
def State.netSt (s : State) (p : Nat) : NetSt := Tab.get (fun _ => NetSt.reset) s.net p

/-- Replace it. -/
def State.setNet (s : State) (p : Nat) (x : NetSt) : State := { s with net := Tab.put (fun _ => NetSt.reset) s.net p x }

/-- NET_CTL.ENABLE. -/
def netEnabled (s : State) (p : Nat) : Bool := s.bget (netReg p 0) 0

/-- NET_STATUS.LINK. -/
def netLinkUp (s : State) (p : Nat) : Bool := s.bget (netReg p 4) 31

/-- R325, R343: the port's rate in kb/s. -/
def netRate (s : State) (p : Nat) : Nat :=
  if p = 16 then (if s.fget (netReg p 0) 19 18 = 0 then 10000 else if s.fget (netReg p 0) 19 18 = 1 then 100000 else 1000000)
  else if s.fget (netReg p 0) 17 16 = 0 then 10000000 else if s.fget (netReg p 0) 17 16 = 1 then 2500000 else 1000000

/-- R328: MAX_LEN. -/
def netMaxLen (s : State) (p : Nat) : Nat := if s.bget (netReg p 0) 6 then s.rd (netReg p 8) else 1522

/-- R333: base register of ring `r`; transmit rings follow the receive rings. -/
def ringReg (p : Nat) (tx : Bool) (r off : Nat) : Nat := netReg p ((if tx then 0x200 else 0x100) + 0x40 * r + off)

/-- R333: SIZE. -/
def ringSize (s : State) (p : Nat) (tx : Bool) (r : Nat) : Nat := s.rd (ringReg p tx r 8)

/-- R333: address of descriptor `i`. -/
def descAddr (s : State) (p : Nat) (tx : Bool) (r i : Nat) : Nat := s.rd64 (ringReg p tx r 0) + 32 * i

/-- R333: the hardware owns a descriptor: HEAD has not reached TAIL. -/
def ringOwned (s : State) (p : Nat) (tx : Bool) (r : Nat) : Bool :=
  ringSize s p tx r ≠ 0 && s.rd (ringReg p tx r 0x10) ≠ s.rd (ringReg p tx r 0x14) % ringSize s p tx r

/-- R335: HEAD advances; the ring's event fires once for each block. -/
def advanceHead (p : Nat) (tx : Bool) (r : Nat) (s : State) : State :=
  let s := s.wr (ringReg p tx r 0x10) ((s.rd (ringReg p tx r 0x10) + 1) % ringSize s p tx r)
  let e := (if tx then 2 else 0) + r
  let x := s.netSt p
  if x.ringEv.contains e then s else fire (0x22 + e) p (s.setNet p { x with ringEv := insNat x.ringEv e })

/-- R333: a transmit descriptor is completed with a status. -/
def txComplete (p r status : Nat) (s : State) : State :=
  let a := descAddr s p true r (s.rd (ringReg p true r 0x10))
  advanceHead p true r (fabWrite (a + 16) (toW (2 ^ 31 + status)) false s)

/-- R332: the MAC's padding and FCS. -/
def wireFrame (bs : List Byte) : List Byte :=
  let padded := bs ++ List.replicate (60 - bs.length) 0
  padded ++ leBytes 4 (crc32 padded)

/-- The head descriptor of a transmit ring: LEN word, ID, buffer address. -/
def headDesc (s : State) (p r : Nat) : (Nat × Nat × Nat) × State :=
  let a := descAddr s p true r (s.rd (ringReg p true r 0x10))
  let r := fabWords 4 a s
  let w (i : Nat) : Nat := (nth 0 r.1.1 i).toNat
  ((w 2, w 3 % 2 ^ 16, w 0 + w 1 % 16 * 2 ^ 32), r.2)

/-- R327, R332: descriptors that cannot be sent are completed, until one that can stands at the head; its words are given. -/
def ringReady (p r : Nat) : Nat → State → Option (Nat × Nat × Nat) × State
  | 0, s => (none, s)
  | n + 1, s =>
    if !ringOwned s p true r then (none, s)
    else if !netLinkUp s p then ringReady p r n (txComplete p r 2 s)
    else
      let d := headDesc s p r
      let l := d.1.1 % 2 ^ 14
      if getF d.1.1 29 14 ≠ 0 || l = 0 || decide (netMaxLen d.2 p < l + 4) then
        ringReady p r n (txComplete p r 1 (d.2.count (netReg p 0x42C) 1))
      else (some d.1, d.2)

/-- R297, R298: what the counter has gained in the last `ns` nanoseconds before `up`, at the rate of each of its cycles: `freq` since
the latest change of TIME_FREQ, and before it the value that the change replaced. -/
def gainedSince : List (Nat × Int) → Nat → Nat → Int → Int
  | [], _, ns, freq => ((ns / 8 : Nat) : Int) * (8 * 2 ^ 32 + freq)
  | (at', old) :: rest, up, ns, freq =>
    if at' < up && up < at' + ns then
      (((up - at') / 8 : Nat) : Int) * (8 * 2 ^ 32 + freq) + gainedSince rest at' (ns - (up - at')) old
    else if at' = up then gainedSince rest up ns old
    else ((ns / 8 : Nat) : Int) * (8 * 2 ^ 32 + freq)

/-- R299, R302, R305: a capture `ago` PTP cycles back, placed `sub` sixteenths of a nanosecond after that cycle by the interpolator,
in sixteenths; one before a step carries the time before it (log entry 160). -/
def captured (ago sub : Nat) (s : State) : Int :=
  let t := s.time
  let moved := ((t.steps.filter (fun x => decide (s.sched.up < x.1 + 8 * ago))).map (fun x => x.2)).foldl (· + ·) 0
  fdiv ((t.ptp : Int) - gainedSince t.freqs s.sched.up (8 * ago) (sgn 32 (s.rd Reg.TIME_FREQ))) (2 ^ 28) - moved + (sub : Int)

/-- R297: a time in sixteenths within the counter's range. -/
def wrap16 (t : Int) : Nat := (t % (2 ^ 48 * 10 ^ 9 * 16)).toNat

/-- R302, R304: a transmit timestamp with its descriptor's ID. -/
def txStamp (p id sub : Nat) (s : State) : State :=
  let t := wrap16 (captured 0 sub s + (s.fget (Reg.TIME_LAT p (s.fget (netReg p 0) 17 16)) 15 0 : Nat))
  let q := Tab.get (fun _ => []) s.time.txts p
  if 8 ≤ q.length then s.count (Reg.TIME_TS_OVF_CNT p) 1
  else { s with time := { s.time with txts := Tab.put (fun _ => []) s.time.txts p (q ++ [(id, t)]) } }

/-- R337: put the rest of a frame on the wire. -/
def sendFrame (p : Nat) (f : TxFrame) (s : State) : State := s.setNet p { s.netSt p with wire := some f }

/-- R336: start the head frame of a ring. -/
def startRing (p r sub : Nat) (d : Nat × Nat × Nat) (s : State) : State :=
  let a := descAddr s p true r (s.rd (ringReg p true r 0x10))
  let g := fabGet (d.1 % 2 ^ 14) d.2.2 s
  let s := if bitOf d.1 31 && p ≠ 16 then txStamp p d.2.1 sub g.2 else g.2
  sendFrame p ⟨wireFrame g.1, r, r == 0 && bitOf d.1 30 && p != 16, a, 0⟩ s

/-- IDLE_SLOPE of a stream class. -/
def slopeOf (s : State) (p c : Nat) : Nat := if p = 16 then 0 else s.rd (Reg.NET_CBS_SLOPE p c)

/-- R338: hiCredit of class `c` in 10⁻⁶ bit: its slope over the interference of a frame of each higher class and of one other
frame, as IEEE 802.1Q derives it (log entry 159). -/
def hiCredit (s : State) (p c : Nat) : Int :=
  let rate := netRate s p
  let bits := 8 * netMaxLen s p * 1000000
  let above := (List.range c).map (slopeOf s p)
  let burst := above.foldl (fun a i => a + (rate - i) * bits / rate) bits
  ((slopeOf s p c * burst / (rate - above.foldl (· + ·) 0) : Nat) : Int)

/-- R338: credit of class `c` now: it rises while frames wait or it is below 0, falls while the class sends, and is bounded. -/
def creditNow (s : State) (p c : Nat) : Int :=
  let x := s.netSt p
  let old := nth 0 x.credit c
  let idle : Int := slopeOf s p c
  let rate : Int := netRate s p
  let dt : Int := ((s.sched.up - x.creditAt : Nat) : Int)
  let bits : Int := ((8 * netMaxLen s p * 1000000 : Nat) : Int)
  let sending := match x.wire with | some f => f.src == c + 2 | none => false
  if x.pauseQ ≠ 0 then old
  else if sending then Max.max (old + (idle - rate) * dt) ((idle - rate) * bits / rate)
  else if !(nth [] x.cls c).isEmpty then Min.min (old + idle * dt) (hiCredit s p c)
  else if old < 0 then Min.min (old + idle * dt) 0
  else 0

/-- R338: bring every class's credit up to now. -/
def settleCredit (p : Nat) (s : State) : State :=
  s.setNet p { s.netSt p with credit := (List.range 4).map (creditNow s p), creditAt := s.sched.up }

/-- R336: the highest stream class that may send. -/
def readyClass (s : State) (p : Nat) : Option Nat :=
  (List.range 4).find? (fun c => !(nth [] (s.netSt p).cls c).isEmpty && (slopeOf s p c == 0 || decide (0 ≤ nth 0 (s.netSt p).credit c)))

/-- R336: start the oldest frame of a stream class. -/
def startClass (p c : Nat) (s : State) : State :=
  let x := s.netSt p
  match nth [] x.cls c with
  | [] => s
  | f :: fs => sendFrame p ⟨wireFrame f.2, c + 2, true, f.1, 0⟩ (s.setNet p { x with cls := upd x.cls c fs })

/-- The frame on the wire ends: counted, and its descriptor completed. -/
def endFrame (p : Nat) (s : State) : State :=
  match (s.netSt p).wire with
  | none => s
  | some f =>
    let s := s.setNet p { s.netSt p with wire := none }
    let s := s.count (netReg p 0x428) 1
    let s := s.wr64 (netReg p 0x448) (s.rd64 (netReg p 0x448) + f.bytes.length)
    if f.src < 2 then txComplete p f.src 0 s else s

/-- R332, R337: the descriptor a ring would send next, those that cannot be sent completed; none while the head's frame is on the
wire or preempted, for it has been judged. -/
def nextDesc (p r : Nat) (s : State) : Option (Nat × Nat × Nat) × State :=
  let busy (f : Option TxFrame) : Bool := match f with | some f => f.src == r | none => false
  if busy (s.netSt p).wire || busy (s.netSt p).cut then (none, s) else ringReady p r 4096 s

/-- R336, R340: at a frame boundary the port ends the frame on its wire and starts the next of the highest ready class, whose capture lies `sub` sixteenths after the last counter cycle. -/
def txSelect (p sub : Nat) (s : State) : State :=
  if !(netPresent s p && netEnabled s p && !(s.netSt p).halted) then s
  else
    let s := endFrame p (settleCredit p s)
    let r0 := nextDesc p 0 s
    let r1 := nextDesc p 1 r0.2
    let s := r1.2
    if (s.netSt p).pauseQ ≠ 0 || !netLinkUp s p then s
    else match r0.1, readyClass s p, (s.netSt p).cut, r1.1 with
      | some d, c, cut, r =>
        if bitOf d.1 30 && p ≠ 16 then startRing p 0 sub d s
        else match c, cut, r with
          | some k, _, _ => startClass p k s
          | none, some f, _ => resume p f s
          | none, none, _ => startRing p 0 sub d s
      | none, some k, _, _ => startClass p k s
      | none, none, some f, _ => resume p f s
      | none, none, none, some d => startRing p 1 sub d s
      | none, none, none, none => s
where
  resume (p : Nat) (f : TxFrame) (s : State) : State :=
    (sendFrame p f (s.setNet p { s.netSt p with cut := none })).count (netReg p 0x430) 1

/-- R337: an express frame is ready: a stream class may send, or ring 0's head, judged by R332, is express. -/
def expressReady (p : Nat) (s : State) : Bool × State :=
  let d := nextDesc p 0 s
  ((readyClass s p).isSome || (match d.1 with | some d => bitOf d.1 30 | none => false), d.2)

/-- R337: an express frame interrupts the preemptable frame on the wire, of which `sent` bytes of the fragment have gone. -/
def doPreempt (p sent sub : Nat) (s : State) : State :=
  match (s.netSt p).wire with
  | some f =>
    let t := expressReady p (settleCredit p s)
    if p < capMedia s.variant && s.fget (netReg p 4) 29 28 == 2 && !f.express && decide (60 ≤ sent)
        && decide (f.sent + sent + 64 ≤ f.bytes.length) && (s.netSt p).pauseQ == 0 && t.1 then
      txSelect p sub (t.2.setNet p { t.2.netSt p with wire := none, cut := some { f with sent := f.sent + sent } })
    else s
  | none => s

/-- R337: PREEMPT while PREEMPT_EN = 1: verification is skipped, or begins. -/
def verifyStart (p : Nat) (s : State) : State := s.fset (netReg p 4) 29 28 (if s.bget (netReg p 0x24) 0 then 2 else 1)

/-- R337: the verification handshake with the partner ends. -/
def preemptVerify (p : Nat) (ok : Bool) (s : State) : State :=
  if p < capMedia s.variant && netLinkUp s p && s.fget (netReg p 4) 29 28 = 1 then s.fset (netReg p 4) 29 28 (if ok then 2 else 3) else s

/-- R337: a write of NET_PREEMPT; VERIFY_DIS = 1 skips a verification that has not succeeded. -/
def preemptWrite (p : Nat) (v : Word) (s : State) : State :=
  let x := v.toNat
  let s := s.bset (netReg p 0x24) 0 (bitOf x 0)
  let s := if 1 ≤ getF x 15 8 && getF x 15 8 ≤ 128 then s.fset (netReg p 0x24) 15 8 (getF x 15 8) else s
  if bitOf x 0 && s.bget (netReg p 0) 4 then verifyStart p s else s

/-- R327, R364: the frames of the stream classes, and one of them on the wire, are not sent: each counts as dropped for its
stream. -/
def dropStreams (p : Nat) (s : State) : State :=
  let s := settleCredit p s
  let x := s.netSt p
  let lost := (x.cls.flatMap (fun q => q.map (fun f => f.1))) ++ (match x.wire with | some f => if 2 ≤ f.src then [f.desc] else [] | none => [])
  let s := lost.foldl (fun s n => s.count (Reg.STRM_TX_DROP_CNT n) 1) s
  s.setNet p { x with wire := none, cut := none, cls := [[], [], [], []] }

/-- R326: LINK as the port's physical coding stands: lock, and any enabled auto-negotiation, which under SGMII gives 1,000 Mb/s full
duplex. -/
def linkOf (s : State) (p : Nat) : Bool :=
  let x := s.netSt p
  let form := s.fget (netReg p 0) 17 16
  x.lock && (p == 16 || form < 2 || !s.bget (netReg p 0) 5 || (x.anDone && (form == 2 || x.gigFull)))

/-- R326, R327, R337: LINK changes; with it down, frames on the wire are cut off, stream frames are discarded, and preemption is
verified anew (log entry 159). -/
def relink (p : Nat) (s : State) : State :=
  let up := linkOf s p
  if netPresent s p && netLinkUp s p != up then
    let s := ((s.bset (netReg p 4) 31 up).bset (netReg p 4) 30 true).count (netReg p 0x434) 1
    let s := if up then s else
      let s := dropStreams p s
      if s.bget (netReg p 0) 4 && p != 16 then verifyStart p s else s
    fire 0x20 p s
  else s

/-- R326: what the physical coding of a port reports (log entry 161). -/
def doNetLink (p : Nat) (lock an full : Bool) (s : State) : State :=
  if netPresent s p then relink p (s.setNet p { s.netSt p with lock := lock, anDone := an, gigFull := full }) else s

/-- R333: a write of a ring's TAIL. Ring 0's registers ignore the host. -/
def ringTailWrite (m : Master) (off : Nat) (v : Word) (s : State) : State :=
  match unitOf off with
  | some u =>
    let rel := if u = .mgmt then off - 0xC0000 else (off - 0x80000) % 0x4000
    let ring := rel == 0x114 || rel == 0x154 || rel == 0x214 || rel == 0x254
    if (u = .net || u = .mgmt) && ring && s.served off && !(m == .host && (rel == 0x114 || rel == 0x214)) then
      s.wr off (v.toNat % 4096)
    else s
  | none => s

/-- R340: the quanta of the pause in force have passed, at 512 bit times each. -/
def pauseOver (s : State) (p : Nat) : Bool :=
  let x := s.netSt p
  decide (x.pauseQ * 512 * 1000000 ≤ (s.sched.up - x.pauseAt) * netRate s p)

/-- R340: the pause ends. -/
def pauseClear (p : Nat) (s : State) : State :=
  let s := settleCredit p s
  (s.setNet p { s.netSt p with pauseQ := 0 }).bset (netReg p 4) 27 false

/-- R340: the pause timer reaches 0. -/
def pauseExpire (p : Nat) (s : State) : State :=
  if netPresent s p && (s.netSt p).pauseQ ≠ 0 && pauseOver s p then pauseClear p s else s

/-- R341: the port has been held by PAUSE for WD_MS without a break: the quanta in force had not run out before. -/
def heldLong (s : State) (p : Nat) : Bool :=
  let ms := s.fget (netReg p 0x20) 15 0
  let x := s.netSt p
  let due := x.heldFrom + ms * 1000000
  ms != 0 && decide (due ≤ s.sched.up) && decide ((due - x.pauseAt) * netRate s p ≤ x.pauseQ * 512 * 1000000)

/-- R341: the pause watchdog fires. -/
def pauseWd (p : Nat) (s : State) : State :=
  if netPresent s p && (s.netSt p).pauseQ ≠ 0 && heldLong s p then
    let s := pauseClear p s
    let s := s.setNet p { s.netSt p with holdEnd := s.sched.up + s.fget (netReg p 0x20) 31 16 * 1000000 }
    fire 0x21 p (((s.bset (netReg p 4) 25 true).bset (netReg p 4) 26 true).count (netReg p 0x424) 1)
  else s

/-- R341: the holdoff ends once HOLDOFF_MS have passed. -/
def holdoffEnd (p : Nat) (s : State) : State :=
  if netPresent s p && decide ((s.netSt p).holdEnd ≤ s.sched.up) then s.bset (netReg p 4) 26 false else s

/-- R338: the four slopes exceed 90 % of the port rate. -/
def slopesExceed (slopes : List Nat) (rate : Nat) : Bool := decide (9 * rate < 10 * slopes.foldl (· + ·) 0)

/-- R338: a write of IDLE_SLOPE. -/
def slopeWrite (p c : Nat) (v : Word) (s : State) : State :=
  if p < capMedia s.variant && c < 4 && s.served (netReg p 0x30) then
    let slopes := upd ((List.range 4).map (slopeOf s p)) c (v.toNat % 2 ^ 24)
    if slopesExceed slopes (netRate s p) then s.bset (netReg p 4) 24 true
    else (settleCredit p s).wr (Reg.NET_CBS_SLOPE p c) (v.toNat % 2 ^ 24)
  else s

/-- R325, R337, R338, R342, R343: a write of NET_CTL or MGMT_CTL. -/
def netCtlWrite (p : Nat) (v : Word) (s : State) : State :=
  let a := netReg p 0
  let w := v.toNat
  let was := netEnabled s p
  let newIf := getF w 17 16
  let rate := if newIf = 0 then 10000000 else if newIf = 1 then 2500000 else 1000000
  let s := if p = 16 then (if was then s else (s.fset a 19 18 (getF w 19 18)).fset a 17 16 newIf)
    else if was || newIf = s.fget a 17 16 then s
    else if slopesExceed ((List.range 4).map (slopeOf s p)) rate then s.bset (netReg p 4) 24 true
    else s.fset a 17 16 newIf
  let s := (((s.bset a 6 (bitOf w 6)).bset a 3 (bitOf w 3)).bset a 2 (bitOf w 2)).bset a 0 (bitOf w 0)
  let s := if bitOf w 0 then s.setNet p { s.netSt p with halted := false } else s
  let s := s.bset a 5 (bitOf w 5)
  if p = 16 then s
  else
    let pre := s.bget a 4
    let s := relink p (s.bset a 4 (bitOf w 4))
    if bitOf w 4 && !pre then verifyStart p s
    else if !bitOf w 4 then s.fset (netReg p 4) 29 28 0
    else s

/-- R342, R364: ABORT of a port: the frame on the wire is cut, owned transmit descriptors complete ABORTED, stream frames are dropped,
the port is HALTED. -/
def netAbort (p : Nat) (s : State) : State :=
  let s := dropStreams p s
  let s := s.setNet p { s.netSt p with halted := true }
  let drain (r : Nat) (s : State) : State :=
    (List.range 4096).foldl (fun s _ => if ringOwned s p true r then txComplete p r 3 s else s) s
  (drain 1 (drain 0 s)).bset (netReg p 0) 0 false

/-- R345: a write of MGMT_MDIO starts a transaction. -/
def mdioWrite (v : Word) (s : State) : State :=
  if s.served Reg.MGMT_MDIO && !s.bget Reg.MGMT_MDIO 31 then s.wr Reg.MGMT_MDIO (2 ^ 31 + v.toNat % 2 ^ 31 / 2 ^ 30 * 2 ^ 30 + v.toNat % 2 ^ 26)
  else s

/-- R345: the transaction ends; a read stores its data. -/
def mdioDone (d : BitVec 16) (s : State) : State :=
  if s.bget Reg.MGMT_MDIO 31 then
    let s := s.bset Reg.MGMT_MDIO 31 false
    if s.bget Reg.MGMT_MDIO 30 then s.fset Reg.MGMT_MDIO 15 0 d.toNat else s
  else s

/-- TX_FRAME_SELECT (R336): the frame's capture comes `sub` sixteenths of a nanosecond after the last counter cycle (R302). -/
def execTxFrameSelect (port : Nat) (s : State) (sub : Nat := 0) : Host.Outcome State Fault Refusal := .next (txSelect port sub s)

/-- PREEMPT (R337). -/
def execPreempt (port sent : Nat) (s : State) (sub : Nat := 0) : Host.Outcome State Fault Refusal := .next (doPreempt port sent sub s)

/-- PREEMPT_VERIFY (R337). -/
def execPreemptVerify (port : Nat) (ok : Bool) (s : State) : Host.Outcome State Fault Refusal := .next (preemptVerify port ok s)

/-- NET_LINK (R326): lock or synchronisation holds, auto-negotiation has completed, the partner signals 1,000 Mb/s full duplex. -/
def execNetLink (port : Nat) (lock : Bool) (s : State) (an : Bool := true) (full : Bool := true) : Host.Outcome State Fault Refusal := .next (doNetLink port lock an full s)

/-- RING_TAIL_WRITE (R333). -/
def execRingTailWrite (m : Master) (off : Nat) (v : Word) (s : State) : Host.Outcome State Fault Refusal := .next (ringTailWrite m off v s)

/-- PAUSE_TIMER_EXPIRY (R340). -/
def execPauseTimerExpiry (port : Nat) (s : State) : Host.Outcome State Fault Refusal := .next (pauseExpire port s)

/-- NET_PAUSE_WD (R341). -/
def execNetPauseWd (port : Nat) (s : State) : Host.Outcome State Fault Refusal := .next (pauseWd port s)

/-- PAUSE_HOLDOFF_END (R341). -/
def execPauseHoldoffEnd (port : Nat) (s : State) : Host.Outcome State Fault Refusal := .next (holdoffEnd port s)

/-- NET_CBS_SLOPE_WRITE (R338). -/
def execNetCbsSlopeWrite (_m : Master) (port cls : Nat) (v : Word) (s : State) : Host.Outcome State Fault Refusal :=
  .next (slopeWrite port cls v s)

/-- MGMT_MDIO_WRITE (R345). -/
def execMgmtMdioWrite (_m : Master) (v : Word) (s : State) : Host.Outcome State Fault Refusal := .next (mdioWrite v s)

/-- MDIO_TRANSACTION_COMPLETE (R345). -/
def execMdioTransactionComplete (rd : BitVec 16) (s : State) : Host.Outcome State Fault Refusal := .next (mdioDone rd s)

end Sys2Proof.Machine
end

