-- ==== Sys2Proof/Machine/Xp.lean ====
section
/-! DEFINITION. The crosspoint store (R112 to R114, R133 to R136): records, slots, sets, and the value a ramp has reached. -/

namespace Sys2Proof.Machine

/-- R112: a crosspoint record, unpacked. -/
structure Rec where
  dly : Nat
  gain : Nat
  pol : Bool
  act : Bool
  flags : Nat
  deriving DecidableEq, Repr

/-- R83: the inactive record. -/
def Rec.inactive : Rec := ⟨0, 0, false, false, 0⟩

/-- R112: the 48 bits of a record. -/
def Rec.pack (r : Rec) : BitVec 48 :=
  BitVec.ofNat 48 (r.dly % 2 ^ 24 * 2 ^ 24 + r.gain % 2 ^ 18 * 2 ^ 6 + b2n r.pol * 32 + b2n r.act * 16 + r.flags % 16)

/-- R112: the fields of 48 bits. -/
def Rec.unpack (v : Nat) : Rec := ⟨getF v 47 24, getF v 23 6, bitOf v 5, bitOf v 4, getF v 3 0⟩

/-- R113, R114: byte address of a slot of a record set. -/
def recAddr (tile set slot : Nat) : Nat := 0x103000000 + tile * 0x30000 + set * 0x18000 + 6 * slot

/-- R112, R270: the record of a slot; none if a word of it fails its check. -/
def readRec (tile set slot : Nat) (s : State) : Option Rec × State :=
  let a := recAddr tile set slot
  let lo := readWord (a / 4 * 4) s
  let hi := readWord (a / 4 * 4 + 4) lo.2
  let bad := lo.1.bad || hi.1.bad || lo.1.refused || hi.1.refused
  let both := lo.1.val.toNat + hi.1.val.toNat * 2 ^ 32
  (if bad then none else some (Rec.unpack (if a % 4 = 0 then both % 2 ^ 48 else both / 2 ^ 16)), hi.2)

/-- R269, R271: write the half of a word that a record shares with its neighbour's record: `other` says that the neighbour writes
the other half at the same time, so that the word is written whole. A failing word that is written in half only fails again. -/
def writeHalf (i p : Nat) (lo hi : Byte) (at2 other : Bool) (m : Mem) : Mem :=
  let a := if at2 then p + 2 else p
  let failed := m.fails i p
  let m := (m.wrByte a lo).wrByte (a + 1) hi
  if !failed then m
  else
    let m := m.setBad p (!other)
    if m.lost.contains i then { m with rewritten := insNat m.rewritten p } else m

/-- R269: the read part of such a half write finds a failing word. -/
def halfSeen (i p : Nat) (other : Bool) (s : State) : State :=
  if s.mem.fails i p && !other then parityFail i ((p - bankBase i) / 4) s else s

/-- R112, R272: write a record's six bytes: the word it fills, and the half word it shares; `halves` holds the records of this
pass. -/
def writeRec (halves : List Nat) (tile set slot : Nat) (r : BitVec 48) (s : State) : State :=
  if s.bankOn (128 + tile) && bankPresent s.variant (128 + tile) then
    let a := recAddr tile set slot
    let b (k : Nat) : Byte := r.extractLsb' (8 * k) 8
    let s := if a % 4 = 0 then halfSeen (128 + tile) (a + 4) (halves.contains (a + 6)) s
      else halfSeen (128 + tile) (a - 2) (halves.contains (a - 6)) s
    if a % 4 = 0 then
      let m := s.mem.store (128 + tile) a (b 3 ++ b 2 ++ b 1 ++ b 0) false
      { s with mem := writeHalf (128 + tile) (a + 4) (b 4) (b 5) false (halves.contains (a + 6)) m }
    else
      let m := s.mem.store (128 + tile) (a + 2) (b 5 ++ b 4 ++ b 3 ++ b 2) false
      { s with mem := writeHalf (128 + tile) (a - 2) (b 0) (b 1) true (halves.contains (a - 6)) m }
  else if bankPresent s.variant (128 + tile) then s.count Reg.MEMC_REFUSED_CNT 2
  else s

/-- Apply writes in order; `halves` holds those already applied whose shared word failed its check. -/
def writeRecs : List XpWrite → List Nat → State → State
  | [], _, s => s
  | w :: ws, halves, s =>
    let a := recAddr w.tile w.set w.slot
    let p := if a % 4 = 0 then a + 4 else a - 2
    let failed := s.mem.fails (128 + w.tile) p
    writeRecs ws (if failed then a :: halves else halves) (writeRec halves w.tile w.set w.slot w.record s)

/-- R133: the record set that holds the target of object `o`. -/
def targetSet (wide : Bool) (o : Nat) (s : State) : Nat :=
  getF (s.rd (Reg.NIB_TILE_SETSEL (tileOf wide o))) (o % perBank wide) (o % perBank wide)

/-- An object's groups. -/
def State.xp (s : State) (o : Nat) : XpObj := Tab.get (fun _ => XpObj.reset) s.scene.xp o

/-- Replace an object's groups. -/
def State.setXp (s : State) (o : Nat) (x : XpObj) : State :=
  { s with scene := { s.scene with xp := Tab.put (fun _ => XpObj.reset) s.scene.xp o x } }

/-- R114: outputs of `outs` whose mask bit is 1, with their rank. -/
def rankMask (mask : BitVec 1024) : List Nat → Nat → List (Nat × Nat)
  | [], _ => []
  | o :: os, k => if mask.getLsbD o then (o, k) :: rankMask mask os (k + 1) else rankMask mask os k

/-- R113, R114: the outputs of an object that have a slot, with it. -/
def slotsOf (v : Variant) (wide : Bool) (mask : BitVec 1024) (o : Nat) : List (Nat × Nat) :=
  if wide then
    ((rankMask mask (List.range (capOuts v)) 0).filter (fun p => decide (p.2 < 512))).map (fun p => (p.1, o % 32 * 512 + p.2))
  else (List.range (capOuts v)).map (fun s => (s, o % 16 * 1024 + s))

/-- R114: the rank of an output in a mask: the mask bits below it. -/
def maskRank (mask : BitVec 1024) (out : Nat) : Nat := ((List.range out).filter (fun o => mask.getLsbD o)).length

/-- R113, R114: the slot of one crosspoint. -/
def slotOf (v : Variant) (wide : Bool) (mask : BitVec 1024) (o out : Nat) : Option Nat :=
  if capOuts v ≤ out then none
  else if !wide then some (o % 16 * 1024 + out)
  else if mask.getLsbD out && decide (maskRank mask out < 512) then some (o % 32 * 512 + maskRank mask out)
  else none

/-- R136: the origin a tile ramps from: an inactive origin record stands for the target's delay at gain 0. -/
def originOf (org tgt : Rec) : Rec := if org.act then org else { tgt with gain := 0 }

/-- R111, R138: a ramp's value after `m` whole blocks of a group of `n` blocks of `b` samples, held at 0 (R135). -/
def rampAfter (old new m n b : Nat) : Nat :=
  if n ≤ m then new else ((old : Int) + ((m * b : Nat) : Int) * fdiv ((new : Int) - (old : Int)) (n * b)).toNat

/-- R138: the ramp's value at sample `k` of a group of `nb` samples. -/
def rampAt (old new k nb : Nat) (enabled : Bool) : Nat :=
  if !enabled || nb ≤ k + 1 then new else ((old : Int) + ((k + 1 : Nat) : Int) * fdiv ((new : Int) - (old : Int)) nb).toNat

/-- R134: apply the pending writes of the slots whose output group the tile has finished, or of every slot. -/
def flushXp (all : Bool) (s : State) : State :=
  let isDone (w : XpWrite) : Bool := all || decide (w.out / 128 < Tab.get (fun _ => 0) s.scene.tileDone w.tile)
  let due := s.scene.xpWrites.filter isDone
  let s := { s with scene := { s.scene with xpWrites := s.scene.xpWrites.filter (fun w => !isDone w) } }
  writeRecs due [] s

end Sys2Proof.Machine
end

