-- ==== Sys2Proof/Machine/Laws.lean ====
section
/-! DEFINITION. Positions along trajectories (R61 to R68) and the render laws (R87 to R99): what an object's law gives each
speaker. -/

namespace Sys2Proof.Machine

/-- Speaker `n` as the Ruling engine has it. -/
def State.spkR (s : State) (n : Nat) : Spk := Tab.get (fun _ => Spk.reset) s.scene.spkR n

/-- Speaker `n` as the output stage has it. -/
def State.spkO (s : State) (n : Nat) : Spk := Tab.get (fun _ => Spk.reset) s.scene.spkO n

/-- Zone `n`. -/
def State.zone (s : State) (n : Nat) : Zone := Tab.get (fun _ => Zone.reset) s.scene.zones n

/-- Mask set `n`; every bit resets to 1 (R100). -/
def State.maskSet (s : State) (n : Nat) : BitVec 1024 := Tab.get (fun _ => BitVec.allOnes 1024) s.scene.masks n

/-- VBAP entry `n`; entries reset to all zeros (R95). -/
def State.vbap (s : State) (n : Nat) : List Word := Tab.get (fun _ => List.replicate 12 0) s.scene.vbap n

/-- R74: a field of a speaker record. -/
def Spk.field (x : Spk) (w hi lo : Nat) : Nat := getF (nth 0 x.words w).toNat hi lo

/-- R74: a speaker's position. -/
def Spk.pos (x : Spk) : Vec3 := ⟨(nth 0 x.words 0).toInt, (nth 0 x.words 1).toInt, (nth 0 x.words 2).toInt⟩

/-- PRESENT. -/
def Spk.present (x : Spk) : Bool := x.field 4 31 31 == 1

/-- R309: the PTP time in ns of the sample with MST `m`, under media offset `o`. -/
def mstTime (fs m : Nat) (o : Int) : Int := fdiv (((m * 16 * 10 ^ 9 / fs : Nat) : Int) + o) 16

/-- R65: t(j): block `j`'s last sample, under the offset that governs block `j` (R315). -/
def evalTime (s : State) (j : Nat) : Int :=
  mstTime s.fs ((j + 1) * s.blockLen - 1) (if j < s.bn then s.time.oPrev else s.time.o)

/-- R66: segments that have ended are popped; the last one's P1 is held. -/
def popSegs (t : Int) : Vec3 → List Seg → Nat → Vec3 × List Seg × Nat
  | hold, [], h => (hold, [], h)
  | hold, g :: gs, h => if (g.tEnd : Int) ≤ t then popSegs t g.p1 gs ((h + 1) % 4) else (hold, g :: gs, h)

/-- R66: one axis of a segment, with the four Hermite weights. -/
def hermite (h00 h10 h01 h11 : Int) (dur : Nat) (p0 p1 v0 v1 : Int) : Int :=
  satS 32 (fdiv (h00 * p0 + h10 * fdiv (v0 * dur) 1000000000 + h01 * p1 + h11 * fdiv (v1 * dur) 1000000000) (2 ^ 24))

/-- R66: the position along a segment at time `t`. -/
def segPos (g : Seg) (t : Int) : Vec3 :=
  let dur := g.tEnd - g.tStart
  let u : Int := fdiv ((t - (g.tStart : Int)) * 2 ^ 24) dur
  let u2 := fdiv (u * u) (2 ^ 24)
  let u3 := fdiv (u2 * u) (2 ^ 24)
  let h00 := 2 * u3 - 3 * u2 + 2 ^ 24
  let h10 := u3 - 2 * u2 + u
  let h01 := 3 * u2 - 2 * u3
  let h11 := u3 - u2
  let f := hermite h00 h10 h01 h11 dur
  ⟨f g.p0.x g.p1.x g.v0.x g.v1.x, f g.p0.y g.p1.y g.v0.y g.v1.y, f g.p0.z g.p1.z g.v0.z g.v1.z⟩

/-- R66: the position at time `t` once ended segments are popped. -/
def posAt (t : Int) (hold : Vec3) : List Seg → Vec3
  | [] => hold
  | g :: _ => if t < (g.tStart : Int) then hold else segPos g t

/-- Squared length. -/
def normSq (x y z : Int) : Nat := (x * x + y * y + z * z).toNat

/-- R87: distance. -/
def dist (p q : Vec3) : Nat := isqrt (normSq (p.x - q.x) (p.y - q.y) (p.z - q.z))

/-- R50, R89: the aim integers of a speaker. -/
def aimOf (k : Spk) : Vec3 :=
  let az := Fx.turn ((k.field 3 15 0 : Nat) : Int)
  let el := Fx.turn ((k.field 3 31 16 : Nat) : Int)
  let c := Fx.cos el
  ⟨Fx.round (65536 * Fx.mul (Fx.sin az) c), Fx.round (65536 * Fx.mul (Fx.cos az) c), Fx.round (65536 * Fx.sin el)⟩

/-- R91: the facing window; cos(α − σ) is formed from cos α = cosq / 65,536 without the arccosine. -/
def window (a : Vec3) (v : Vec3) (d spread : Nat) : Nat :=
  if d = 0 then 65536
  else
    let q := Max.max (-65536) (Min.min (fdiv (a.x * v.x + a.y * v.y + a.z * v.z) d) 65536)
    if spread = 0 then (Max.max q 0).toNat
    else
      let sig := Fx.turn spread
      let ca := Fx.ratio q 65536
      if 32768 ≤ spread || Fx.cos sig ≤ ca then 65536
      else
        let sa := Fx.sqrt (Fx.one - Fx.mul ca ca)
        (Max.max 0 (Fx.round (65536 * (Fx.mul ca (Fx.cos sig) + Fx.mul sa (Fx.sin sig))))).toNat

/-- What a law gives one speaker (R85, step 3). -/
structure LawRes where
  tau : Int
  gl : Nat
  pol : Bool
  active : Bool
  fault : Bool
  deriving DecidableEq, Repr

/-- A crosspoint that the law does not make active. -/
def LawRes.off : LawRes := ⟨0, 0, false, false, false⟩

/-- A law fault (R105). -/
def LawRes.bad : LawRes := ⟨0, 0, false, false, true⟩

/-- R90: gd. -/
def lawGd (dRef d dMin : Nat) : Nat := isqrt (dRef * 2 ^ 32 / Nat.max d dMin)

/-- R92: LAW_PARAM holds only what the law allows. -/
def paramOk (law p : Nat) : Bool :=
  match law with
  | 0 => p == 0
  | 1 => decide (p ≤ 196608)
  | 2 => getF p 30 16 == 0
  | 3 => getF p 30 23 == 0 && decide (1 ≤ getF p 22 11) && decide (getF p 10 0 + getF p 22 11 ≤ 2048)
  | 4 => decide (p ≤ 767)
  | _ => false

/-- WFS and FOCUS (R90, R91). -/
def facing (focus : Bool) (x : Obj) (p : Vec3) (k : Spk) (z : Zone) : LawRes :=
  let q := k.pos
  let d := dist p q
  let tp : Nat := d * z.spm / 2 ^ 23
  let v : Vec3 := if focus then ⟨p.x - q.x, p.y - q.y, p.z - q.z⟩ else ⟨q.x - p.x, q.y - p.y, q.z - p.z⟩
  let w := window (aimOf k) v d (x.field 3 15 0)
  let tau : Int := if focus then ((x.field 5 17 0 * 2048 : Nat) : Int) - (tp : Int) else (tp : Int)
  ⟨tau, lawGd z.dRef d (x.field 3 31 16) * w / 65536, false, decide (0 < w), false⟩

/-- R90: the delay from the venue origin to the object. -/
def tauC (x : Obj) (p : Vec3) (z : Zone) : Nat :=
  if x.field 5 31 31 = 1 then 0 else isqrt (normSq p.x p.y p.z) * z.spm / 2 ^ 23

/-- R94: DBAP weights qᵢ relative to the nearest speaker's, for distances in 1/4096 m. -/
def dbapWeights (x : Obj) (ds : List Nat) : List Int :=
  let dMin := x.field 3 31 16
  let ds := ds.map (fun d => Nat.max d dMin)
  let d0 := ds.foldl Nat.min (ds.headD 1)
  let num := x.field 5 15 0 * (16384 - x.field 3 15 0)
  let e := Fx.div (Fx.mul (Fx.ratio num (256 * 16384)) Fx.ln10) (20 * Fx.ln2)
  ds.map (fun d => Fx.exp (-(Fx.mul e (Fx.lnNat d - Fx.lnNat d0))))

/-- R94: the DBAP gains of the speakers of S. -/
def dbapGains (x : Obj) (ds : List Nat) : List Nat :=
  let qs := dbapWeights x ds
  let root := Fx.sqrt (qs.foldl (fun a q => a + Fx.mul q q) 0)
  qs.map (fun q => (Fx.round (65536 * Fx.div q root)).toNat)

/-- R96: hₖ of a direction with components in fixed point, its sign exact (log entry 5). -/
def vbapH (e : List Word) (ux uy uz : Int) (k : Nat) : Int :=
  let m (i : Nat) : Int := (nth 0 e (1 + 3 * i + k)).toInt
  let h := ux * m 0 + uy * m 1 + uz * m 2
  if Fx.sign h = 0 then 0 else h

/-- R96: the first entry of a range that a direction selects, with its three h. -/
def vbapFind (s : State) (inS : Nat → Bool) (ux uy uz : Int) : Nat → Nat → Option (List Nat × List Int)
  | 0, _ => none
  | n + 1, i =>
    let e := s.vbap i
    let w0 := (nth 0 e 0).toNat
    let spk := [getF w0 9 0, getF w0 19 10, getF w0 29 20]
    let h := [vbapH e ux uy uz 0, vbapH e ux uy uz 1, vbapH e ux uy uz 2]
    if h.all (fun a => decide (0 ≤ a)) && h.any (fun a => decide (0 < a)) && spk.all inS then some (spk, h)
    else vbapFind s inS ux uy uz n (i + 1)

/-- R96: the directions searched: p, and with SPREAD four around it, each up to a positive scale. -/
def vbapDirs (p : Vec3) (spread : Nat) : List (Int × Int × Int) :=
  let px := Fx.ofInt p.x
  let py := Fx.ofInt p.y
  let pz := Fx.ofInt p.z
  if spread = 0 then [(px, py, pz)]
  else
    let c := Fx.cos (Fx.turn spread)
    let n := Fx.sin (Fx.turn spread)
    let r := Fx.sqrt (Fx.ofInt (p.x * p.x + p.y * p.y))
    let axis := p.x == 0 && p.y == 0
    let turned (sg : Int) : Int × Int × Int :=
      (Fx.mul px c - sg * Fx.mul py n, sg * Fx.mul px n + Fx.mul py c, pz)
    let raised (sg : Int) : Int × Int × Int :=
      let ch := Fx.mul r c - sg * Fx.mul pz n
      let sh := Fx.mul pz c + sg * Fx.mul r n
      if 32768 ≤ spread || Fx.sign ch ≤ 0 then (0, 0, sg * Fx.one)
      else if axis then (0, ch, sh)
      else (Fx.mul px ch, Fx.mul py ch, Fx.mul sh r)
    [(px, py, pz), turned 1, turned (-1), raised 1, raised (-1)]

/-- R96: a direction's real gains, per speaker. -/
def vbapGains (sel : List Nat × List Int) : List (Nat × Int) :=
  let root := Fx.sqrt (sel.2.foldl (fun a h => a + Fx.mul h h) 0)
  List.zip sel.1 (sel.2.map (fun h => Fx.div h root))

/-- R96: the summed gain of a speaker over the directions. -/
def sumFor (k : Nat) (gs : List (Nat × Int)) : Int := gs.foldl (fun a g => if g.1 = k then a + g.2 else a) 0

/-- R96, R97: speakers with a nonzero gain and their gl; none for a law fault. A speaker that an entry names twice receives the
sum of its gains, and the sums are normalised (DESIGN CHOICE, log entry 149). -/
def vbapResult (s : State) (x : Obj) (p : Vec3) (inS : Nat → Bool) : Option (List (Nat × Nat)) :=
  if p.x = 0 ∧ p.y = 0 ∧ p.z = 0 then none
  else
    let sels := (vbapDirs p (x.field 3 15 0)).map (fun u => vbapFind s inS u.1 u.2.1 u.2.2 (x.field 5 22 11) (x.field 5 10 0))
    if sels.any Option.isNone then none
    else
      let gs := (sels.filterMap id).flatMap vbapGains
      let spk := (gs.map Prod.fst).eraseDups
      let sums := spk.map (fun k => (k, sumFor k gs))
      let root := Fx.sqrt (sums.foldl (fun a g => a + Fx.mul g.2 g.2) 0)
      some ((sums.filter (fun g => decide (0 < g.2))).map (fun g => (g.1, (Fx.round (65536 * Fx.div g.2 root)).toNat)))

/-- R98: byte address of an entry of a DIRECT table. -/
def directAddr (t out : Nat) : Nat := 0x107800000 + t * 8192 + 8 * out

/-- R98, R99: DIRECT: what one table entry gives. -/
def direct (t out bulk : Nat) (s : State) : LawRes × State :=
  let lo := readWord (directAddr t out) s
  let hi := readWord (directAddr t out + 4) lo.2
  if lo.1.bad || hi.1.bad then (LawRes.bad, hi.2)
  else
    let r := Rec.unpack (lo.1.val.toNat + hi.1.val.toNat % 2 ^ 16 * 2 ^ 32)
    (⟨((r.dly + bulk * 2048 : Nat) : Int), r.gain, r.pol, r.act, false⟩, hi.2)

/-- Steps 2 to 4 of R85 over outputs: results in output order, `inS` being R93's set. A LAW_PARAM in force whose listed fields are
out of range is a law fault like one with a bit that R92 does not allow (DESIGN CHOICE, log entry 147). -/
def lawRow (x : Obj) (p : Vec3) (inS : Nat → Bool) : List Nat → State → List (Nat × LawRes) × State
  | [], s => ([], s)
  | k :: ks, s =>
    let spk := s.spkR k
    let z := s.zone (spk.field 4 5 0)
    let r : LawRes × State :=
      if !inS k then (LawRes.off, s)
      else if !paramOk (x.field 0 7 5) (x.field 5 31 0) then (LawRes.bad, s)
      else match x.field 0 7 5 with
        | 0 => (facing false x p spk z, s)
        | 1 => (facing true x p spk z, s)
        | 4 => direct (x.field 5 9 0) k (spk.field 5 17 0) s
        | _ => (LawRes.off, s)
    let rest := lawRow x p inS ks r.2
    ((k, r.1) :: rest.1, rest.2)

/-- Steps 2 to 4 of R85 for an object at `p`. -/
def lawEval (x : Obj) (p : Vec3) (s : State) : List (Nat × LawRes) × State :=
  let outs := List.range (capOuts s.variant)
  let mask := s.maskSet (x.field 0 15 10)
  let inS (k : Nat) : Bool := (s.spkR k).present && mask.getLsbD k
  let set := outs.filter inS
  let tau (k : Nat) : Int := (tauC x p (s.zone ((s.spkR k).field 4 5 0)) : Nat)
  if paramOk (x.field 0 7 5) (x.field 5 31 0) && x.field 0 7 5 == 2 then
    let gains := List.zip set (dbapGains x (set.map (fun k => dist p (s.spkR k).pos)))
    (outs.map (fun k => (k, match Tab.find gains k with
      | some g => ⟨tau k, g, false, true, false⟩
      | none => LawRes.off)), s)
  else if paramOk (x.field 0 7 5) (x.field 5 31 0) && x.field 0 7 5 == 3 then
    match vbapResult s x p inS with
    | none => (outs.map (fun k => (k, if inS k then LawRes.bad else LawRes.off)), s)
    | some gs => (outs.map (fun k => (k, match Tab.find gs k with
      | some g => ⟨tau k, g, false, true, false⟩
      | none => LawRes.off)), s)
  else lawRow x p inS outs s

/-- R270: the row holds a word whose parity fails. -/
def State.rowBad (s : State) (r : TblRow) : Bool := s.scene.tblBad.contains r

/-- R270, R105: a crosspoint of an object and output `k` is computed from a Ruling table word that fails: of the object's mask set, the
output's speaker, its zone (all laws but DIRECT), a speaker of the mask set (DBAP), an entry of the range (VBAP). -/
def tableFault (x : Obj) (s : State) (k : Nat) : Bool :=
  let law := x.field 0 7 5
  s.rowBad (.mask (x.field 0 15 10)) || s.rowBad (.spk k)
    || (law != 4 && s.rowBad (.zone ((s.spkR k).field 4 5 0)))
    || (law == 2 && (List.range (capOuts s.variant)).any (fun j => (s.maskSet (x.field 0 15 10)).getLsbD j && s.rowBad (.spk j)))
    || (law == 3 && (List.range (x.field 5 22 11)).any (fun i => s.rowBad (.vbap (x.field 5 10 0 + i))))

/-- Steps 2 to 4 of R85 for an object at `p`, with the law faults that R270 gives. -/
def lawsOf (x : Obj) (p : Vec3) (s : State) : List (Nat × LawRes) × State :=
  let r := lawEval x p s
  (r.1.map (fun kr => if tableFault x s kr.1 then (kr.1, LawRes.bad) else kr), r.2)

end Sys2Proof.Machine
end

