-- ==== Sys2Proof/Machine/Ruling.lean ====
section
/-! DEFINITION. The Ruling engine's pass (R83 to R111), its deadline (R33) and the override merge (R115 to R117). -/

namespace Sys2Proof.Machine

/-- R37: a GLB_OVERRUN bit sets; the event and the count come once for each block. -/
def setOverrun (bit : Nat) (s : State) : State :=
  let s := s.bset Reg.GLB_OVERRUN bit true
  if s.sched.overrun then s
  else fire 0x00 0 (({ s with sched := { s.sched with overrun := true } }).count Reg.GLB_OVERRUN_CNT 1)

/-- R102: the largest fine delay. -/
def wMax (wide : Bool) : Nat := if wide then 8257536 else 16646144

/-- R60: the release factor for the group whose last block is `jl`. -/
def relFactor (x : Obj) (jl : Nat) : Nat := 65536 * (x.relN - (jl + 1 - x.relF)) / x.relN

/-- R104: the assembled gain, and whether it saturated. -/
def assembleGain (x : Obj) (gl jl : Nat) : Nat × Bool :=
  let g := gl * x.field 2 17 0 / 65536
  let c := Nat.min g 0x3FFFF
  (if x.st == .releasing then c * relFactor x jl / 65536 else c, decide (0x3FFFF < g))

/-- R102: the clamped fine delay with its CLAMP flags. -/
def clampDly (wide : Bool) (phi : Int) : Nat × Nat :=
  if phi < 0 then (0, 8) else if (wMax wide : Int) < phi then (wMax wide, 4) else (phi.toNat, 0)

/-- R103: the slew limit against the previous delay. -/
def slew (dmax prev dly : Nat) : Nat × Nat :=
  if prev + dmax < dly then (prev + dmax, 2) else if dly + dmax < prev then (prev - dmax, 2) else (dly, 0)

/-- Steps 5 to 8 of R85: the new record of a crosspoint from its law's result and its predecessor, and whether the gain
saturated. A record that R107 or R108 writes in place of the computed one carries no flag. The slew limit applies to the first
record of a new polarity too, whose predecessor is active (R103; DESIGN CHOICE, log entry 144). -/
def makeRec (wide : Bool) (x : Obj) (jl dmax bulk : Nat) (prev : Rec) (r : LawRes) : Rec × Bool :=
  let fade : Rec := ⟨prev.dly, 0, prev.pol, true, 0⟩
  if r.fault then (⟨prev.dly, if x.st == .releasing then 0 else prev.gain, prev.pol, prev.act, 1⟩, false)
  else if !r.active then (if prev.act && decide (0 < prev.gain) then fade else Rec.inactive, false)
  else
    let c := clampDly wide (r.tau - ((bulk * 2048 : Nat) : Int))
    let d := if prev.act then slew dmax prev.dly c.1 else (c.1, 0)
    let g := assembleGain x r.gl jl
    (if prev.act && prev.pol != r.pol && decide (0 < prev.gain) then fade else ⟨d.1, g.1, r.pol, true, c.2 + d.2⟩, g.2)

/-- What a pass accumulates. -/
structure PassAcc where
  st : State
  writes : List XpWrite
  lo : Nat
  hi : Nat
  slew : Nat
  fault : Nat
  sat : Nat
  ovf : Nat
  active : Nat
  faultObj : Option Nat
  ovfObj : Option Nat

/-- What a pass knows of the object it is computing. -/
structure ObjCtx where
  o : Nat
  x : Obj
  tile : Nat
  sel : Nat
  wide : Bool
  slots : List (Nat × Nat)
  /-- The first record of the object, or its slots have moved: predecessors are inactive (R59, R106, R114). -/
  fresh : Bool
  /-- Blocks of the last group rendered before this one starts, and its length (R111). -/
  m : Nat
  len : Nat
  jl : Nat
  dmax : Nat

/-- R111, R135, R270: the predecessor of a crosspoint, and whether the origin set must be rewritten with it. -/
def predecessor (c : ObjCtx) (slot : Nat) (s : State) : Rec × Bool × State :=
  let t := readRec c.tile c.sel slot s
  match t.1 with
  | none => (Rec.inactive, true, t.2)
  | some tgt =>
    if c.fresh then (Rec.inactive, tgt.act, t.2)
    else if c.len ≤ c.m then (tgt, false, t.2)
    else
      let g := readRec c.tile (1 - c.sel) slot t.2
      match g.1 with
      | none => (Rec.inactive, true, g.2)
      | some org =>
        let old := originOf org tgt
        let b := s.blockLen
        let p : Rec := { tgt with dly := rampAfter old.dly tgt.dly c.m c.len b, gain := rampAfter old.gain tgt.gain c.m c.len b }
        (p, decide (p ≠ tgt), g.2)

/-- R85, R118 for one crosspoint. -/
def xpStep (c : ObjCtx) (acc : PassAcc) (kr : Nat × LawRes) : PassAcc :=
  match Tab.find c.slots kr.1 with
  | none =>
    if kr.2.active && !kr.2.fault then { acc with ovf := acc.ovf + 1, ovfObj := acc.ovfObj.orElse (fun _ => some c.o) } else acc
  | some slot =>
    let p := predecessor c slot acc.st
    let f := p.2.2.freeW
    let st := if p.2.1 then f.2 else p.2.2
    let flags := if p.1.act then f.1.toNat % 16 else 0
    let r := makeRec c.wide c.x c.jl c.dmax ((st.spkR kr.1).field 5 17 0) p.1 kr.2
    let w : XpWrite := ⟨c.tile, 1 - c.sel, slot, kr.1, r.1.pack⟩
    let ws := if p.2.1 then [w, ⟨c.tile, c.sel, slot, kr.1, ({ p.1 with flags := flags } : Rec).pack⟩] else [w]
    { st := st
      writes := ws ++ acc.writes
      lo := acc.lo + b2n (bitOf r.1.flags 3)
      hi := acc.hi + b2n (bitOf r.1.flags 2)
      slew := acc.slew + b2n (bitOf r.1.flags 1)
      fault := acc.fault + b2n (bitOf r.1.flags 0)
      sat := acc.sat + b2n r.2
      ovf := acc.ovf
      active := acc.active + b2n r.1.act
      faultObj := if bitOf r.1.flags 0 then acc.faultObj.orElse (fun _ => some c.o) else acc.faultObj
      ovfObj := acc.ovfObj }

/-- R109, R110: a group of the object starts at block `b`. -/
def groupStarts (x : XpObj) (b : Nat) : Bool := decide (x.phase ≤ b) && (b - x.phase) % x.n == 0

/-- R85 for one object whose group starts at block `b`. In the wide partition every change of the mask makes the predecessors
inactive, also one of bits that R100 ignores (DESIGN CHOICE, log entry 150). -/
def passObj (b o : Nat) (acc : PassAcc) : PassAcc :=
  let s := acc.st
  let x := s.obj o
  let xp := s.xp o
  let wide := s.scene.wideR
  let jl := b + xp.n - 1
  let t := evalTime s jl
  let popped := popSegs t x.hold x.segs x.segHead
  let p := posAt t popped.1 popped.2.1
  let s := if !x.segs.isEmpty && popped.2.1.isEmpty then fire 0x08 o s else s
  let s := s.setObj o { x with lastPos := some p, after := some popped }
  let laws := lawsOf x p s
  let mask := s.maskSet (x.field 0 15 10)
  let c : ObjCtx :=
    { o := o, x := x, tile := tileOf wide o, sel := targetSet wide o s, wide := wide
      slots := slotsOf s.variant wide mask o
      fresh := xp.fresh || (wide && xp.mask != mask)
      m := if s.scene.stuck.contains o then xp.nibLen else b - xp.nibStart
      len := xp.nibLen, jl := jl
      dmax := x.field 4 15 0 * s.blockLen * xp.n / 32 }
  let s := laws.2.setXp o { xp with curStart := b, curLen := xp.n, fresh := false, mask := mask }
  let s := { s with scene := { s.scene with flips := insNat s.scene.flips o } }
  laws.1.foldl (xpStep c) { acc with st := s }

/-- R83: a freed object's records become inactive. -/
def clearObj (o : Nat) (acc : PassAcc) : PassAcc :=
  let s := acc.st
  let wide := s.scene.wideR
  let sel := targetSet wide o s
  let ws := (slotsOf s.variant wide (s.xp o).mask o).map (fun p => (⟨tileOf wide o, 1 - sel, p.2, p.1, 0⟩ : XpWrite))
  { acc with st := { s with scene := { s.scene with flips := insNat s.scene.flips o } }, writes := ws ++ acc.writes }

/-- LIVE and RELEASING objects, in order. -/
def aliveObjs (s : State) : List Nat := (s.scene.objs.filter (fun p => p.2.alive)).map Prod.fst

/-- Records, counters, registers and events that a pass leaves (R105, R114, R119, R120). -/
def endPass (n : Nat) (acc : PassAcc) : State :=
  let s := acc.st
  let s := { s with scene := { s.scene with xpWrites := s.scene.xpWrites ++ acc.writes.reverse } }
  let s := (((((((s.count Reg.RULE_CLAMP_LO_CNT acc.lo).count Reg.RULE_CLAMP_HI_CNT acc.hi).count Reg.RULE_SLEW_CNT acc.slew).count
    Reg.RULE_FAULT_CNT acc.fault).count Reg.RULE_GAIN_SAT_CNT acc.sat).count Reg.RULE_WIDE_OVF_CNT acc.ovf).wr
    Reg.RULE_STATUS n).wr Reg.RULE_XP_ACTIVE acc.active
  let s := s.wr Reg.RULE_WIDE_OVF_OBJ (match acc.ovfObj with | some o => 2 ^ 31 + o | none => 0)
  let s := match acc.faultObj with | some o => fire 0x09 o s | none => s
  let s := match acc.ovfObj with | some o => fire 0x0A o s | none => s
  flushXp false s

/-- The pass over the objects below `lim` (R83 to R114); the others whose groups start are left stuck (R33, R137). -/
def runPass (lim : Nat) (s : State) : State :=
  let b := s.bn - 1
  let objs := aliveObjs s
  let starts := objs.filter (fun o => groupStarts (s.xp o) b)
  let clear := s.scene.clearing.filter (fun o => decide (o < lim))
  let acc : PassAcc := ⟨s, [], 0, 0, 0, 0, 0, 0, 0, none, none⟩
  let acc := clear.foldl (fun a o => clearObj o a) acc
  let acc := (starts.filter (fun o => decide (o < lim))).foldl (fun a o => passObj b o a) acc
  let s := endPass objs.length acc
  { s with scene := { s.scene with clearing := s.scene.clearing.filter (fun o => decide (lim ≤ o)),
                                   stuckNext := starts.filter (fun o => decide (lim ≤ o)) } }

/-- R28: the last cycle of the Ruling engine's slot. -/
def ruleDeadline (s : State) : Nat := s.slot 359999 299999

/-- A pass that ends at cycle `finish`, within its slot. -/
def doPass (finish : Nat) (s : State) : State :=
  if s.sched.rendering && !s.sched.ruleDone && decide (64 ≤ finish) && decide (finish ≤ ruleDeadline s)
      && decide (s.sched.cycle ≤ ruleDeadline s) then
    let worked := !(aliveObjs s).isEmpty
    let s := runPass 4096 (s.reach 64)
    { s with sched := { s.sched with ruleDone := true, finRule := if worked then finish / 16 else 0 } }
  else s

/-- R33: the deadline with only the objects below `reached` recomputed. -/
def doRuleDeadline (reached : Nat) (s : State) : State :=
  if s.sched.rendering && !s.sched.ruleDone then
    let s := runPass reached (s.reach (ruleDeadline s))
    setOverrun 0 { s with sched := { s.sched with ruleDone := true, finRule := ruleDeadline s / 16 } }
  else s

/-- R117: an applied override: the window clamp applies, and the record replaces the engine's. RULE_XP_ACTIVE counts the record that
stands, so the replaced record's active bit leaves it; the flags that the replaced record set stay counted (R119 is silent; DESIGN
CHOICE, log entry 177). -/
def applyOverride (o out : Nat) (v : BitVec 48) (s : State) : State :=
  let wide := s.scene.wideR
  match slotOf s.variant wide (s.xp o).mask o out with
  | none => s
  | some slot =>
    let r := Rec.unpack v.toNat
    let hi := decide (wMax wide < r.dly)
    let r : Rec := { r with dly := Nat.min r.dly (wMax wide), flags := if hi then 4 else 0 }
    let set := 1 - targetSet wide o s
    let old := match (readRec (tileOf wide o) set slot s).1 with | some q => q.act | none => false
    let s := writeRec [] (tileOf wide o) set slot r.pack s
    let s := s.wr Reg.RULE_XP_ACTIVE (s.rd Reg.RULE_XP_ACTIVE + b2n r.act - b2n old)
    (s.count Reg.RULE_CLAMP_HI_CNT (b2n hi)).count Reg.RULE_OVR_APPLIED_CNT 1

/-- R116: what becomes of a well-formed pair: applied, late, unplaceable, or held (true). -/
def judgePair (o out target : Nat) (v : BitVec 48) (s : State) : Bool × State :=
  let x := s.obj o
  let xp := s.xp o
  let b := s.bn - 1
  let start := if xp.phase ≤ b then b - (b - xp.phase) % xp.n else b
  let delta := (target + 65536 - b % 65536) % 65536
  if !x.alive || decide (capOuts s.variant ≤ out) || (slotOf s.variant s.scene.wideR (s.xp o).mask o out).isNone then
    (false, s.count Reg.RULE_OVR_BAD_CNT 2)
  else if s.scene.flips.contains o && decide ((target + 65536 - xp.curStart % 65536) % 65536 < xp.curLen) then
    (false, applyOverride o out v s)
  else if 1 ≤ delta && decide (delta ≤ 32767) && decide (start + xp.n ≤ b + delta) then (true, s)
  else (false, s.count Reg.RULE_OVR_LATE_CNT 1)

/-- R116: hold a pair, or none. -/
def setHeld (h : Option (Nat × Nat × Nat × BitVec 48)) (s : State) : State :=
  { s with scene := { s.scene with held := h } }.wr Reg.RULE_OVR_HOLD
    (match h with | some (o, _, t, _) => 2 ^ 31 + o * 2 ^ 20 + t | none => 0)

/-- R116: the pops of a merge slot: `n` words remain, `head` is a HEAD whose REC comes next. -/
def mergeLoop : Nat → Option Nat → State → State
  | 0, _, s => s
  | n + 1, head, s =>
    if head.isNone && n = 0 then s
    else
      let r := pop 16 s
      let s := r.2
      let w := r.1
      let bad (k : Nat) (s : State) : State := s.count Reg.RULE_OVR_BAD_CNT k
      if getF w 63 60 = 1 then (if head.isSome then bad 1 s else s)
      else if getF w 63 60 ≠ 0 then mergeLoop n none (bad (1 + b2n head.isSome) s)
      else if getF w 59 56 = 1 then mergeLoop n (some w) (if head.isSome then bad 1 s else s)
      else match head with
        | none => mergeLoop n none (bad 1 s)
        | some h =>
          if getF w 59 56 ≠ 2 then mergeLoop n none (bad 2 s)
          else if getF h 34 16 ≠ 0 || getF w 55 48 ≠ 0 then mergeLoop n none (bad 2 s)
          else
            let o := getF h 55 45
            let out := getF h 44 35
            let t := getF h 15 0
            let v := BitVec.ofNat 48 w
            let j := judgePair o out t v s
            if j.1 then setHeld (some (o, out, t, v)) j.2 else mergeLoop n none j.2

/-- R134: no tile renders any more: the Nib deadline has come, or every present tile has finished its last group. -/
def nibRests (s : State) : Bool :=
  s.sched.nibClosed || (List.range (capTiles s.variant)).all (fun t => decide (8 ≤ Tab.get (fun _ => 0) s.scene.tileDone t))

/-- R116, R134: the interval's merge may begin: the pass has ended, and the Nib array's slot before it, so that every record slot
is open. -/
def mergeReady (s : State) : Bool := s.sched.rendering && s.sched.ruleDone && !s.sched.mergeDone && nibRests s

/-- R116: the merge of one interval: a held pair first, then the queue. -/
def mergeNow (s : State) : State :=
  if mergeReady s then
    let s := flushXp true s
    let s := { s with sched := { s.sched with mergeDone := true } }
    match s.scene.held with
    | some (o, out, t, v) =>
      let j := judgePair o out t v s
      if j.1 then j.2 else mergeLoop 8000 none (setHeld none j.2)
    | none => mergeLoop 8000 none s
  else s

/-- R28: the last cycle of the merge slot. -/
def mergeDeadline (s : State) : Nat := s.slot 375999 315999

/-- R28, R116: the merge within its slot. -/
def doMerge (s : State) : State :=
  if decide (s.sched.cycle ≤ mergeDeadline s) && mergeReady s then mergeNow (s.reach (s.slot 360000 300000)) else s

/-- RULING_PASS (R83 to R114): the pass of the interval, ended at cycle `finish`. -/
def execRulingPass (finish : Nat) (s : State) : Host.Outcome State Fault Refusal := .next (doPass finish s)

/-- RULING_DEADLINE (R33): objects below `reached` have been recomputed. -/
def execRulingDeadline (reached : Nat) (s : State) : Host.Outcome State Fault Refusal := .next (doRuleDeadline reached s)

/-- OVERRIDE_MERGE (R115 to R117). -/
def execOverrideMerge (s : State) : Host.Outcome State Fault Refusal := .next (doMerge s)

end Sys2Proof.Machine
end

