-- ==== Sys2Proof/Machine/Nib.lean ====
section
/-! DEFINITION. The Nib array (R126 to R140, R145 to R148), its deadline (R35), and the sum tree with the output scaler (R29, R142
to R144, R152). -/

namespace Sys2Proof.Machine

/-- R56: taps of an interpolator code. -/
def tapsOf (code : Nat) : Nat := if code = 0 then 4 else if code = 1 then 8 else 16

/-- R130: β of a tap count. -/
def betaOf (taps : Nat) : Nat := if taps = 4 then 3 else if taps = 8 then 5 else 7

/-- R130, R131: c_T[p][t], with set 256 as phase 0 moved one tap later. -/
def coefAt (taps p t : Nat) : Int :=
  if p < 256 then Fx.tapCoef taps (betaOf taps) (256 * ((t : Int) - ((taps / 2 : Nat) : Int) + 1) - (p : Int))
  else if t = 0 then 0
  else Fx.tapCoef taps (betaOf taps) (256 * (((t - 1 : Nat) : Int) - ((taps / 2 : Nat) : Int) + 1))

/-- R131: a tap's coefficient for an 11-bit fraction. -/
def coefFor (taps f t : Nat) : Int :=
  let c := coefAt taps (f / 8) t
  c + fdiv ((coefAt taps (f / 8 + 1) t - c) * ((f % 8 : Nat) : Int)) 8

/-- R126: the history floor of an object. -/
def floorOf (s : State) (o : Nat) : Nat := Tab.get (fun _ => s.scene.floorAll) s.scene.floors o

/-- R126, R127, R129, R272: the history sample with MST `q` for a tile rendering block `j`; counts a BLOT or a tail tap. A read that
the bank refuses returns 0, which is no BLOT. -/
def hist (tile o j : Nat) (q : Int) (s : State) : Int × State :=
  let b := s.blockLen
  let w := winLen s.scene.wideN
  if q < ((floorOf s o * b : Nat) : Int) then (0, s)
  else if q + (w : Int) < (((j + 2) * b : Nat) : Int) then (0, s.count (Reg.NIB_TILE_TAIL_CNT tile) 1)
  else
    let r := readWord (histAddr s.scene.wideN o q.toNat) s
    if r.1.refused then (0, r.2)
    else if r.1.bad || bitOf r.1.val.toNat 7 then (0, r.2.count (Reg.NIB_TILE_BLOT_CNT tile) 1)
    else (sgn 24 (r.1.val.toNat / 256), r.2)

/-- R140: the tap sum from tap `taps − n` on. -/
def tapSum (tile o j taps f : Nat) (newest : Int) : Nat → Int → State → Int × State
  | 0, acc, s => (acc, s)
  | n + 1, acc, s =>
    let t := taps - (n + 1)
    let h := hist tile o j (newest - (t : Int)) s
    tapSum tile o j taps f newest n (acc + h.1 * coefFor taps f t) h.2

/-- R140: one sample of a crosspoint. -/
def xpSample (tile o j m dly g taps : Nat) (pol : Bool) (s : State) : Int × State :=
  let r := tapSum tile o j taps (dly % 2048) ((m : Int) - ((dly / 2048 : Nat) : Int) - 1) taps 0 s
  let v := fdiv (r.1 * (g : Int)) (2 ^ 24)
  (if pol then -v else v, r.2)

/-- R142: the partial sums of a tile for an output. -/
def partOf (s : State) (tile out : Nat) : List Int := Tab.get (fun _ => []) s.scene.parts (tile * 1024 + out)

/-- Add a crosspoint's samples into a partial sum. -/
def addPart (tile out : Nat) (vs : List Int) (s : State) : State :=
  let old := partOf s tile out
  let new := if old.isEmpty then vs else List.zipWith (· + ·) old vs
  { s with scene := { s.scene with parts := Tab.put (fun _ => []) s.scene.parts (tile * 1024 + out) new } }

/-- R138 to R140: the B samples of a crosspoint from position `i` on. -/
def xpBlock (tile o j taps q n : Nat) (ramp : Bool) (org tgt : Rec) : Nat → State → List Int × State
  | 0, s => ([], s)
  | k + 1, s =>
    let b := s.blockLen
    let i := b - (k + 1)
    let dly := rampAt org.dly tgt.dly (q * b + i) (n * b) ramp
    let g := rampAt org.gain tgt.gain (q * b + i) (n * b) ramp
    let r := xpSample tile o j (j * b + i) dly g taps tgt.pol s
    let rest := xpBlock tile o j taps q n ramp org tgt k r.2
    (r.1 :: rest.1, rest.2)

/-- R136, R270: an active crosspoint of a tile in the block in render: target and origin; none if it is not rendered. -/
def activeXp (tile o out : Nat) (s : State) : Option (Rec × Rec) × State :=
  match slotOf s.variant s.scene.wideN (s.xp o).maskN o out with
  | none => (none, s)
  | some slot =>
    let sel := targetSet s.scene.wideN o s
    let t := readRec tile sel slot s
    match t.1 with
    | none => (none, t.2)
    | some tgt =>
      if !tgt.act then (none, t.2)
      else
        let g := readRec tile (1 - sel) slot t.2
        match g.1 with
        | none => (none, g.2)
        | some org => (some (tgt, originOf org tgt), g.2)

/-- R140 for one crosspoint; the Nat counts the crosspoints that may still be rendered. -/
def renderXp (tile : Nat) (ks : Nat × State) (oo : Nat × Nat) : Nat × State :=
  if ks.1 = 0 then ks
  else
    let s := ks.2
    let a := activeXp tile oo.1 oo.2 s
    match a.1 with
    | none => (ks.1, a.2)
    | some (tgt, org) =>
      let s := a.2
      let j := s.bn - 2
      let xp := s.xp oo.1
      let stuck := s.scene.stuck.contains oo.1
      let q := if stuck then xp.nibLen else j - xp.nibStart
      let taps := tapsOf (Tab.get (fun _ => 1) s.scene.tapsN oo.1)
      let r := xpBlock tile oo.1 j taps q xp.nibLen (s.bget (Reg.NIB_TILE_CTL tile) 0) org tgt s.blockLen s
      let s := addPart tile oo.2 r.1 r.2
      let n := Tab.get (fun _ => 0) s.scene.tileXp tile
      (ks.1 - 1, { s with scene := { s.scene with tileXp := Tab.put (fun _ => 0) s.scene.tileXp tile (n + 1) } })

/-- The crosspoints of a tile in an output group, by object and output. -/
def groupXps (s : State) (tile g : Nat) : List (Nat × Nat) :=
  let per := perBank s.scene.wideN
  (List.range per).flatMap (fun l => (List.range 128).map (fun k => (tile * per + l, 128 * g + k)))

/-- R29: groups a tile has finished. -/
def tileDone (s : State) (tile : Nat) : Nat := Tab.get (fun _ => 0) s.scene.tileDone tile

/-- R29, R134: a tile has finished `n` groups. -/
def setTileDone (tile n : Nat) (s : State) : State :=
  flushXp false { s with scene := { s.scene with tileDone := Tab.put (fun _ => 0) s.scene.tileDone tile n } }

/-- R28: the last cycle of the Nib array's slot. -/
def nibDeadline (s : State) : Nat := s.slot 335999 299999

/-- R140: tile `tile` renders output group `g`, finishing at cycle `finish`; a tile with no crosspoint to render has no work to
report (R47, R153). -/
def doNibGroup (tile g finish : Nat) (s : State) : State :=
  if s.sched.rendering && !s.sched.nibClosed && decide (tile < capTiles s.variant) && decide (g < 8) && tileDone s tile == g
      && decide (256 ≤ finish) && decide (finish ≤ nibDeadline s) && decide (s.sched.cycle ≤ nibDeadline s) then
    let s := s.reach 256
    let s := ((groupXps s tile g).foldl (renderXp tile) (1000000, s)).2
    let s := setTileDone tile (g + 1) s
    if g = 7 && Tab.get (fun _ => 0) s.scene.tileXp tile ≠ 0 then
      { s with scene := { s.scene with tileFin := Tab.put (fun _ => 0) s.scene.tileFin tile (finish / 16) }
               sched := { s.sched with finNib := Nat.max s.sched.finNib (finish / 16) } }
    else s
  else s

/-- R35: a tile that has not finished stops, with `k` crosspoints of its current group rendered. -/
def stopTile (part : List (Nat × Nat)) (s : State) (tile : Nat) : State :=
  let g := tileDone s tile
  if 8 ≤ g then s
  else
    let k := (Tab.find part tile).getD 0
    let s := ((groupXps s tile g).foldl (renderXp tile) (k, s)).2
    { s with scene := { s.scene with tileFin := Tab.put (fun _ => 0) s.scene.tileFin tile (nibDeadline s / 16) } }

/-- R35, R134: the Nib deadline: unfinished tiles stop, and every slot opens. -/
def doNibDeadline (part : List (Nat × Nat)) (s : State) : State :=
  if s.sched.rendering && !s.sched.nibClosed then
    let s := s.reach (nibDeadline s)
    let tiles := List.range (capTiles s.variant)
    let late := tiles.any (fun t => decide (tileDone s t < 8))
    let s := tiles.foldl (stopTile part) s
    let s := flushXp true { s with sched := { s.sched with nibClosed := true } }
    if late then setOverrun 2 { s with sched := { s.sched with finNib := nibDeadline s / 16 } } else s
  else s

/-- R152: the block in render is muted by a partition switch. -/
def partMuted (s : State) : Bool := s.scene.mutes.any (fun m => decide (m.1 ≤ s.bn - 2) && decide (s.bn - 2 < m.2))

/-- R142: the sum of every present tile's partial sum. -/
def treeSum (s : State) (out : Nat) : List Int :=
  (List.range (capTiles s.variant)).foldl (fun acc t =>
    let p := partOf s t out
    if p.isEmpty then acc else List.zipWith (· + ·) acc p) (List.replicate s.blockLen 0)

/-- R143: the scaled, unsaturated samples of an output. -/
def scaled (s : State) (out : Nat) : List Int :=
  if partMuted s then List.replicate s.blockLen 0
  else (treeSum s out).map (fun v => fdiv v (2 ^ (10 + s.fget Reg.NIB_OUT_SHIFT 4 0)))

/-- R143, R144: one output's samples y; saturated samples are counted, and the first output that saturates is recorded. -/
def reduceOut (s : State) (out : Nat) : State :=
  let v := scaled s out
  let y := v.map (satS 24)
  let n := ((List.zip v y).filter (fun p => p.1 != p.2)).length
  let s := { s with scene := { s.scene with ys := Tab.put (fun _ => []) s.scene.ys out y } }
  if n = 0 then s
  else
    let s := s.count Reg.NIB_SAT_CNT n
    match s.scene.satOut with
    | some _ => s
    | none => fire 0x0C out { s with scene := { s.scene with satOut := some out } }

/-- R29: the next output group is reduced once every present tile has finished it, or has stopped. -/
def reduceGroup (g : Nat) (s : State) : State :=
  let ready := s.sched.nibClosed || (List.range (capTiles s.variant)).all (fun t => decide (g < tileDone s t))
  if s.sched.rendering && decide (g < 8) && s.scene.sumDone == g && ready then
    let outs := ((List.range 128).map (fun k => 128 * g + k)).filter (fun o => decide (o < capOuts s.variant))
    let s := outs.foldl reduceOut s
    { s with scene := { s.scene with sumDone := g + 1 } }
  else s

/-- R28: the last cycle of the sum tree's slot. -/
def treeDeadline (s : State) : Nat := s.slot 343999 305999

/-- R28, R29: a group is reduced within the sum tree's slot. -/
def doReduce (g : Nat) (s : State) : State := if s.sched.cycle ≤ treeDeadline s then reduceGroup g s else s

/-- R147: a mismatch of the self-test of a tile. A pass that fails both checks is one failed pass, of the kind of the signature
(DESIGN CHOICE, log entry 145: the spec does not say which kind is recorded). -/
def bistFail (tile lane kind : Nat) (s : State) : State :=
  let s := s.count (Reg.NIB_TILE_BIST_FAIL_CNT tile) 1
  let a := Reg.NIB_TILE_BIST_STATUS tile
  let s := if s.bget a 31 then s else ((s.bset a 31 true).fset a 9 8 kind).fset a 4 0 lane
  if s.scene.bistBlock.contains tile then s
  else fire 0x0D tile { s with scene := { s.scene with bistBlock := insNat s.scene.bistBlock tile } }

/-- R136: the crosspoint's record in use is active, read without the counts of a bank port. -/
def xpLeft (tile o out : Nat) (s : State) : Bool := (activeXp tile o out s).1.isSome

/-- R29: the active crosspoints of the block that a tile has not rendered. -/
def tileLeft (s : State) (tile : Nat) : Nat :=
  ((((List.range 8).filter (fun g => decide (tileDone s tile ≤ g))).flatMap (groupXps s tile)).filter (fun oo => xpLeft tile oo.1 oo.2 s)).length

/-- R31, R146: lane `lane` has no crosspoint of the block left: the crosspoints left stand on the lowest lanes (R145 names no order of
the lanes; DESIGN CHOICE, log entry 178). -/
def laneIdle (s : State) (tile lane : Nat) : Bool := decide (tileLeft s tile ≤ lane)

/-- R31, R146, R147: a completed self-test pass of an idle lane, before the Nib deadline. While render is halted there is no block
and no deadline, and a pass is not counted (R146 is silent; DESIGN CHOICE, log entry 178). -/
def doBist (tile lane : Nat) (sigOk crcOk : Bool) (s : State) : State :=
  if s.sched.rendering && !s.sched.nibClosed && decide (s.sched.cycle ≤ nibDeadline s) && decide (tile < capTiles s.variant)
      && decide (lane < 32) && s.bget (Reg.NIB_TILE_CTL tile) 8 && laneIdle s tile lane then
    let n := Tab.get (fun _ => 0) s.scene.bistN tile + 1
    let s := { s with scene := { s.scene with bistN := Tab.put (fun _ => 0) s.scene.bistN tile n } }
    let s := s.count (Reg.NIB_TILE_BIST_PASS_CNT tile) 1
    if !sigOk then bistFail tile lane 1 s
    else if n % 4096 = 0 && !crcOk then bistFail tile lane 2 s
    else s
  else s

/-- NIB_GROUP_RENDER (R20, R23, R29, R138 to R141): one tile renders its next output group. -/
def execNibGroupRender (tile g finish : Nat) (s : State) : Host.Outcome State Fault Refusal := .next (doNibGroup tile g finish s)

/-- NIB_DEADLINE (R35): `part` gives the crosspoints each stopped tile had rendered of its current group. -/
def execNibDeadline (part : List (Nat × Nat)) (s : State) : Host.Outcome State Fault Refusal := .next (doNibDeadline part s)

/-- SUM_TREE_REDUCE (R29, R142 to R144, R152). -/
def execSumTreeReduce (g : Nat) (s : State) : Host.Outcome State Fault Refusal := .next (doReduce g s)

/-- NIB_BIST_PASS (R31, R146, R147): the signature and, every 4,096th pass, the table CRC as found. -/
def execNibBistPass (tile lane : Nat) (sigOk crcOk : Bool) (s : State) : Host.Outcome State Fault Refusal :=
  .next (doBist tile lane sigOk crcOk s)

end Sys2Proof.Machine
end

