-- ==== Sys2Proof/Machine/Rcc.lean ====
section
/-! DEFINITION. Room correction (R163 to R172, R590): the transform, the delay lines and slots in the RCC banks, and the
convolution of one output's block. -/

namespace Sys2Proof.Machine

/-- A complex value as (re, im). -/
abbrev Cpx := Int × Int

/-- R168: the index with its `k` bits reversed. -/
def bitRev : Nat → Nat → Nat
  | 0, _ => 0
  | k + 1, i => i % 2 * 2 ^ k + bitRev k (i / 2)

/-- R168: one stage of span `h`, entry by entry. -/
def fftStage (n h : Nat) (fwd : Bool) (xs : List Cpx) : List Cpx :=
  let pair (u : Nat) : Cpx × Cpx :=
    let t := Fx.twiddle (u % h * n / (2 * h)) n
    let wr := t.1
    let wi := if fwd then t.2 else -t.2
    let x := nth (0, 0) xs (u + h)
    (nth (0, 0) xs u, (fdiv (x.1 * wr - x.2 * wi) (2 ^ 17), fdiv (x.1 * wi + x.2 * wr) (2 ^ 17)))
  let halve (z : Cpx) : Cpx := if fwd then (fdiv z.1 2, fdiv z.2 2) else z
  (List.range n).map (fun i =>
    if i / h % 2 = 0 then let p := pair i; halve (p.1.1 + p.2.1, p.1.2 + p.2.2)
    else let p := pair (i - h); halve (p.1.1 - p.2.1, p.1.2 - p.2.2))

/-- R168: the stages of span 1, 2, 4 …. -/
def fftStages (n : Nat) (fwd : Bool) : Nat → Nat → List Cpx → List Cpx
  | 0, _, xs => xs
  | k + 1, h, xs => fftStages n fwd k (2 * h) (fftStage n h fwd xs)

/-- R168: the transform of n = 2^k entries; all-zero input gives all zeros at once. -/
def fft (k : Nat) (fwd : Bool) (xs : List Cpx) : List Cpx :=
  if xs.all (fun z => z.1 == 0 && z.2 == 0) then xs
  else fftStages (2 ^ k) fwd k 1 ((List.range (2 ^ k)).map (fun i => nth (0, 0) xs (bitRev k i)))

/-- R163: the largest PARTS, the bins K, the slot size and the delay-line size. -/
def partsMax (is48 : Bool) : Nat := if is48 then 256 else 128
/-- R163. -/
def binsK (is48 : Bool) : Nat := if is48 then 17 else 33
/-- R163. -/
def slotSize (is48 : Bool) : Nat := if is48 then 17664 else 17024
/-- R163. -/
def lineSize (is48 : Bool) : Nat := if is48 then 34816 else 33792

/-- R590: the first byte of the RCC banks. -/
def rccBase : Nat := 0x104000000

/-- R8: the output has room correction. -/
def hasRcc (s : State) (out : Nat) : Bool := decide (out < capRcc s.variant)

/-- R164: slot `p`. -/
def State.slotSt (s : State) (p : Nat) : RccSlot := Tab.get (fun _ => RccSlot.reset) s.out.slots p

/-- Replace slot `p`, with its register (R187); while the slot is LOADING, PARTS is that of the image on its way (DESIGN CHOICE, log
entry 151). -/
def setSlot (p : Nat) (x : RccSlot) (s : State) : State :=
  { s with out := { s.out with slots := Tab.put (fun _ => RccSlot.reset) s.out.slots p x } }.wr (Reg.RCC_SLOT p)
    (x.st * 2 ^ 30 + (if x.st = 0 then 0 else x.parts))

/-- R171: a failing word: counted, and the event once for each block, with the lowest output. -/
def rccFail (out : Nat) (s : State) : State :=
  let s := s.count Reg.RCC_PARITY_CNT 1
  match s.out.rccParity with
  | some _ => s
  | none => fire 0x13 out { s with out := { s.out with rccParity := some out } }

/-- R171, R272: a word of the RCC banks read for `out`; none if it fails its check, which counts, or its bank refuses it. -/
def rccWord (out off : Nat) (s : State) : Option Word × State :=
  let r := readWord (rccBase + off) s
  if r.1.refused then (none, r.2) else if r.1.bad then (none, rccFail out r.2) else (some r.1.val, r.2)

/-- R590: byte offset of bin `k` of frame `r` of an output's delay line. -/
def lineOff (is48 : Bool) (out r k : Nat) : Nat := 256 * slotSize is48 + out * lineSize is48 + 8 * (binsK is48 * r + k)

/-- R167, R168: store the spectrum of block `j` in its frame. -/
def storeSpectrum (out j : Nat) (bins : List Cpx) (s : State) : State :=
  let is48 := s.is48
  let r := j % partsMax is48
  ((List.range (binsK is48)).zip bins).foldl (fun s kb =>
    let a := rccBase + lineOff is48 out r kb.1
    storeWord (a + 4) (intW kb.2.2) false (storeWord a (intW kb.2.1) false s)) s

/-- R168: the spectrum of x2 with the block before it. -/
def spectrum (s : State) (prev x2 : List Int) : List Cpx :=
  let b := s.blockLen
  let pad (xs : List Int) : List Int := (List.range b).map (fun i => nth 0 xs i)
  let k := if s.is48 then 5 else 6
  let y := fft k true ((pad prev ++ pad x2).map (fun v => (v * 256, 0)))
  (y.take (b + 1)).map (fun z => (satS 32 z.1, satS 32 z.2))

/-- R168: floor(x · 2^e). -/
def scaleFloor (x : Int) (e : Int) : Int := if 0 ≤ e then x * ((2 ^ e.toNat : Nat) : Int) else fdiv x (2 ^ (-e).toNat)

/-- R167, R171: bin `k` of the spectrum of block `j − p`, a failing half of it 0; a frame from before render start is all zeros. -/
def lineBin (out j p k : Nat) (s : State) : Cpx × State :=
  if j < s.out.ringFloor + p then ((0, 0), s)
  else
    let a := lineOff s.is48 out ((j - p) % partsMax s.is48) k
    let re := rccWord out a s
    let im := rccWord out (a + 4) re.2
    (((re.1.getD 0).toInt, (im.1.getD 0).toInt), im.2)

/-- R168: the term of partition `p` at bin `k`. -/
def rccTerm (out j prof p k : Nat) (e : Int) (s : State) : Cpx × State :=
  let is48 := s.is48
  let c := rccWord out (prof * slotSize is48 + partsMax is48 + 4 * (p * binsK is48 + k)) s
  let f := lineBin out j p k c.2
  let w := (c.1.getD 0).toNat
  let hr := sgn 16 w
  let hi := if k = 0 ∨ k + 1 = binsK is48 then 0 else sgn 16 (w / 2 ^ 16)
  ((scaleFloor (f.1.1 * hr - f.1.2 * hi) (e - 14), scaleFloor (f.1.1 * hi + f.1.2 * hr) (e - 14)), f.2)

/-- R168: add partition `p`'s terms to the accumulated bins; a failing exponent word leaves them as they are. -/
def rccPart (out j prof : Nat) (acc : List Cpx × State) (p : Nat) : List Cpx × State :=
  let is48 := acc.2.is48
  let off := prof * slotSize is48 + p
  let e := rccWord out (off / 4 * 4) acc.2
  match e.1 with
  | none => (acc.1, e.2)
  | some w =>
    let ex := sgn 8 (w.toNat / 2 ^ (8 * (off % 4)))
    ((List.range (binsK is48)).zip acc.1).foldl (fun a kb =>
      let t := rccTerm out j prof p kb.1 ex a.2
      (a.1 ++ [(kb.2.1 + t.1.1, kb.2.2 + t.1.2)], t.2)) ([], e.2)

/-- R168: x3 of an output for a LOADED slot, and its complex MACs (R172). -/
def convolve (out j prof : Nat) (s : State) : List Int × State :=
  let b := s.blockLen
  let parts := (s.slotSt prof).parts
  let zeros : List Cpx := List.replicate (b + 1) (0, 0)
  let r := (List.range parts).foldl (rccPart out j prof) (zeros, s)
  let s := { r.2 with out := { r.2.out with macs := r.2.out.macs + parts * binsK s.is48 } }
  let y := r.1
  let bin (k : Nat) : Cpx :=
    let z := nth (0, 0) y k
    if k = 0 ∨ k = b then (z.1, 0) else z
  let full := (List.range (2 * b)).map (fun i => if i ≤ b then bin i else let z := bin (2 * b - i); (z.1, -z.2))
  let t := fft (if s.is48 then 5 else 6) false full
  ((List.range b).map (fun i => satS 24 (fdiv (nth (0, 0) t (b + i)).1 256)), s)

/-- R169: what one slot gives for a block x2. -/
def slotBlock (out j prof : Nat) (x2 : List Int) (s : State) : List Int × State :=
  if (s.slotSt prof).st = 2 then convolve out j prof s else (x2, s)

/-- R162, R170: the crossfade of two blocks. -/
def crossfade (b : Nat) (xs ys : List Int) : List Int :=
  (List.range b).map (fun i => nth 0 xs i + fdiv ((nth 0 ys i - nth 0 xs i) * ((i + 1 : Nat) : Int)) b)

/-- R167 to R170: room correction of one output's block. -/
def rccBlock (out j prof old : Nat) (prev x2 : List Int) (s : State) : List Int × State :=
  if hasRcc s out then
    let s := storeSpectrum out j (spectrum s prev x2) s
    let new := slotBlock out j prof x2 s
    if prof = old then new
    else
      let was := slotBlock out j old x2 new.2
      let s := was.2.count Reg.RCC_SWAP_CNT 1
      (crossfade s.blockLen was.1 new.1, { s with out := { s.out with xfades := s.out.xfades + 1 } })
  else (x2, s)

end Sys2Proof.Machine
end

