-- ==== Sys2Proof/Machine/Output.lean ====
section
/-! DEFINITION. The output stage (R155 to R162, R173 to R182, R185), its deadline (R36), the limiter update and render start. -/

namespace Sys2Proof.Machine

/-- Output `n`'s state. -/
def State.outSt (s : State) (n : Nat) : OutSt := Tab.get (fun _ => OutSt.reset) s.out.outs n

/-- Replace it. -/
def State.setOut (s : State) (n : Nat) (x : OutSt) : State :=
  { s with out := { s.out with outs := Tab.put (fun _ => OutSt.reset) s.out.outs n x } }

/-- Limiter zone `z`. -/
def State.limZone (s : State) (z : Nat) : LimZone := Tab.get (fun _ => LimZone.reset) s.out.zones z

/-- Replace it. -/
def State.setLim (s : State) (z : Nat) (x : LimZone) : State :=
  { s with out := { s.out with zones := Tab.put (fun _ => LimZone.reset) s.out.zones z x } }

/-- R157: the ramp at position `i`. -/
def rampPos (old new i b : Nat) : Int :=
  if b ≤ i + 1 then (new : Int) else (old : Int) + ((i + 1 : Nat) : Int) * fdiv ((new : Int) - (old : Int)) b

/-- R158: address of the ring word of the sample with MST `q`. -/
def ringAddr (s : State) (out q : Nat) : Nat := s.out.ringBase + out * 0x100000 + 4 * (q % 262144)

/-- R22: a sample as a word. -/
def sampleWord (x : Int) : Word := intW (x * 256)

/-- R158: write the samples of a block into an output's ring. -/
def ringWrite (out m : Nat) : List Int → State → State
  | [], s => s
  | x :: xs, s => ringWrite out (m + 1) xs (dramStore 0 out (ringAddr s out m) (sampleWord x) false s)

/-- R159 to R161: the sample with MST `q`, `m0` and `own` being the block's own start and samples. -/
def ringRead (out m0 : Nat) (own : List Int) (q : Int) (s : State) : Int × State :=
  if q < ((s.out.ringFloor * s.blockLen : Nat) : Int) then (0, s)
  else if (m0 : Int) ≤ q then (nth 0 own (q.toNat - m0), s)
  else
    let r := dramRead 0 (ringAddr s out q.toNat) s
    if !r.1.served then (0, r.2.count Reg.OUT_RING_LATE_CNT 1)
    else if r.1.poisoned then (0, r.2.count Reg.OUT_RING_BLOT_CNT 1)
    else (sgn 24 (r.1.val.toNat / 256), r.2)

/-- R159 to R161: one tap over a block: `n` positions remain. -/
def ringBlock (out m0 bulk : Nat) (own : List Int) : Nat → State → List Int × State
  | 0, s => ([], s)
  | n + 1, s =>
    let i := s.blockLen - (n + 1)
    let r := ringRead out m0 own (((m0 + i : Nat) : Int) - (bulk : Int)) s
    let rest := ringBlock out m0 bulk own n r.2
    (r.1 :: rest.1, rest.2)

/-- R179: fm toward the target by one step. -/
def stepFade (o : OutSt) : OutSt :=
  if o.fadeLeft = 0 then o
  else if o.fadeLeft = 1 then { o with fm := o.target, fadeLeft := 0 }
  else if o.fm < o.target then { o with fm := Nat.min (o.fm + o.fadeStep) 65536, fadeLeft := o.fadeLeft - 1 }
  else if o.target < o.fm then { o with fm := o.fm - o.fadeStep, fadeLeft := o.fadeLeft - 1 }
  else { o with fadeLeft := o.fadeLeft - 1 }

/-- R179, R180: fm at the samples of a block, and the output after them. -/
def fadeBlock : Nat → OutSt → List Nat × OutSt
  | 0, o => ([], o)
  | n + 1, o =>
    let o := stepFade o
    let rest := fadeBlock n o
    (o.fm :: rest.1, rest.2)

/-- R180: OUT_MUTE.FADING. -/
def noteFading (out : Nat) (s : State) : State :=
  s.bset (Reg.OUT_MUTE out) 16 ((s.outSt out).fm != (s.outSt out).target)

/-- R176: the zone's ceiling, and R174's BYPASS. -/
def zoneCeil (s : State) (z : Nat) : Nat := Fx.ceilingOf (s.fget (Reg.OUT_LIM_CTL z) 31 16)

/-- R258: address of an egress-buffer word. -/
def egressAddr (s : State) (j out i : Nat) : Nat := 0x107D80000 + 4 * (j % 2 * 32768 + out * s.blockLen + i)

/-- R22: write an output's block to the egress buffer. -/
def egressWrite (j out : Nat) (xs : List Int) (s : State) : State :=
  ((List.range s.blockLen).zip xs).foldl (fun s ix => storeWord (egressAddr s j out ix.1) (sampleWord ix.2) false s) s

/-- R173, R176: a zone's peak and clipped samples of an output's block. -/
def noteLevels (z : Nat) (x4 : List Int) (c : Nat) (s : State) : State :=
  let peak := x4.foldl (fun p x => Nat.max p x.natAbs) 0
  let n := (x4.filter (fun x => decide (c < x.natAbs))).length
  let l := s.limZone z
  let s := s.setLim z { l with peak := Nat.max l.peak peak }
  if n = 0 then s
  else
    let s := s.count Reg.OUT_CEIL_CNT n
    { s with out := { s.out with ceilZone := some (match s.out.ceilZone with | some y => Nat.min y z | none => z) } }

/-- R156: one output's block. -/
def processOut (s : State) (out : Nat) : State :=
  let b := s.blockLen
  let j := s.bn - 2
  let m := j * b
  let spk := s.spkO out
  let o := s.outSt out
  let y := Tab.get (fun _ => []) s.scene.ys out
  let g := spk.field 6 17 0
  let raw := (List.range b).map (fun i => fdiv (nth 0 y i * rampPos o.gainPrev g i b) 65536)
  let x1 := raw.map (satS 24)
  let s := s.count Reg.OUT_GAIN_SAT_CNT ((List.zip raw x1).filter (fun p => p.1 != p.2)).length
  let s := ringWrite out m x1 s
  let bulk := spk.field 5 17 0
  let new := ringBlock out m bulk x1 b s
  let x2 : List Int × State :=
    if bulk = o.bulkPrev then new
    else
      let was := ringBlock out m o.bulkPrev x1 b new.2
      (crossfade b was.1 new.1, was.2)
  let prof := spk.field 4 23 16
  let x3 := rccBlock out j prof o.profPrev o.x2prev x2.1 x2.2
  let s := x3.2
  let z := spk.field 4 13 8
  let l := s.limZone z
  let bypass := s.bget (Reg.OUT_LIM_CTL z) 0
  let x4 := (List.range b).map (fun i => fdiv (nth 0 x3.1 i * (if bypass then 65536 else rampPos l.lgPrev l.lgNew i b)) 65536)
  let c := zoneCeil s z
  let s := noteLevels z x4 c s
  let f := fadeBlock b o
  let x6 := (List.range b).map (fun i =>
    fdiv (Min.min (Max.max (nth 0 x4 i) (-(c : Int))) (c : Int) * ((nth 0 f.1 i : Nat) : Int)) 65536)
  let out6 := if s.bget Reg.OUT_CTL 0 then List.replicate b 0 else x6
  let s := s.setOut out { f.2 with gainPrev := g, bulkPrev := bulk, profPrev := prof, x2prev := x2.1 }
  noteFading out (egressWrite j out out6 s)

/-- R36, R162: an output that the deadline leaves unwritten: zeros egress and enter its ring, and its state moves on as though
the output had been silent. -/
def silentOut (s : State) (out : Nat) : State :=
  let b := s.blockLen
  let j := s.bn - 2
  let spk := s.spkO out
  let o := s.outSt out
  let zs : List Int := List.replicate b 0
  let s := ringWrite out (j * b) zs s
  let s := if hasRcc s out then storeSpectrum out j (spectrum s o.x2prev zs) s else s
  let f := fadeBlock b o
  let s := s.setOut out { f.2 with gainPrev := spk.field 6 17 0, bulkPrev := spk.field 5 17 0, profPrev := spk.field 4 23 16, x2prev := zs }
  noteFading out (egressWrite j out zs s)

/-- Present outputs of a group. -/
def groupOuts (s : State) (g : Nat) : List Nat :=
  ((List.range 128).map (fun k => 128 * g + k)).filter (fun o => decide (o < capOuts s.variant))

/-- R176: the block's events that name its lowest zone, once the block is finished. -/
def endOutBlock (s : State) : State :=
  match s.out.ceilZone with
  | some z => fire 0x12 z s
  | none => s

/-- R28: the last cycle of the output stage's slot. -/
def outDeadline (s : State) : Nat := s.slot 391999 324999

/-- R29, R156: the next output group, once the sum tree has reduced it, ended at cycle `finish`. -/
def doOutGroup (g finish : Nat) (s : State) : State :=
  if s.sched.rendering && !s.sched.outClosed && decide (g < 8) && s.out.done == g && decide (g < s.scene.sumDone)
      && decide (finish ≤ outDeadline s) && decide (s.sched.cycle ≤ outDeadline s) then
    let s := (groupOuts s g).foldl processOut (s.reach 256)
    let s := { s with out := { s.out with done := g + 1 } }
    if g = 7 then endOutBlock { s with sched := { s.sched with finOut := finish / 16, outClosed := true } } else s
  else s

/-- R36: the deadline, with groups not finished: the first `written` outputs of the group in hand have been processed and
written, if the sum tree has reduced it; the others egress as silence. -/
def doOutDeadline (written : Nat) (s : State) : State :=
  if s.sched.rendering && !s.sched.outClosed then
    let s := s.reach (outDeadline s)
    let left := ((List.range 8).filter (fun g => decide (s.out.done ≤ g))).flatMap (groupOuts s)
    let n := if s.out.done < s.scene.sumDone then Nat.min written ((groupOuts s s.out.done).length - 1) else 0
    let s := (left.take n).foldl processOut s
    let s := (left.drop n).foldl silentOut s
    let s := endOutBlock { s with sched := { s.sched with finOut := outDeadline s / 16, outClosed := true } }
    setOverrun 3 s
  else s

/-- R174, R175: one zone's update from the peak of the block before. -/
def limUpdate (guards : Nat) (s : State) (z : Nat) : State :=
  let l := s.limZone z
  let guard := bitOf guards z
  let thrW := s.rd (Reg.OUT_LIM_THR z)
  let thr := Max.max (sgn 16 thrW - ((b2n guard * getF thrW 31 16 : Nat) : Int)) (-24576) * 256
  let attack : Int := ((s.rd (Reg.OUT_LIM_ATTACK z) : Nat) : Int)
  let release : Int := ((s.rd (Reg.OUT_LIM_RELEASE z) : Nat) : Int)
  let bypass := s.bget (Reg.OUT_LIM_CTL z) 0
  let gr : Int :=
    if bypass then 0
    else if l.peak = 0 then Max.max ((l.gr : Int) - release) 0
    else
      let o := Fx.levelOf l.peak - thr
      if 0 < o then Min.min ((l.gr : Int) + Min.min o attack) 6291456 else Max.max ((l.gr : Int) - Min.min release (-o)) 0
  let s := s.setLim z ⟨gr.toNat, l.lgNew, Fx.gainOf gr.toNat, 0, guard⟩
  let s := s.wr (Reg.OUT_LIM_GR z) gr.toNat
  let s := s.wr (Reg.OUT_LIM_PEAK z) (b2n guard * 2 ^ 31 + l.peak)
  if guard != l.guardBit then fire 0x11 z s else s

/-- A 64-bit map of the zones that pass a test. -/
def zoneMap (p : Nat → Bool) : Nat := (List.range 64).foldl (fun a z => if p z then a + 2 ^ z else a) 0

/-- R174, R177, R178: cycle 0 of a render interval: maps of the block before, every zone's update, and OUT_LIMIT. -/
def limBoundary (s : State) : State :=
  let guards := s.rd64 Reg.COND_GUARD_LO
  let before := zoneMap (fun z => decide (0 < (s.limZone z).gr))
  let s := (s.wr64 Reg.OUT_LIMIT_MAP_LO before).wr64 Reg.OUT_GUARD_MAP_LO guards
  let s := (List.range 64).foldl (limUpdate guards) s
  match (List.range 64).find? (fun z => !bitOf before z && decide (0 < (s.limZone z).gr)) with
  | some z => fire 0x10 z s
  | none => s

/-- R159, R164, R175, R182: what the output stage does at a render start at block `x`. The remembered guard bits start at 0 (DESIGN
CHOICE, log entry 152). -/
def outStart (x : Nat) (s : State) : State :=
  let s := { s with out := { s.out with ringFloor := x, ringBase := s.rd64 Reg.OUT_RING_BASE_LO, zones := [] } }
  let s := (List.range (capOuts s.variant)).foldl (fun s o =>
    let s := s.setOut o { s.outSt o with fm := 0, target := 0, fadeStep := 0, fadeLeft := 0, x2prev := [] }
    (s.bset (Reg.OUT_MUTE o) 8 true).bset (Reg.OUT_MUTE o) 16 false) s
  let s := (List.range 64).foldl (fun s z => (s.wr (Reg.OUT_LIM_GR z) 0).wr (Reg.OUT_LIM_PEAK z) 0) s
  (List.range 256).foldl (fun s p => let y := s.slotSt p; if y.st = 2 && y.rate48 != s.is48 then setSlot p RccSlot.reset s else s) s

/-- R179, R180: a new fade target at epoch E, from the current fm. -/
def startFade (out : Nat) (mute : Bool) (blocks : Nat) (s : State) : State :=
  let o := s.outSt out
  let t := if mute then 0 else 65536
  if t = o.target then s
  else if blocks = 0 then noteFading out (s.setOut out { o with fm := t, target := t, fadeLeft := 0, fadeStep := 0 })
  else
    let n := blocks * s.blockLen
    noteFading out (s.setOut out { o with target := t, fadeStep := 65536 / n, fadeLeft := n })

/-- R270: an egress-buffer word as an egress unit takes it: 0 if it fails its check. -/
def egressRead (j out i : Nat) (s : State) : Word × State :=
  let r := readWord (egressAddr s j out i) s
  if r.1.bad || r.1.refused then (0, r.2) else (r.1.val, r.2)

/-- R185: one frame of a record tap. The words of outputs at or beyond GLB_CAP1.OUTPUTS are 0 (R185 is silent; DESIGN CHOICE, log
entry 179). -/
def tapFrame (t j i : Nat) (s : State) : State :=
  let len := s.rd (Reg.OUT_TAP_LEN t)
  let n := s.fget (Reg.OUT_TAP_CTL t) 22 16
  let first := s.fget (Reg.OUT_TAP_CTL t) 9 0
  let base := s.rd64 (Reg.OUT_TAP_BASE_LO t)
  let f := s.rd (Reg.OUT_TAP_WPTR t)
  let s := (List.range n).foldl (fun s c =>
    let w := if first + c < capOuts s.variant then egressRead j (first + c) i s else (0, s)
    dramStore 0 (1024 + t) (base + 4 * n * f + 4 * c) w.1 false w.2) s
  if f + 1 < len then s.wr (Reg.OUT_TAP_WPTR t) (f + 1)
  else (s.wr (Reg.OUT_TAP_WPTR t) 0).count (Reg.OUT_TAP_WRAP_CNT t) 1

/-- R185: the record taps take the block in egress. -/
def tapBlock (j : Nat) (s : State) : State :=
  (List.range 16).foldl (fun s t =>
    if s.bget (Reg.OUT_TAP_CTL t) 31 && s.rd (Reg.OUT_TAP_LEN t) ≠ 0 then
      (List.range s.blockLen).foldl (fun s i => tapFrame t j i s) s
    else s) s

/-- OUTPUT_GROUP_PROCESS (R20, R29, R30, R156): a group ended at cycle `finish`. -/
def execOutputGroupProcess (g finish : Nat) (s : State) : Host.Outcome State Fault Refusal := .next (doOutGroup g finish s)

/-- OUTPUT_STAGE_DEADLINE (R36): outputs of the group in hand that have been written. -/
def execOutputStageDeadline (s : State) (written : Nat := 0) : Host.Outcome State Fault Refusal := .next (doOutDeadline written s)

end Sys2Proof.Machine
end

