-- ==== Sys2Proof/Machine/Strm.lean ====
section
/-! DEFINITION. The stream engine (R346 to R364): matching and placement, finalisation, groups, entry life, transmit packets. -/

namespace Sys2Proof.Machine

/-- A receive stream beside its registers. -/
def State.srx (s : State) (n : Nat) : StrmRx := Tab.get (fun _ => StrmRx.reset) s.strm.rx n

/-- Replace it. -/
def State.setSrx (s : State) (n : Nat) (x : StrmRx) : State :=
  { s with strm := { s.strm with rx := Tab.put (fun _ => StrmRx.reset) s.strm.rx n x } }

/-- A transmit stream beside its registers. -/
def State.stx (s : State) (n : Nat) : StrmTx := Tab.get (fun _ => StrmTx.reset) s.strm.tx n

/-- Replace it. -/
def State.setStx (s : State) (n : Nat) (x : StrmTx) : State :=
  { s with strm := { s.strm with tx := Tab.put (fun _ => StrmTx.reset) s.strm.tx n x } }

/-- R367: the receive entry is live. -/
def rxLive (s : State) (n : Nat) : Bool := s.bget (Reg.STRM_RX_STATUS n) 31

/-- The transmit entry is live. -/
def txLive (s : State) (n : Nat) : Bool := s.bget (Reg.STRM_TX_STATUS n) 31

/-- R366 fields. -/
def rxChannels (s : State) (n : Nat) : Nat := s.fget (Reg.STRM_RX_CTL n) 6 0
/-- R358. -/
def rxSpill (s : State) (n : Nat) : Bool := s.bget (Reg.STRM_RX_CTL n) 26
/-- R357. -/
def rxGroup (s : State) (n : Nat) : Nat := s.fget (Reg.STRM_RX_CTL n) 25 20
/-- R350: NB. -/
def rxBlocks (s : State) (n : Nat) : Nat := s.fget (Reg.STRM_RX_WIN n) 27 16

/-- Fabric address of a Commons word. -/
def commonsAddr (w : Nat) : Nat := 0x107800000 + 4 * w

/-- R351: Commons word of frame `q`, channel `c`, in a ring of `nb` blocks. -/
def frameWord (s : State) (n nb q c : Nat) : Nat :=
  s.fget (Reg.STRM_RX_BUF n) 20 0 + q % (nb * s.blockLen) * rxChannels s n + c

/-- R358: DRAM address of a word of a spill ring. -/
def spillAddr (s : State) (n q c : Nat) : Nat :=
  s.strm.spillBase + 4096 * s.fget (Reg.STRM_RX_SPILL n) 23 0 + 4 * (q % (rxBlocks s n * s.blockLen) * rxChannels s n + c)

/-- R351, R358: a word of a stream's ring; a poisoned DRAM word is taken as PRESENT = 0. -/
def ringGet (n q c : Nat) (s : State) : Nat × State :=
  if rxSpill s n then
    let r := dramRead 1 (spillAddr s n q c) s
    (if r.1.poisoned || !r.1.served then 0 else r.1.val.toNat, r.2)
  else
    let r := readWord (commonsAddr (frameWord s n (rxBlocks s n) q c)) s
    (r.1.val.toNat, r.2)

/-- R351, R358: write a word of a stream's ring. -/
def ringPut (n q c v : Nat) (s : State) : State :=
  if rxSpill s n then dramStore 1 n (spillAddr s n q c) (toW v) false s
  else storeWord (commonsAddr (frameWord s n (rxBlocks s n) q c)) (toW v) false s

/-- R358: the finalised word goes to the stage of two blocks, or back to the ring. -/
def finalPut (n q c v : Nat) (s : State) : State :=
  if rxSpill s n then storeWord (commonsAddr (frameWord s n 2 q c)) (toW v) false s else ringPut n q c v s

/-- The value congruent to `x` modulo 2³² that lies nearest to `ref`, a tie going to the later value (R349). -/
def nearest32 (x ref : Int) : Int :=
  let d := (x - ref) % 4294967296
  if d ≤ 2147483648 then ref + d else ref + d - 4294967296

/-- R349: the least m with t(m) ≥ P. -/
def mstAtLeast (fs : Nat) (o p : Int) : Int := -(fdiv (-((16 * p - o) * (fs : Int))) (16 * 10 ^ 9))

/-- R349: K. -/
def rtpK (s : State) : Int := fdiv (s.time.o * (s.fs : Int)) (16 * 10 ^ 9)

/-- An audio packet taken apart: kind (0 AAF, 2 RTP), whether its headers are as R346 has them, stream key, sequence number,
timestamp, format code, channels, payload type and payload. -/
structure AudioPkt where
  rtp : Bool
  ok : Bool
  key : Nat
  port : Nat
  seq : Nat
  ts : Nat
  fmt : Nat
  chans : Nat
  pt : Nat
  payload : List Byte
  deriving DecidableEq, Repr

/-- R346: EtherType and what follows it, one VLAN tag at most. -/
def etherOf (f : List Byte) : Nat × List Byte :=
  if beNat (slice f 12 2) = 0x8100 then (beNat (slice f 16 2), f.drop 18) else (beNat (slice f 12 2), f.drop 14)

/-- R346: an AAF stream data unit (IEEE 1722 layout, log entry 12). -/
def parseAaf (is48 : Bool) (b : List Byte) : AudioPkt :=
  let w1 := beNat (slice b 1 1)
  let w17 := beNat (slice b 17 2)
  let len := beNat (slice b 20 2)
  { rtp := false
    ok := beNat (slice b 0 1) == 2 && bitOf w1 7 && getF w1 6 4 == 0 && bitOf w1 0 && !bitOf (beNat (slice b 22 1)) 4
      && getF w17 15 12 == (if is48 then 5 else 7) && decide (24 + len ≤ b.length)
    key := beNat (slice b 4 8), port := 0, seq := beNat (slice b 2 1), ts := beNat (slice b 12 4)
    fmt := beNat (slice b 16 1), chans := getF w17 9 0, pt := 0, payload := slice b 24 len }

/-- R348: the one's-complement sum of a list of bytes taken as 16-bit words. -/
def sum16 : List Byte → Nat
  | [] => 0
  | [b] => b.toNat * 256
  | b :: c :: bs => b.toNat * 256 + c.toNat + sum16 bs

/-- R348: a nonzero UDP checksum holds over the pseudo header and the datagram. -/
def udpOk (ip udp : List Byte) : Bool :=
  beNat (slice udp 6 2) == 0 || (sum16 (slice ip 12 8) + 17 + udp.length + sum16 udp) % 65535 == 0

/-- R346: an RTP packet over UDP and IPv4; none if the frame is no UDP datagram. -/
def parseRtp (ip : List Byte) : Option AudioPkt :=
  let ihl := beNat (slice ip 0 1) % 16 * 4
  let total := beNat (slice ip 2 2)
  let frag := beNat (slice ip 6 2) % 16384
  let udp := slice ip ihl (total - ihl)
  let ulen := beNat (slice udp 4 2)
  let r := slice udp 8 (ulen - 8)
  let b0 := beNat (slice r 0 1)
  let cc := b0 % 16
  let ext := if bitOf b0 4 then 4 + 4 * beNat (slice r (12 + 4 * cc + 2) 2) else 0
  let pad := if bitOf b0 5 then beNat (r.drop (r.length - 1)) else 0
  let hdr := 12 + 4 * cc + ext
  if beNat (slice ip 0 1) / 16 ≠ 4 || beNat (slice ip 9 1) ≠ 17 || frag % 8192 ≠ 0 || decide (8192 ≤ frag) then none
  else some
    { rtp := true, ok := b0 / 64 == 2 && decide (hdr + pad ≤ r.length) && decide (ulen ≤ udp.length) && udpOk ip (udp.take ulen)
      key := beNat (slice ip 16 4), port := beNat (slice udp 2 2), seq := beNat (slice r 2 2), ts := beNat (slice r 4 4)
      fmt := 2, chans := 0, pt := beNat (slice r 1 1) % 128, payload := slice r hdr (r.length - hdr - pad) }

/-- R346: the audio packet of a frame (without FCS), if it is one. -/
def parseAudio (is48 : Bool) (f : List Byte) : Option AudioPkt :=
  let e := etherOf f
  if e.1 = 0x22F0 then some (parseAaf is48 e.2) else if e.1 = 0x0800 then parseRtp e.2 else none

/-- R348: the path (false: primary) on which a packet matches an entry. -/
def matchEntry (s : State) (port : Nat) (k : AudioPkt) (n : Nat) : Option Bool :=
  let c := s.rd (Reg.STRM_RX_CTL n)
  let idHi := s.rd (Reg.STRM_RX_ID_HI n)
  let idLo := s.rd (Reg.STRM_RX_ID_LO n)
  let pri := port == getF c 19 16
  let sec := port == getF c 15 12 && bitOf c 27
  if !rxLive s n || (getF c 29 28 == 2) != k.rtp then none
  else if k.rtp then
    if k.port ≠ idHi % 65536 then none
    else if pri && k.key == idLo then some false
    else if sec && k.key == s.rd (Reg.STRM_RX_SEC_IP n) then some true
    else none
  else if k.key ≠ idHi * 2 ^ 32 + idLo then none
  else if pri then some false
  else if sec then some true
  else none

/-- R348: the lowest-numbered entry that takes the packet, with its path. -/
def matchStream (s : State) (port : Nat) (k : AudioPkt) : Nat → Nat → Option (Nat × Bool)
  | 0, _ => none
  | f + 1, n => match matchEntry s port k n with
    | some p => some (n, p)
    | none => matchStream s port k f (n + 1)

/-- R347: bytes of a sample on the wire. -/
def sampleBytes (fmt : Nat) : Nat := if fmt = 1 then 4 else 3

/-- R347: the channel samples of one frame, as 24-bit numbers. -/
def frameSamples (fmt ch : Nat) (b : List Byte) : List Nat :=
  (List.range ch).map (fun c => beNat (slice b (c * sampleBytes fmt) 3))

/-- R353: PRI_OK or SEC_OK changes, with its event. -/
def setPathOk (n : Nat) (sec v : Bool) (s : State) : State :=
  let b := if sec then 28 else 29
  if s.bget (Reg.STRM_RX_STATUS n) b = v then s else fire 0x29 n (s.bset (Reg.STRM_RX_STATUS n) b v)

/-- The words of a frame in a stream's ring, by channel. -/
def frameWords (n q ch : Nat) (s : State) : List Nat × State :=
  (List.range ch).foldl (fun (a : List Nat × State) c =>
    let w := ringGet n q c a.2
    (a.1 ++ [w.1], w.2)) ([], s)

/-- R354: a frame is present if its PRESENT bits are 1. -/
def wordsPresent (ws : List Nat) : Bool := ws.all (fun w => bitOf w 0)

/-- R350 to R352: place the frames of a packet, the first with MST `q`. -/
def placeFrames (n fmt ch : Nat) : Nat → Int → List Byte → State → State
  | 0, _, _, s => s
  | k + 1, q, b, s =>
    let step := ch * sampleBytes fmt
    let blk := fdiv q s.blockLen
    let i : Int := s.bn
    let nb : Int := rxBlocks s n
    let s :=
      if blk ≤ i || (s.srx n).clearing then s.count (Reg.STRM_RX_LATE_CNT n) 1
      else if i + nb - 2 ≤ blk then s.count (Reg.STRM_RX_EARLY_CNT n) 1
      else
        let old := frameWords n q.toNat ch s
        if wordsPresent old.1 then old.2.count (Reg.STRM_RX_DUP_CNT n) 1
        else ((List.range ch).zip (frameSamples fmt ch b)).foldl (fun s cv => ringPut n q.toNat cv.1 (cv.2 * 256 + 1) s) old.2
    placeFrames n fmt ch k (q + 1) (b.drop step) s

/-- R349: MST of a packet's first frame. -/
def firstMst (s : State) (n : Nat) (k : AudioPkt) : Int :=
  if k.rtp then
    let kk := rtpK s
    let ref : Int := ((s.bn * s.blockLen : Nat) : Int) + kk
    nearest32 ((k.ts : Int) - (s.rd (Reg.STRM_RX_RTP_OFS n) : Nat)) ref + (s.fget (Reg.STRM_RX_WIN n) 15 0 : Nat) - kk
  else mstAtLeast s.fs s.time.o (nearest32 k.ts (mstTime s.fs (s.bn * s.blockLen) s.time.o))

/-- R353: a path's sequence check. -/
def checkSeq (n seq : Nat) (sec rtp : Bool) (s : State) : State :=
  let x := s.srx n
  let old := if sec then x.seqSec else x.seqPri
  let bad : Bool := match old with
    | some p => decide (seq ≠ (p + 1) % (if rtp then 65536 else 256))
    | none => false
  let s := s.setSrx n (if sec then { x with seqSec := some seq } else { x with seqPri := some seq })
  if bad then s.count (if sec then Reg.STRM_RX_SEQ_SEC_CNT n else Reg.STRM_RX_SEQ_PRI_CNT n) 1 else s

/-- R348 to R353: a matching packet arrives for entry `n`. -/
def streamIn (n : Nat) (sec : Bool) (k : AudioPkt) (s : State) : State :=
  let x := s.srx n
  let s := setPathOk n sec true (s.setSrx n (if sec then { x with lastSec := some s.bn } else { x with lastPri := some s.bn }))
  let fmt := s.fget (Reg.STRM_RX_CTL n) 29 28
  let ch := rxChannels s n
  let step := ch * sampleBytes fmt
  let pt := s.fget (Reg.STRM_RX_ID_HI n) 22 16
  let good := k.ok && (if k.rtp then pt == 0 || pt == k.pt else k.chans == ch && k.fmt == (if fmt = 0 then 3 else 2))
    && !k.payload.isEmpty && k.payload.length % step == 0
  if good then placeFrames n fmt ch (k.payload.length / step) (firstMst s n k) k.payload (checkSeq n k.seq sec k.rtp s)
  else s.count (Reg.STRM_RX_BAD_CNT n) 1

/-- R354: the block of a stream as finalised so far. -/
structure FinAcc where
  st : State
  miss : Nat
  fin : Nat
  hold : List Int
  missed : Nat
  present : Bool
  started : Bool

/-- R354: one frame. -/
def finFrame (n ch : Nat) (gate : Bool) (acc : FinAcc) (q : Nat) : FinAcc :=
  let words := frameWords n q ch acc.st
  let here := wordsPresent words.1
  let pres := here && gate
  let fin := if pres && decide (0 < acc.miss) then 32 else acc.fin
  let miss := if pres then 0 else Nat.min (acc.miss + 1) 32
  let r := (List.range ch).foldl (fun (a : State × List Int) c =>
    let raw := sgn 24 (nth 0 words.1 c / 256)
    let x : Int := if pres then (if 0 < fin then fdiv (raw * ((33 - fin : Nat) : Int)) 32 else raw)
      else fdiv (nth 0 acc.hold c * ((32 - miss : Nat) : Int)) 32
    (finalPut n q c (uns 24 x * 256 + b2n pres) a.1, a.2 ++ [if pres then x else nth 0 acc.hold c])) (words.2, [])
  { st := r.1, miss := miss, fin := if pres && decide (0 < fin) then fin - 1 else fin, hold := r.2
    missed := acc.missed + b2n (!pres), present := acc.present || here, started := acc.started || (acc.miss == 0 && miss == 1) }

/-- R357: the gate of a stream is open for the block in capture. -/
def gateOpen (s : State) (n : Nat) : Bool :=
  if rxGroup s n = 0 then decide ((s.srx n).since < s.bn) else s.strm.open'.contains (rxGroup s n)

/-- R356: clear the slots of block i − 2. -/
def clearBlock (n ch : Nat) (s : State) : State :=
  if s.bn < 2 then s
  else (List.range s.blockLen).foldl (fun s i => (List.range ch).foldl (fun s c => ringPut n ((s.bn - 2) * s.blockLen + i) c 0 s) s) s

/-- R354 to R356: finalise block i of a stream; the Bools tell a new underrun and a PRESENT frame. -/
def finalise (n : Nat) (s : State) : State × Bool × Bool :=
  let x := s.srx n
  let ch := rxChannels s n
  let gate := gateOpen s n
  let live0 := x.since == s.bn
  let acc := (List.range s.blockLen).foldl (fun a i => finFrame n ch (gate && !live0) a (s.bn * s.blockLen + i))
    ⟨s, x.miss, x.fin, x.hold, 0, false, false⟩
  let s := acc.st.setSrx n { x with miss := acc.miss, fin := acc.fin, hold := acc.hold }
  let s := if gate then s.count (Reg.STRM_RX_MISS_CNT n) acc.missed else s
  let s := s.bset (Reg.STRM_RX_STATUS n) 27 (decide (0 < acc.miss))
  (clearBlock n ch s, acc.started, acc.present)

/-- Live receive streams. -/
def liveRx (s : State) : List Nat := (List.range 1024).filter (rxLive s)

/-- R357: every frame of block i of a stream is PRESENT. -/
def blockWhole (s : State) (n : Nat) : Bool :=
  (List.range s.blockLen).all (fun i => wordsPresent (frameWords n (s.bn * s.blockLen + i) (rxChannels s n) s).1)

/-- R357: closed groups whose live members all have block i open now. -/
def openGroups (s : State) : State :=
  let live := liveRx s
  (List.range 64).foldl (fun s g =>
    let mem := live.filter (fun n => rxGroup s n == g)
    if g = 0 || s.strm.open'.contains g || mem.isEmpty || !mem.all (blockWhole s) then s
    else
      let s := { s with strm := { s.strm with open' := insNat s.strm.open' g, quiet := Tab.del s.strm.quiet g } }
      fire 0x2A g ((s.bset (Reg.STRM_GROUP_STATUS g) 31 true).count (Reg.STRM_GROUP_OPEN_CNT g) 1)) s

/-- R357: open groups of which no live member had a PRESENT frame for CLOSE_BLOCKS blocks close. -/
def closeGroups (pres : List Nat) (s : State) : State :=
  s.strm.open'.foldl (fun s g =>
    if pres.contains g then { s with strm := { s.strm with quiet := Tab.del s.strm.quiet g } }
    else
      let k := Tab.get (fun _ => 0) s.strm.quiet g + 1
      let lim := s.fget (Reg.STRM_GROUP_CTL g) 15 0
      if lim ≠ 0 && lim ≤ k then
        fire 0x2A g ({ s with strm := { s.strm with open' := s.strm.open'.filter (fun x => x != g), quiet := Tab.del s.strm.quiet g } }.bset
          (Reg.STRM_GROUP_STATUS g) 31 false)
      else { s with strm := { s.strm with quiet := Tab.put (fun _ => 0) s.strm.quiet g k } }) s

/-- R354 to R357: block i of every live stream, once in each interval. -/
def doFinalise (s : State) : State :=
  if s.strm.done then s
  else
    let s := openGroups s
    let r := (liveRx s).foldl (fun (a : State × List Nat × List Nat) n =>
      let f := finalise n a.1
      (f.1, if f.2.1 then a.2.1 ++ [n] else a.2.1, if f.2.2 then insNat a.2.2 (rxGroup a.1 n) else a.2.2)) (s, [], [])
    let s := closeGroups r.2.2 r.1
    let s := { s with strm := { s.strm with done := true } }
    match r.2.1 with
    | n :: _ => fire 0x28 n s
    | [] => s

/-- R353: 16 blocks without a matching frame on a path. -/
def pathTimeout (n : Nat) (sec : Bool) (s : State) : State :=
  let last := if sec then (s.srx n).lastSec else (s.srx n).lastPri
  match last with
  | some b => if b + 16 ≤ s.bn then setPathOk n sec false s else s
  | none => s

/-- R359: the clearing of a DRAM ring is complete. -/
def spillCleared (n : Nat) (s : State) : State :=
  if (s.srx n).clearing then
    let s := (List.range (rxBlocks s n * s.blockLen)).foldl (fun s q =>
      (List.range (rxChannels s n)).foldl (fun s c => dramStore 1 n (spillAddr s n q c) 0 false s) s) s
    s.setSrx n { s.srx n with clearing := false }
  else s

/-- R359: the port fields of an entry are consistent. -/
def portsOk (s : State) (ctl : Nat) : Bool :=
  let pri := getF ctl 19 16
  let sec := getF ctl 15 12
  decide (pri < capMedia s.variant) && (!bitOf ctl 27 || (sec != pri && decide (sec < capMedia s.variant)))

/-- R359: the fields of a receive entry are consistent. -/
def rxConsistent (s : State) (n : Nat) : Bool :=
  let nb := rxBlocks s n
  let spill := rxSpill s n
  let ring := (if spill then 2 else nb) * s.blockLen * rxChannels s n
  (if spill then decide (16 ≤ nb) && decide (nb ≤ 256) else decide (4 ≤ nb) && decide (nb ≤ 64))
    && decide (s.fget (Reg.STRM_RX_BUF n) 20 0 + ring ≤ 10 * 131072) && portsOk s (s.rd (Reg.STRM_RX_CTL n))

/-- R353, R355: a receive entry that stops being live matches no frame and has no gap; each change of a path bit has its event. -/
def rxStop (n : Nat) (s : State) : State :=
  let s := setPathOk n true false (setPathOk n false false s)
  (s.bset (Reg.STRM_RX_STATUS n) 31 false).bset (Reg.STRM_RX_STATUS n) 27 false

/-- R353, R359: a receive entry starts at boundary `e` with its present fields, or is not live. What R353 keeps of its paths goes
on through a restart, and ends where it stops. -/
def rxRestart (n e : Nat) (s : State) : State :=
  let a := Reg.STRM_RX_STATUS n
  let en := s.bget (Reg.STRM_RX_CTL n) 31
  let ok := rxConsistent s n
  let x := s.srx n
  let s := if en && ok then s else setPathOk n true false (setPathOk n false false s)
  let s := ((s.bset a 31 (en && ok)).bset a 30 (en && !ok)).bset a 27 (en && ok)
  let live := en && ok
  let s := s.setSrx n { (if live then x else StrmRx.reset) with
    fin := 0, miss := if live then 32 else 0, since := e, hold := List.replicate (rxChannels s n) 0, clearing := live && rxSpill s n }
  if en && ok then
    let nb := if rxSpill s n then 2 else rxBlocks s n
    (List.range (nb * s.blockLen)).foldl (fun s q => (List.range (rxChannels s n)).foldl (fun s c => finalClear nb n q c s) s) s
  else s
where
  finalClear (nb n q c : Nat) (s : State) : State := storeWord (commonsAddr (frameWord s n nb q c)) 0 false s

/-- R360, R363: a transmit entry is taken live or stopped at boundary `x`. -/
def txRestart (n x : Nat) (s : State) : State :=
  let a := Reg.STRM_TX_STATUS n
  let c := s.rd (Reg.STRM_TX_CTL n)
  let en := bitOf c 31
  let secIp := s.rd (Reg.STRM_TX_SEC_IP n)
  let ok := portsOk s c && (getF c 29 28 ≠ 2 || !bitOf c 27 || getF secIp 31 28 == 14)
  let f := s.fget (Reg.STRM_TX_PKT n) 24 16
  let first := (x * s.blockLen + f - 1) / f * f
  let s := (s.bset a 31 (en && ok)).bset a 30 (en && !ok)
  s.setStx n ⟨first, [], 0⟩

/-- R184: what feeds channel `c` of destination (kind, dest): the highest-numbered entry that names it. -/
def routeOf (s : State) (kind dest c : Nat) : Option Nat :=
  s.out.routesEg.foldl (fun r p =>
    let e := p.2.toNat
    if getF e 63 62 = kind && getF e 61 52 = dest && decide (getF e 51 46 ≤ c) && decide (c < getF e 51 46 + getF e 45 39) then
      some (getF e 38 29 + c - getF e 51 46) else r) none

/-- The egress word that a destination channel takes at position `i` of block `j`. -/
def routedWord (kind dest c j i : Nat) (s : State) : Word × State :=
  match routeOf s kind dest c with
  | some out => if out < capOuts s.variant then egressRead j out i s else (0, s)
  | none => (0, s)

/-- R360: a transmit stream gathers the block that reaches egress. -/
def gatherTx (n : Nat) (s : State) : State :=
  let j := s.bn - 3
  (List.range s.blockLen).foldl (fun s i =>
    let me := s.bn * s.blockLen + i
    let x := s.stx n
    if me < x.first + x.frames.length then s
    else
      let r := (List.range (s.fget (Reg.STRM_TX_CTL n) 6 0)).foldl (fun (a : State × List Word) c =>
        let w := routedWord 1 n c j i a.1
        (w.2, a.2 ++ [w.1])) (s, [])
      r.1.setStx n { x with frames := x.frames ++ [r.2] }) s

/-- R443: this module transmits. -/
def transmits (s : State) : Bool := s.twin.st == 0 || s.twin.st == 1

/-- R466: the peer is STANDBY: it is a partner of this module, its link is UP and its last HEARTBEAT said so. -/
def peerStands (s : State) : Bool := s.bget Reg.TWIN_CTL 31 && decide (s.twin.lanes ≠ 0) && s.twin.peerSt == 2

/-- R347: one sample on the wire. -/
def wireSample (fmt : Nat) (w : Word) : List Byte :=
  beBytes 3 (w.toNat / 256) ++ (if fmt = 1 then [0] else [])

/-- MAC address registers as six bytes. -/
def macBytes (hi lo : Nat) : List Byte := beBytes 2 hi ++ beBytes 4 lo

/-- R362: the source MAC of a port. -/
def portMac (s : State) (p : Nat) : List Byte := macBytes (s.rd (netReg p 0x14) % 65536) (s.rd (netReg p 0x10))

/-- R362: the AAF frame of a packet (without FCS). -/
def aafFrame (s : State) (n p seq : Nat) (me : Nat) (payload : List Byte) : List Byte :=
  let c := s.rd (Reg.STRM_TX_CTL n)
  let mh := s.rd (Reg.STRM_TX_MAC_HI n)
  let ofs := s.fget (Reg.STRM_TX_PKT n) 15 0
  let ts := mstTime s.fs (me + ofs) s.time.o
  let tu := s.time.servo ≠ 1 || !s.bget Reg.CLK_MEDIA_STATUS 31
  let vlan := if bitOf mh 28 then beBytes 2 0x8100 ++ beBytes 2 (getF mh 31 29 * 8192 + getF mh 27 16) else []
  let fmt := getF c 29 28
  macBytes (mh % 65536) (s.rd (Reg.STRM_TX_MAC_LO n)) ++ portMac s p ++ vlan ++ beBytes 2 0x22F0
    ++ [0x02, 0x81, BitVec.ofNat 8 seq, if tu then 1 else 0]
    ++ beBytes 4 (s.rd (Reg.STRM_TX_ID_HI n)) ++ beBytes 4 (s.rd (Reg.STRM_TX_ID_LO n)) ++ beBytes 4 (uns 32 ts)
    ++ [if fmt = 1 then 2 else 3] ++ beBytes 2 ((if s.is48 then 5 else 7) * 4096 + getF c 6 0) ++ [24]
    ++ beBytes 2 payload.length ++ [0, 0] ++ payload

/-- R362, R363: the RTP frame of a packet on a port (without FCS). -/
def rtpFrame (s : State) (n p seq : Nat) (me : Nat) (sec : Bool) (payload : List Byte) : List Byte :=
  let dst := if sec then s.rd (Reg.STRM_TX_SEC_IP n) else s.rd (Reg.STRM_TX_ID_LO n)
  let mac := if getF dst 31 28 = 14 then [0x01, 0x00, 0x5E] ++ beBytes 3 (dst % 2 ^ 23)
    else macBytes (s.rd (Reg.STRM_TX_MAC_HI n) % 65536) (s.rd (Reg.STRM_TX_MAC_LO n))
  let qos := s.rd (Reg.STRM_PORT_QOS p)
  let port := s.rd (Reg.STRM_TX_ID_HI n) % 65536
  let ulen := 8 + 12 + payload.length
  let ts := uns 32 (((me + s.fget (Reg.STRM_TX_PKT n) 15 0 : Nat) : Int) + rtpK s + (s.rd (Reg.STRM_TX_RTP_OFS n) : Nat))
  let head (sum : Nat) : List Byte :=
    [0x45, BitVec.ofNat 8 (getF qos 5 0 * 4)] ++ beBytes 2 (20 + ulen) ++ [0, 0, 0x40, 0, BitVec.ofNat 8 (getF qos 15 8), 17]
      ++ beBytes 2 sum ++ beBytes 4 (s.rd (Reg.STRM_PORT_IP p)) ++ beBytes 4 dst
  let sum := 65535 - sum16 (head 0) % 65535
  mac ++ portMac s p ++ beBytes 2 0x0800 ++ head (sum % 65536)
    ++ beBytes 2 port ++ beBytes 2 port ++ beBytes 2 ulen ++ [0, 0]
    ++ [0x80, BitVec.ofNat 8 (s.fget (Reg.STRM_TX_PKT n) 31 25)] ++ beBytes 2 seq ++ beBytes 4 ts
    ++ beBytes 4 (s.rd Reg.STRM_SSRC_BASE + n) ++ payload

/-- R360, R364: a packet is handed to a port's class, or dropped. -/
def handPort (n p : Nat) (frame : List Byte) (s : State) : State :=
  let s := s.count (Reg.STRM_TX_PKT_CNT n) 1
  if !netEnabled s p || !netLinkUp s p || (s.netSt p).halted then s.count (Reg.STRM_TX_DROP_CNT n) 1
  else if netMaxLen s p < frame.length + 4 then (s.count (Reg.STRM_TX_DROP_CNT n) 1).bset (Reg.STRM_TX_STATUS n) 29 true
  else
    let s := settleCredit p s
    let x := s.netSt p
    let c := s.fget (Reg.STRM_TX_CTL n) 25 24
    s.setNet p { x with cls := upd x.cls c (nth [] x.cls c ++ [(n, frame)]) }

/-- R360 to R364: the next packet of a stream, once its last frame has reached egress. -/
def handoff (n : Nat) (s : State) : State :=
  let x := s.stx n
  let f := s.fget (Reg.STRM_TX_PKT n) 24 16
  if n < 1024 && txLive s n && 0 < f && f ≤ x.frames.length then
    let c := s.rd (Reg.STRM_TX_CTL n)
    let payload := (x.frames.take f).flatMap (fun fr => fr.flatMap (wireSample (getF c 29 28)))
    let rtp := getF c 29 28 == 2
    let frame (p : Nat) (sec : Bool) : List Byte :=
      if rtp then rtpFrame s n p x.seq x.first sec payload else aafFrame s n p x.seq x.first payload
    let s' := s.setStx n ⟨x.first + f, x.frames.drop f, (x.seq + 1) % (if rtp then 65536 else 256)⟩
    if transmits s then
      let s' := handPort n (getF c 19 16) (frame (getF c 19 16) false) s'
      if bitOf c 27 then handPort n (getF c 15 12) (frame (getF c 15 12) true) s' else s'
    else s'
  else s

/-- STREAM_FINALISATION (R354 to R357). -/
def execStreamFinalisation (s : State) : Host.Outcome State Fault Refusal := .next (doFinalise s)

/-- STREAM_PATH_TIMEOUT (R353). -/
def execStreamPathTimeout (n : Nat) (sec : Bool) (s : State) : Host.Outcome State Fault Refusal := .next (pathTimeout n sec s)

/-- SPILL_RING_CLEAR_DONE (R359). -/
def execSpillRingClearDone (n : Nat) (s : State) : Host.Outcome State Fault Refusal := .next (spillCleared n s)

/-- STREAM_PACKET_HANDOFF (R360 to R364). -/
def execStreamPacketHandoff (n : Nat) (s : State) : Host.Outcome State Fault Refusal := .next (handoff n s)

end Sys2Proof.Machine
end

