-- ==== Sys2Proof/Machine/Tdm.lean ====
section
/-! DEFINITION. TDM ports (R368 to R385): enable checks, rings, capture and transmission, slot masks, faults, rate gates. -/

namespace Sys2Proof.Machine

/-- A TDM port beside its registers. -/
def State.tdm (s : State) (p : Nat) : TdmSt := Tab.get (fun _ => TdmSt.reset) s.cond.ports p

/-- Replace it. -/
def State.setTdm (s : State) (p : Nat) (x : TdmSt) : State :=
  { s with cond := { s.cond with ports := Tab.put (fun _ => TdmSt.reset) s.cond.ports p x } }

/-- A resampler group, keyed 2 · port + (1 for transmit). -/
def State.grp (s : State) (g : Nat) : RsGroup := Tab.get (fun _ => RsGroup.reset) s.cond.groups g

/-- Replace it. -/
def State.setGrp (s : State) (g : Nat) (x : RsGroup) : State :=
  { s with cond := { s.cond with groups := Tab.put (fun _ => RsGroup.reset) s.cond.groups g x } }

/-- TDM_CTL fields. -/
def tdmOn (s : State) (p : Nat) : Bool := decide (p < capTdm s.variant) && s.bget (Reg.TDM_CTL p) 31
/-- MASTER. -/
def tdmMaster (s : State) (p : Nat) : Bool := s.bget (Reg.TDM_CTL p) 30
/-- MODE: 0 SYNC, 1 SLIP, 2 RESAMPLE. -/
def tdmMode (s : State) (p : Nat) : Nat := s.fget (Reg.TDM_CTL p) 29 28
/-- SLOTS. -/
def tdmSlots (s : State) (p : Nat) : Nat := s.fget (Reg.TDM_CTL p) 5 0
/-- Slot width in bits. -/
def tdmWidth (s : State) (p : Nat) : Nat := 16 + 8 * s.fget (Reg.TDM_CTL p) 17 16
/-- TDM_STATUS.STATE. -/
def tdmState (s : State) (p : Nat) : Nat := s.fget (Reg.TDM_STATUS p) 31 30

/-- R374: first word and words of a ring. -/
def tdmRing (s : State) (p : Nat) (tx : Bool) : Nat × Nat :=
  let r := s.rd (if tx then Reg.TDM_TX_RING p else Reg.TDM_RX_RING p)
  (getF r 20 0, getF r 28 24 * s.blockLen * tdmSlots s p)

/-- R374: fabric address of slot `c` in the frame for MST (or count) `m`. -/
def tdmAddr (s : State) (p : Nat) (tx : Bool) (m c : Nat) : Nat :=
  let r := s.rd (if tx then Reg.TDM_TX_RING p else Reg.TDM_RX_RING p)
  commonsAddr (getF r 20 0 + m % (getF r 28 24 * s.blockLen) * tdmSlots s p + c)

/-- R308: MCLK in Hz. -/
def mclkHz (s : State) : Nat := if s.bget Reg.CLK_MEDIA_CTL 16 then 49152000 else 24576000

/-- R381: the slots that use a resampler channel in one direction, unmasked and below SLOTS, each with the channel that TDM_RS
gives it. -/
def rsAsked (s : State) (p : Nat) (tx : Bool) : List (Nat × Nat) :=
  let first := if tx then s.fget (Reg.TDM_RS p) 13 8 else s.fget (Reg.TDM_RS p) 5 0
  let mask := s.rd (if tx then Reg.TDM_TX_MASK p else Reg.TDM_RX_MASK p)
  ((List.range (tdmSlots s p)).filter (fun c => bitOf mask c)).map (fun c => (c, first + c))

/-- R381, R386: resampler channels that a port uses in one direction: those of them that are present. -/
def rsChannels (s : State) (p : Nat) (tx : Bool) : List (Nat × Nat) :=
  (rsAsked s p tx).filter (fun x => decide (x.2 < 2 * capTdm s.variant))

/-- Every resampler channel a port uses. -/
def rsUsed (s : State) (p : Nat) : List Nat := (rsChannels s p false ++ rsChannels s p true).map (fun x => x.2)

/-- Two word ranges overlap. -/
def rangesMeet (a b : Nat × Nat) : Bool := decide (a.1 < b.1 + b.2) && decide (b.1 < a.1 + a.2)

/-- R370: the fields of a port allow an enable. -/
def tdmOk (s : State) (p : Nat) : Bool :=
  let c := s.rd (Reg.TDM_CTL p)
  let fmt := getF c 27 26
  let slots := getF c 5 0
  let mode := getF c 29 28
  let bclk := s.fs * slots * tdmWidth s p
  let nb (tx : Bool) : Nat := s.fget (if tx then Reg.TDM_TX_RING p else Reg.TDM_RX_RING p) 28 24
  let others := (List.range 32).filter (fun q => q != p && tdmOn s q)
  let rings := [tdmRing s p false, tdmRing s p true]
  fmt != 3 && mode != 3 && getF c 17 16 != 3
    && (fmt != 2 || decide (2 ≤ slots)) && (fmt == 2 || slots == 2)
    && [false, true].all (fun tx => decide (2 ≤ nb tx) && decide (nb tx ≤ 16))
    && decide (slots ≤ (if s.is48 then 32 else 16))
    && (!bitOf c 30 || (mode == 0 && decide (0 < bclk) && mclkHz s % bclk == 0 && decide (bclk ≤ mclkHz s)))
    && rings.all (fun r => decide (r.1 + r.2 ≤ 10 * 131072))
    && others.all (fun q => rings.all (fun r => !rangesMeet r (tdmRing s q false) && !rangesMeet r (tdmRing s q true)))
    && (mode != 2 || (rsAsked s p false ++ rsAsked s p true).all (fun x => decide (x.2 < 2 * capTdm s.variant) &&
        others.all (fun q => tdmMode s q != 2 || !(rsUsed s q).contains x.2)))

/-- R411: report a group's state in the registers of its channels. -/
def rsReport (chs : List (Nat × Nat)) (g : RsGroup) (clamp range : Bool) (fill : Int) (s : State) : State :=
  chs.foldl (fun s x =>
    let st := if g.st = 0 then 0 else if g.st = 3 then 2 else 1
    (s.wr (Reg.COND_RS_STATUS x.2) (st * 2 ^ 30 + b2n clamp * 2 ^ 29 + b2n range * 2 ^ 28 + b2n (g.table == some true) * 2 ^ 27 + uns 16 fill)).wr64
      (Reg.COND_RS_NOW_LO x.2) (uns 64 g.r)) s

/-- R400: the table that a known R_base chooses: table 1 above 1.05. -/
def tableOf (base : Nat) : Bool := decide (105 * 2 ^ 32 < 100 * base)

/-- R398, R400: the table chosen at a reset, where COND_RS_RATIO gives R_base then. -/
def resetTable (s : State) (chs : List (Nat × Nat)) : Option Bool :=
  match chs with
  | (_, ch) :: _ => if s.bget (Reg.COND_RS_CTL ch) 31 then none else some (tableOf (s.rd64 (Reg.COND_RS_RATIO_LO ch)))
  | [] => none

/-- R401: a resampler group of a port is reset. -/
def resetGroup (p : Nat) (tx : Bool) (s : State) : State :=
  let chs := rsChannels s p tx
  let g : RsGroup := { RsGroup.reset with st := 1, table := resetTable s chs }
  rsReport chs g false false 0 (s.setGrp (2 * p + b2n tx) g)

/-- R401: both groups of a port are reset. -/
def resetGroups (p : Nat) (s : State) : State := resetGroup p true (resetGroup p false s)

/-- R376, R377: a mask handed over for a boundary still to come stays in the pending register. -/
def keepPend (s : State) (x : Option (Nat × Nat)) : Option (Nat × Nat) := x.filter (fun k => decide (s.bn * s.blockLen < k.1))

/-- A port's bit-clock domain started afresh. -/
def freshTdm (p : Nat) (s : State) : TdmSt :=
  { TdmSt.reset with pendRx := keepPend s (s.tdm p).pendRx, pendTx := keepPend s (s.tdm p).pendTx }

/-- R375: a port starts. -/
def tdmStart (p : Nat) (s : State) : State :=
  let a := Reg.TDM_STATUS p
  let st := if !tdmMaster s p && tdmMode s p == 0 then 1 else 2
  let s := ((((s.bset (Reg.TDM_CTL p) 31 true).fset a 31 30 st).bset a 29 false).bset a 28 false).bset a 27 false
  let s := s.setTdm p { freshTdm p s with rxMask := s.rd (Reg.TDM_RX_MASK p), txMask := s.rd (Reg.TDM_TX_MASK p), start := (s.bn + 1) * s.blockLen }
  let r := tdmRing s p false
  let s := (List.range r.2).foldl (fun s i => storeWord (commonsAddr (r.1 + i)) 0 false s) s
  if tdmMode s p = 2 then resetGroups p s else s

/-- R375, R411: a port stops; its resampler channels read OFF. -/
def tdmStop (p : Nat) (s : State) : State :=
  let a := Reg.TDM_STATUS p
  let s := if tdmMode s p = 2 then rsReport (rsChannels s p false ++ rsChannels s p true) RsGroup.reset false false 0 s else s
  let s := (((s.bset (Reg.TDM_CTL p) 31 false).fset a 31 30 0).bset a 28 false).bset a 27 false
  ((s.setTdm p (freshTdm p s)).setGrp (2 * p) RsGroup.reset).setGrp (2 * p + 1) RsGroup.reset

/-- R370: the enable is judged. -/
def tdmEnable (p : Nat) (s : State) : State := if tdmOk s p then tdmStart p s else s.bset (Reg.TDM_STATUS p) 29 true

/-- R370: a write of TDM_CTL; a HALTED port restarts with ENABLE = 1 (R382). TDM_PHASE is 0 on a master port (R385). -/
def tdmCtlWrite (p : Nat) (v : Word) (s : State) : State :=
  let a := Reg.TDM_CTL p
  let on := bitOf v.toNat 31
  if p < 32 && s.served a then
    if s.bget a 31 then
      if !on then tdmStop p s else if tdmState s p = 3 then tdmEnable p s else s
    else
      let s := s.wr a (v.toNat &&& 0x7FC3003F)
      let s := if tdmMaster s p then s.wr (Reg.TDM_PHASE p) 0 else s
      if on then tdmEnable p s else s
  else s

/-- R382: ABORT of a port: it is left HALTED. -/
def tdmAbort (p : Nat) (s : State) : State := if tdmOn s p then s.fset (Reg.TDM_STATUS p) 31 30 3 else s

/-- R379: SYNC_FAULT. -/
def tdmFault (p : Nat) (s : State) : State :=
  let a := Reg.TDM_STATUS p
  let s := ((s.bset a 28 true).bset a 18 true).fset a 31 30 1
  let s := (s.count (Reg.TDM_SYNC_FAULT_CNT p) 1).setTdm p { s.tdm p with good := 0, nextM := none }
  fire 0x2C p s

/-- R369: a captured slot as a ring word. -/
def slotWord (width : Nat) (w : Word) : Nat :=
  if width = 16 then w.toNat % 2 ^ 16 * 2 ^ 16 else if width = 24 then w.toNat % 2 ^ 24 * 256 else w.toNat / 256 * 256

/-- R374, R376: write a received frame under a mask; PRESENT = 1 in each captured slot. -/
def ringFrame (p m mask : Nat) (words : List Nat) (s : State) : State :=
  (List.range (tdmSlots s p)).foldl (fun s c =>
    storeWord (tdmAddr s p false m c) (if bitOf mask c then toW (nth 0 words c / 2 * 2 + 1) else 0) false s) s

/-- R21, R373: the frame of MST `m` may be written: its block is not sealed yet; the ring is sealed at cycle 512. -/
def frameOpen (m : Nat) (s : State) : Bool :=
  decide (s.bn ≤ m / s.blockLen) || (s.bn == m / s.blockLen + 1
    && (decide (s.sched.cycle < 512) || (s.sched.cycle == 512 && !s.sched.copyDone)))

/-- R21, R374: write the frame of MST `m` unless its block is sealed. -/
def putFrame (p m mask : Nat) (words : List Nat) (s : State) : State := if frameOpen m s then ringFrame p m mask words s else s

/-- R375, R379: a frame that is not filled. -/
def zeroFrame (p m : Nat) (s : State) : State := putFrame p m 0 [] s

/-- R376: the mask in use for MST `m`: the one taken last, from its stamp on. -/
def TdmSt.takenAt (t : TdmSt) (m : Nat) : Nat :=
  match t.rxWas with
  | some (st, k) => if m < st then k else t.rxMask
  | none => t.rxMask

/-- R376, R377: the receive mask that governs MST `m`. -/
def maskAt (t : TdmSt) (m : Nat) : Nat :=
  match t.pendRx with
  | some (st, k) => if st ≤ m && !t.lateSync then k else t.takenAt m
  | none => t.takenAt m

/-- R377: the receive mask that was in use when the frame that now completes began. -/
def TdmSt.frameMask (t : TdmSt) : Nat :=
  match t.begun with
  | k :: _ => k
  | [] => t.rxMask

/-- The frame that completes has left the list of those begun. -/
def TdmSt.endFrame (t : TdmSt) : TdmSt := { t with begun := t.begun.drop 1 }

/-- R371: TDM_PHASE lies in (−1/Fs, 0]: a completion phase in 1/16 ns, taken modulo the frame period. -/
def wrapPhase (fs : Nat) (x : Int) : Int :=
  let y := (x * (fs : Int)) % (16 * 10 ^ 9)
  if y = 0 then 0 else -((16 * 10 ^ 9 - y) / (fs : Int))

/-- R379: the completion phase has moved by more than a quarter of a frame period. -/
def phaseMoved (fs : Nat) (a b : Int) : Bool :=
  let period : Int := 16 * 10 ^ 9
  let d := ((a - b) * (fs : Int)) % period
  decide (period < 4 * Min.min d (period - d))

/-- R371, R379: a frame of a locked slave, or of a master, in SYNC mode. -/
def syncFrame (p m : Nat) (words : List Nat) (s : State) : State :=
  let t := s.tdm p
  let s := (if t.resume ≤ m then s.bset (Reg.TDM_STATUS p) 28 false else s).setTdm p { t with rxM := some m }
  if t.start ≤ m && t.resume ≤ m then putFrame p m (maskAt t m) words s else if t.start ≤ m then zeroFrame p m s else s

/-- R371: a slave in ACQUIRING judges a frame of the right spacing, and locks. -/
def acquire (p : Nat) (phase : Int) (s : State) : State :=
  let t := { s.tdm p with good := (s.tdm p).good + 1 }
  let m := s.time.mst
  if 16 ≤ t.good && t.gateOk then
    let b := s.blockLen
    let fault := s.bget (Reg.TDM_STATUS p) 28
    ((s.setTdm p { t with nextM := some (m + 1), phase := phase, resume := if fault then (m + b) / b * b else m + 1 }).fset
      (Reg.TDM_STATUS p) 31 30 2).wr (Reg.TDM_PHASE p) (uns 32 phase)
  else s.setTdm p t

/-- R371, R379: a frame of the right spacing of a slave in SYNC mode. -/
def slaveFrame (p : Nat) (words : List Nat) (phase : Int) (s : State) : State :=
  let t := s.tdm p
  match t.nextM with
  | none => acquire p phase s
  | some m =>
    let s := syncFrame p m words ((s.setTdm p { t with nextM := some (m + 1), good := t.good + 1 }).wr (Reg.TDM_PHASE p) (uns 32 phase))
    if phaseMoved s.fs phase t.phase then tdmFault p s else s

/-- R380: a frame in SLIP mode: the one that completes last in the window counts. -/
def slipFrame (p mask : Nat) (words : List Nat) (s : State) : State :=
  let t := s.tdm p
  let m := s.time.mst
  if t.start ≤ m then
    let s := if t.rxM = some m then s.count (Reg.TDM_SLIP_DROP_CNT p) 1 else s
    putFrame p m mask words (s.setTdm p { t with rxM := some m })
  else s

/-- R381: a frame in RESAMPLE mode goes to the next count. -/
def countFrame (p mask : Nat) (words : List Nat) (s : State) : State :=
  let t := s.tdm p
  if t.start ≤ s.time.mst then ringFrame p t.rxCount mask words (s.setTdm p { t with rxCount := t.rxCount + 1 }) else s

/-- R382: a frame of a HALTED port: it is written as 0 with PRESENT = 0, in RESAMPLE mode at the next count, otherwise at the
edge that ends its window. -/
def haltedFrame (p : Nat) (s : State) : State :=
  let t := s.tdm p
  if tdmMode s p = 2 then ringFrame p t.rxCount 0 [] (s.setTdm p { t with rxCount := t.rxCount + 1 }) else s

/-- R382: a discarded frame. -/
def badFrame (p : Nat) (s : State) : State :=
  let t := s.tdm p
  let s := s.count (Reg.TDM_FRAME_ERR_CNT p) 1
  if tdmMode s p = 0 then
    let m := t.nextM.getD s.time.mst
    let s := s.setTdm p { t with good := 0, nextM := t.nextM.map (fun m => m + 1) }
    if t.start ≤ m then zeroFrame p m s else s
  else s.setTdm p { t with good := 0 }

/-- R371, R380 to R382: a received frame has completed; `ok` tells that it had the right spacing. -/
def tdmRx (p : Nat) (slots : List Word) (ok : Bool) (phase : Int) (s : State) : State :=
  if tdmOn s p then
    let mask := (s.tdm p).frameMask
    let s := (s.bset (Reg.TDM_STATUS p) 27 true).setTdm p (s.tdm p).endFrame
    let words := slots.map (slotWord (tdmWidth s p))
    let phase := wrapPhase s.fs phase
    if !ok then badFrame p s
    else if tdmState s p = 3 then haltedFrame p s
    else if tdmMode s p = 1 then slipFrame p mask words s
    else if tdmMode s p = 2 then countFrame p mask words s
    else if tdmMaster s p then syncFrame p s.time.mst words s
    else slaveFrame p words phase s
  else s

/-- R377: the masks taken at a sync whose frame carries egress MST `me`. -/
def TdmSt.take (t : TdmSt) (me : Nat) : TdmSt :=
  let t := match t.pendRx with
    | some (st, k) => if st ≤ me then { t with rxMask := k, rxWas := some (st, t.rxMask), pendRx := none } else t
    | none => t
  match t.pendTx with
  | some (st, k) => if st ≤ me then { t with txMask := k, pendTx := none } else t
  | none => t

/-- R377: a frame sync after edge S − 1: pending masks are taken, unless (`late`) they arrived less than 2 bit clocks before it,
which cannot be in SYNC mode; a frame begins under the mask in use. -/
def takeMasks (p me : Nat) (late : Bool) (s : State) : State :=
  let late := late && tdmMode s p != 0
  let t := { s.tdm p with lateSync := late }
  let t := if late then t else t.take me
  s.setTdm p { t with begun := (t.begun ++ [t.rxMask]).drop (t.begun.length - 1) }

/-- R38, R183: the routes of the block that egress MST `me` belongs to; a change due at the next boundary governs its frames. -/
def routesFor (me : Nat) (s : State) : State :=
  let due := s.sched.takes.filter (fun k => k.stage == 3 && decide (k.bn * s.blockLen ≤ me))
  due.foldl (fun s k => match k.item with
    | .route n e => { s with out := { s.out with routesEg := Tab.put (fun _ => (0 : BitVec 64)) s.out.routesEg n e } }
    | _ => s) s

/-- R369: a sample word as the wire carries it in a slot. -/
def wireSlot (width : Nat) (w : Word) : Word :=
  if width = 16 then toW (w.toNat / 2 ^ 16) else if width = 24 then toW (w.toNat / 256) else toW (w.toNat / 256 * 256)

/-- R483: blocks are egressed at egress MST `me`: render runs, and does not halt at or before it. -/
def egressAt (me : Nat) (s : State) : Bool :=
  s.sched.rendering && (match s.sched.quietAt with | some x => decide (me < x * s.blockLen) | none => true)

/-- R374: a word of the transmit ring; one that fails its check is sent as 0. -/
def txRing (p m c : Nat) (s : State) : Word × State :=
  let r := readWord (tdmAddr s p true m c) s
  (if r.1.bad then 0 else r.1.val, r.2)

/-- R372, R374, R375, R381: the word of slot `c` in the transmitted frame for egress MST `me`. It goes through the transmit ring:
in SYNC and SLIP mode the controller writes it there when the frame begins (log entry 156), in RESAMPLE mode the group has
written it, with [0] = 1 if it is valid. -/
def txWord (p me c : Nat) (s : State) : Word × State :=
  let t := s.tdm p
  if tdmState s p = 3 || s.bget (Reg.TDM_STATUS p) 28 || decide (me < t.start) || !egressAt me s then (0, s)
  else if tdmMode s p = 2 then
    if (match t.txValid with | some n => decide (n ≤ t.txCount) | none => false) then
      let r := txRing p t.txCount c s
      (if bitOf r.1.toNat 0 then r.1 else 0, r.2)
    else (0, s)
  else if me / s.blockLen < 3 then (0, s)
  else
    let r := routedWord 2 p c (me / s.blockLen - 3) (me % s.blockLen) (routesFor me s)
    txRing p me c (storeWord (tdmAddr s p true me c) r.1 false { r.2 with out := { r.2.out with routesEg := s.out.routesEg } })

/-- R379: a port that has locked again resumes at the next whole block, and SYNC_FAULT clears. -/
def tdmResume (p me : Nat) (s : State) : State :=
  if tdmMode s p = 0 && tdmState s p = 2 && decide ((s.tdm p).resume ≤ me) then s.bset (Reg.TDM_STATUS p) 28 false else s

/-- R376: a driven slot. -/
def slotDriven (s : State) (p c : Nat) : Bool := bitOf (s.tdm p).txMask c && !s.twin.floating

/-- R372, R375, R376: the slots of the frame of egress MST `me` are put on the wire. -/
def fillWire (p me : Nat) (s : State) : State :=
  let t := s.tdm p
  let r := (List.range (tdmSlots s p)).foldl (fun (a : State × List (Option Word)) c =>
    let w := if tdmMode s p == 2 && !bitOf t.txMask c then (0, a.1) else txWord p me c a.1
    (w.2, a.2 ++ [if slotDriven s p c then some (wireSlot (tdmWidth s p) w.1) else none])) (s, [])
  r.1.setTdm p { r.1.tdm p with wire := r.2, txWait := none }

/-- R21: the block of egress MST `me` is still in render: the next boundary seals its half of the egress buffer. A frame that begins
before it takes its words there (DEDUCED, log entry 176). -/
def unsealed (s : State) (p me : Nat) : Bool := s.sched.rendering && tdmMode s p != 2 && decide (s.bn < me / s.blockLen)

/-- R21: a frame's words follow when its block is sealed; until then its driven slots stand at 0. -/
def awaitWire (p me : Nat) (s : State) : State :=
  s.setTdm p { s.tdm p with wire := (List.range (tdmSlots s p)).map (fun c => if slotDriven s p c then some 0 else none), txWait := some me }

/-- R372, R376, R377, R380: a frame sync starts a transmitted frame. -/
def tdmTx (p : Nat) (late : Bool) (s : State) : State :=
  if tdmOn s p then
    let me := s.time.mst + 1
    let s := tdmResume p me (takeMasks p me late (s.bset (Reg.TDM_STATUS p) 27 true))
    let t := s.tdm p
    let s := if tdmMode s p = 1 && t.txM == some me then s.count (Reg.TDM_SLIP_REP_CNT p) 1 else s
    let s := if unsealed s p me then awaitWire p me s else fillWire p me s
    s.setTdm p { s.tdm p with txM := some me, txCount := t.txCount + (if tdmMode s p = 2 then 1 else 0) }
  else s

/-- R21: at the boundary, the frames that wait for a sealed block take their words. -/
def fillWaiting (s : State) : State :=
  (List.range 32).foldl (fun s p => match (s.tdm p).txWait with
    | some me => if tdmOn s p then fillWire p me s else s.setTdm p { s.tdm p with txWait := none }
    | none => s) s

/-- R380: no frame completed in the window of MST `m`: the words of m − 1 repeat. -/
def repeatFrame (p m : Nat) (s : State) : State :=
  let t := s.tdm p
  let r := (List.range (tdmSlots s p)).foldl (fun (a : State × List Nat) c =>
    let w := readWord (tdmAddr s p false (m - 1) c) a.1
    (w.2, a.2 ++ [if w.1.bad then 0 else w.1.val.toNat])) (s, [])
  (putFrame p m (maskAt t m) r.2 r.1).count (Reg.TDM_SLIP_REP_CNT p) 1

/-- The window (edge m, edge m + 1] of one port ends: R375, R379, R380. -/
def tdmEdge (m : Nat) (s : State) (p : Nat) : State :=
  if tdmOn s p then
    let t := s.tdm p
    let mute := tdmState s p ≠ 2 || s.bget (Reg.TDM_STATUS p) 28
    let s := if tdmMode s p = 2 || m < t.start || (match t.rxM with | some k => decide (m ≤ k) | none => false) then s
      else if tdmMode s p = 1 && !mute then repeatFrame p m s
      else zeroFrame p m s
    if tdmMode s p = 1 && decide (t.start ≤ m + 1) && t.txM != some (m + 1) then s.count (Reg.TDM_SLIP_DROP_CNT p) 1 else s
  else s

/-- The mask a commit's items give a register, if any. -/
def maskItem (off : Nat) (items : List Item) : Option Nat :=
  items.foldl (fun a i => match i with
    | .reg o _ v => if o = off then some v else a
    | _ => a) none

/-- R377: the controllers hand the masks of the next boundary to the bit-clock domains. -/
def handMasks (s : State) : State :=
  if s.cond.handed then s
  else
    let stamp := (s.bn + 1) * s.blockLen
    let rxItems := (s.sched.commits.filter (fun c => goesAt (s.bn + 1) c s)).flatMap (fun c => c.items)
    let txItems := (s.sched.takes.filter (fun k => k.stage == 3 && k.bn == s.bn + 1)).map (fun k => k.item)
    let s := (List.range 32).foldl (fun s p =>
      let s := match maskItem (Reg.TDM_RX_MASK p) rxItems with
        | some v => s.setTdm p { s.tdm p with pendRx := some (stamp, v) }
        | none => s
      match maskItem (Reg.TDM_TX_MASK p) txItems with
      | some v => s.setTdm p { s.tdm p with pendTx := some (stamp, v) }
      | none => s) s
    { s with cond := { s.cond with handed := true } }

/-- R376: a mask handed over for stamp `st` is withdrawn. -/
def TdmSt.withdraw (t : TdmSt) (st : Nat) : TdmSt :=
  let t := { t with pendRx := t.pendRx.filter (fun k => k.1 != st) }
  match t.rxWas with
  | some (x, old) => if x = st then { t with rxMask := old, rxWas := none, begun := t.begun.map (fun k => if k = t.rxMask then old else k) } else t
  | none => t

/-- R199, R202: a receive mask that was handed over for boundary `x` and does not apply there, as the module has ceased to follow
its partner or has no whole VERDICT, is withdrawn. -/
def withdrawMasks (x : Nat) (s : State) : State :=
  let items := (s.sched.takes.filter (fun k => k.stage == 0 && k.bn == x)).map (fun k => k.item)
  (List.range 32).foldl (fun s p =>
    if (maskItem (Reg.TDM_RX_MASK p) items).isSome then s
    else if (s.tdm p).pendRx.any (fun k => k.1 == x * s.blockLen) || (s.tdm p).rxWas.any (fun k => k.1 == x * s.blockLen) then
      s.setTdm p ((s.tdm p).withdraw (x * s.blockLen))
    else s) s

/-- R377: the hand-over, at the cycle of the verdict and after it. -/
def doHandoff (s : State) : State := if s.sched.rendering && s.sched.verdictDone then handMasks (s.reach (s.slot 392000 325000)) else s

/-- R379: a slave port in SYNC mode that is not HALTED and not already waiting to lock in SYNC_FAULT. -/
def tdmMayFault (s : State) (p : Nat) : Bool :=
  tdmMode s p == 0 && !tdmMaster s p && (tdmState s p == 2 || (tdmState s p == 1 && !s.bget (Reg.TDM_STATUS p) 28))

/-- R379, R382: no sync for two frame periods. -/
def fsAbsent (p : Nat) (s : State) : State :=
  if tdmOn s p && !tdmMaster s p && s.bget (Reg.TDM_STATUS p) 27 then
    let s := s.bset (Reg.TDM_STATUS p) 27 false
    if tdmMayFault s p then tdmFault p s else s.setTdm p { s.tdm p with good := 0 }
  else s

/-- R383: the family of a rate in 1/65,536 Hz. -/
def familyOf (r : Nat) : Nat :=
  let near (nom : Nat) : Bool :=
    decide (((r : Int) - ((nom * 65536 : Nat) : Int)).natAbs * 1000000 ≤ 1000 * (nom * 65536))
  if [48000, 96000, 192000].any near then 1 else if [44100, 88200, 176400].any near then 2 else 0

/-- Two rates differ by more than `ppm` of the second. -/
def ppmApart (a b ppm : Nat) : Bool := decide (ppm * b < ((a : Int) - (b : Int)).natAbs * 1000000)

/-- R398: a group takes R_base from the measured rate when it tracks. -/
def trackGroup (p rate : Nat) (tx : Bool) (s : State) : State :=
  let g := 2 * p + b2n tx
  match rsChannels s p tx with
  | [] => s
  | (_, ch) :: _ =>
    if s.bget (Reg.COND_RS_CTL ch) 31 then
      let base := if tx then (if rate = 0 then 0 else (2 * 2 ^ 48 * s.fs + rate) / (2 * rate)) else (2 * 2 ^ 16 * rate + s.fs) / (2 * s.fs)
      s.setGrp g { s.grp g with base := some base }
    else s

/-- R383, R384, R379: a rate gate ends with a measured rate; a master reads exactly Fs. -/
def gateEnd (p measured : Nat) (s : State) : State :=
  if tdmOn s p then
    let a := Reg.TDM_STATUS p
    let r := if tdmMaster s p then s.fs * 65536 else measured % 2 ^ 64
    let t := s.tdm p
    let chg := !t.gated || ppmApart r t.refRate (s.fget (Reg.TDM_RATE_THR p) 15 0)
    let famChg := !t.gated || s.fget a 26 25 != familyOf r
    let inTol := !ppmApart r (s.fs * 65536) (s.fget (Reg.TDM_SYNC_TOL p) 15 0)
    let s := (s.wr64 (Reg.TDM_RATE_LO p) r).setTdm p { t with gated := true, gateOk := inTol, refRate := if chg then r else t.refRate }
    let s := if chg then fire 0x2D p (s.bset a 17 true) else s
    let s := s.fset a 26 25 (familyOf r)
    let s := if famChg then fire 0x2E p (s.bset a 16 true) else s
    let s := if tdmMode s p = 2 then
        let s := if famChg then resetGroups p s else s
        trackGroup p r true (trackGroup p r false s)
      else s
    if tdmMayFault s p && !inTol then tdmFault p s else s
  else s

/-- TDM_ENABLE_WRITE (R370, R375). -/
def execTdmEnableWrite (_m : Master) (port : Nat) (v : Word) (s : State) : Host.Outcome State Fault Refusal := .next (tdmCtlWrite port v s)

/-- TDM_RX_FRAME (R371, R380, R381): the slots received, whether the frame had the right spacing, and its completion phase. -/
def execTdmRxFrame (port : Nat) (slots : List Word) (ok : Bool) (phase : Int) (s : State) : Host.Outcome State Fault Refusal :=
  .next (tdmRx port slots ok phase s)

/-- TDM_TX_FRAME (R372, R377): `late` tells that a mask reached the pending register less than 2 bit clocks before the sync. -/
def execTdmTxFrame (port : Nat) (s : State) (late : Bool := false) : Host.Outcome State Fault Refusal := .next (tdmTx port late s)

/-- TDM_MASK_HANDOFF (R377). -/
def execTdmMaskHandoff (s : State) : Host.Outcome State Fault Refusal := .next (doHandoff s)

/-- FS_ABSENT (R382). -/
def execFsAbsent (port : Nat) (s : State) : Host.Outcome State Fault Refusal := .next (fsAbsent port s)

/-- TDM_RATE_GATE_END (R384): the measured rate in 1/65,536 Hz. -/
def execTdmRateGateEnd (port rate : Nat) (s : State) : Host.Outcome State Fault Refusal := .next (gateEnd port rate s)

end Sys2Proof.Machine
end

