-- ==== Sys2Proof/Machine/Cond.lean ====
section
/-! DEFINITION. The conditioning chain (R386 to R411): decimators, resampler groups, level detectors; and the Inkwell write path
(R71, R72, R123). -/

namespace Sys2Proof.Machine

/-- R387: fabric address of channel `c`'s word for MST `m` in the output ring. -/
def condAddr (s : State) (m c : Nat) : Nat := commonsAddr (s.cond.outBase + m % (4 * s.blockLen) * 80 + c)

/-- R387: write an output word. -/
def condPut (m c v : Nat) (s : State) : State := storeWord (condAddr s m c) (toW v) false s

/-- A COND register as it governs the block captured last. -/
def condPrev (s : State) (off : Nat) : Nat := (Tab.get resetWord s.cond.prev off).toNat

/-- A decimator. -/
def State.dec (s : State) (d : Nat) : DecSt := Tab.get (fun _ => DecSt.reset) s.cond.decs d

/-- R390: OSR. -/
def osrOf (is48 : Bool) (rate : Nat) : Nat := 32 * (if is48 then 2 else 1) * (if rate = 1 then 2 else 1)

/-- R391, R392: one bit into the integrators. -/
def integrate (i : List Int) (u : Int) : List Int :=
  let i1 := nth 0 i 0 + u
  let i2 := nth 0 i 1 + i1
  let i3 := nth 0 i 2 + i2
  let i4 := nth 0 i 3 + i3
  [i1, i2, i3, i4, nth 0 i 4 + i4]

/-- R392: the fifth difference of i5 over the last points, newest first. -/
def fifthDiff (v : Int) (p : List Int) : Int :=
  v - 5 * nth 0 p 0 + 10 * nth 0 p 1 - 10 * nth 0 p 2 + 5 * nth 0 p 3 - nth 0 p 4

/-- R392: after every M bits a CIC value is taken. -/
def cicPoint (x : DecSt) : DecSt :=
  let v := nth 0 x.i 4
  { x with pts := (v :: x.pts).take 5, c := (fifthDiff v x.pts :: x.c).take 190 }

/-- R391: bit `k` of a bitstream, as +1 or −1. -/
def bitVal (bits k : Nat) : Int := if bitOf bits k then 1 else -1

/-- R392: `n` bits from bit `k` on. -/
def feedBits (bits : Nat) : Nat → Nat → DecSt → DecSt
  | 0, _, x => x
  | n + 1, k, x => feedBits bits n (k + 1) { x with i := integrate x.i (bitVal bits k), sum := x.sum + bitVal bits k }

/-- R392: the FIR over the CIC history. -/
def firOut (preset mSel m : Nat) (c : List Int) : Int :=
  let acc := ((firTable preset mSel).zip c).foldl (fun a x => a + x.1 * x.2) 0
  satS 24 (fdiv acc (2 ^ (5 * m.log2 - 1)))

/-- R392, R394, R396: one sample period of a decimator: the word written and what is left. -/
def decSample (ctl osr bits k mst : Nat) (x : DecSt) : Nat × DecSt :=
  let m := osr / 2
  let d := 2 ^ getF ctl 3 0
  let settle1 := bitOf ctl 8
  let x := if settle1 && mst % d = 0 then { x with held := satS 24 (x.sum * 2 ^ (23 - (d * osr).log2)), sum := 0 } else x
  let x := cicPoint (feedBits bits m (k + m) (cicPoint (feedBits bits m k x)))
  let y := if settle1 then x.held else firOut (getF ctl 17 16) (m.log2 - 4) m x.c
  if 0 < x.left then (2, { x with left := x.left - 1 }) else (uns 24 y * 256 + 1, x)

/-- R396: the settling samples after a reset at boundary `e`. -/
def settleCount (ctl e b : Nat) : Nat :=
  if bitOf ctl 8 then
    let d := 2 ^ getF ctl 3 0
    ((e * b + d - 1) / d + 1) * d - e * b
  else presetSettle (getF ctl 17 16)

/-- R392: the samples of a block of an enabled decimator. -/
def decSamples (d ctl osr bits : Nat) : Nat → Nat → State → State
  | 0, _, s => s
  | n + 1, i, s =>
    let m := (s.bn - 1) * s.blockLen + i
    let r := decSample ctl osr bits (i * osr) m (s.dec d)
    decSamples d ctl osr bits n (i + 1)
      (condPut m d r.1 { s with cond := { s.cond with decs := Tab.put (fun _ => DecSt.reset) s.cond.decs d r.2 } })

/-- R389: write block j of a channel as idle words. -/
def idleBlock (c : Nat) (s : State) : State :=
  (List.range s.blockLen).foldl (fun s i => condPut ((s.bn - 1) * s.blockLen + i) c 0 s) s

/-- R389, R395, R396: block j of one decimator. -/
def decBlock (bits : List Nat) (s : State) (d : Nat) : State :=
  let ctl := condPrev s (Reg.COND_DEC_CTL d)
  let j := s.bn - 1
  let s := if s.cond.resetPrev.contains d then
      { s with cond := { s.cond with decs := Tab.put (fun _ => DecSt.reset) s.cond.decs d { DecSt.reset with left := settleCount ctl j s.blockLen } } }
    else s
  let on := bitOf ctl 31 && decide (s.cond.from' ≤ j)
  let s := if on then decSamples d ctl (osrOf s.is48 (condPrev s Reg.COND_DS_CLK % 2)) (nth 0 bits d) s.blockLen 0 s else idleBlock d s
  let left := if on then (s.dec d).left else 0
  (s.bset (Reg.COND_DEC_STATUS d) 31 (decide (0 < left))).fset (Reg.COND_DEC_STATUS d) 15 0 left

/-- R411: a resampler channel that no enabled port uses is OFF. -/
def idleStatus (s : State) (ch : Nat) : State :=
  if s.rd (Reg.COND_RS_STATUS ch) = 0 then s else (s.wr (Reg.COND_RS_STATUS ch) 0).wr64 (Reg.COND_RS_NOW_LO ch) 0

/-- Resampler channels that some enabled port uses. -/
def rsInUse (s : State) : List Nat :=
  (List.range 32).flatMap (fun p => if tdmOn s p && tdmMode s p == 2 then rsUsed s p else [])

/-- R389: the chain's block j: the decimators, and idle words for every resampler channel, which the groups of the enabled ports
write over. -/
def condBlock (bits : List Nat) (s : State) : State :=
  if s.sched.rendering && !s.cond.done && !s.sched.copyDone && decide (1 ≤ s.bn) then
    let s := (List.range 16).foldl (decBlock bits) s
    let s := (List.range 64).foldl (fun s c => idleBlock (16 + c) s) s
    let busy := rsInUse s
    let s := ((List.range 64).filter (fun c => !busy.contains c)).foldl idleStatus s
    { s with cond := { s.cond with done := true } }
  else s

/-- R400: entry t of phase q of a coefficient table. -/
def rsCoef (table : Bool) (q t : Nat) : Int :=
  let num : Int := 256 * ((t : Int) - 16) + (q : Int)
  let a : Int := if table then 45 else 90
  if num = 0 then Fx.round (2 ^ 18 * Fx.one * a / 100)
  else
    -- π·a·num/25,600 modulo a whole turn
    let r := (a * num) % 51200
    let sn := Fx.sin (Fx.pi * (if 25600 < r then r - 51200 else r) / 25600)
    let sinc := Fx.div sn (Fx.pi * num / 256)
    let u := Fx.one - num * num * Fx.one / 16777216
    Fx.round (2 ^ 18 * Fx.div (Fx.mul sinc (Fx.besselI0 (16 * u))) (Fx.besselI0 (16 * Fx.one)))

/-- R399: the interpolated coefficient at fraction `f`. -/
def rsTap (table : Bool) (f t : Nat) : Int :=
  let q := f / 2 ^ 24
  let sub : Int := (f / 2 ^ 16 % 256 : Nat)
  let c0 := rsCoef table q t
  c0 + fdiv ((rsCoef table (q + 1) t - c0) * sub) 256

/-- R399, R404: one output of a channel from 32 inputs, newest first, each with its BLOT. -/
def rsOut (table : Bool) (f : Nat) (ins : List (Int × Bool)) : Nat :=
  let acc := (List.range 32).foldl (fun a t => a + (nth (0, false) ins t).1 * rsTap table f t) 0
  let blot := (ins.take 32).any (fun x => x.2)
  uns 24 (satS 24 (fdiv acc (2 ^ 18))) * 256 + (if blot then 128 else 1)

/-- R395, R404: an input frame's sample of a receive slot: 0 up to the frame of the reset (log entry 157), and a word that fails
its check counts as BLOT. -/
def rsIn (p c : Nat) (start k : Int) (s : State) : (Int × Bool) × State :=
  if k < 0 || k ≤ start then ((0, false), s)
  else
    let r := readWord (tdmAddr s p false k.toNat c) s
    let blot := r.1.bad || bitOf r.1.val.toNat 7
    ((if blot then 0 else sgn 24 (r.1.val.toNat / 256), blot), r.2)

/-- The 32 inputs of a tap window that ends at frame `k`. -/
def rsWindow (p c : Nat) (start k : Int) (s : State) : List (Int × Bool) × State :=
  (List.range 32).foldl (fun (a : List (Int × Bool) × State) (t : Nat) =>
    let r := rsIn p c start (k - (t : Int)) a.2
    (a.1 ++ [r.1], r.2)) ([], s)

/-- R398: R_base lies from 0.4 to 2.0. -/
def baseOk (b : Nat) : Bool := decide (4 * 2 ^ 32 ≤ 10 * b) && decide (b ≤ 2 * 2 ^ 32)

/-- R399: the ratio for an error, clamped to R_base ± 1,000 ppm; the Bool tells a clamp. -/
def rsRatio (base shift : Nat) (err : Int) : Int × Bool :=
  let lim : Int := (base / 1000 : Nat)
  let r := (base : Int) + fdiv err (2 ^ shift)
  let c := Max.max ((base : Int) - lim) (Min.min r ((base : Int) + lim))
  (c, decide (c ≠ r))

/-- R398: with TRACK = 0, R_base is COND_RS_RATIO; with TRACK = 1 it is that of the latest gate. -/
def rsBase (s : State) (ch : Nat) (g : RsGroup) : Option Nat :=
  if s.bget (Reg.COND_RS_CTL ch) 31 then g.base else some (s.rd64 (Reg.COND_RS_RATIO_LO ch))

/-- R400: the table is chosen once R_base is known after a reset, and kept until the next. -/
def rsChoose (g : RsGroup) (base : Nat) : RsGroup :=
  { g with base := some base, table := some (g.table.getD (tableOf base)) }

/-- R401: the first block after R_base is known starts 32 settling samples. -/
def rsSettle (g : RsGroup) (base : Nat) (p : Int) : RsGroup :=
  if g.st = 1 then { g with st := 2, left := 32, p := p, r := base, start := fdiv p (2 ^ 32) } else g

/-- R400: the table in use is table 1. -/
def RsGroup.tbl (g : RsGroup) : Bool := g.table.getD false

/-- R399: the output samples of a receive block. -/
def rxSamples (p : Nat) (chs : List (Nat × Nat)) : Nat → Nat → RsGroup → State → RsGroup × State
  | 0, _, g, s => (g, s)
  | n + 1, i, g, s =>
    let pos := g.p + g.r
    let m := (s.bn - 1) * s.blockLen + i
    let s := chs.foldl (fun s x =>
      if 0 < g.left then condPut m (16 + x.2) 2 s
      else
        let w := rsWindow p x.1 g.start (fdiv pos (2 ^ 32)) s
        condPut m (16 + x.2) (rsOut g.tbl (pos % 2 ^ 32).toNat w.1) w.2) s
    let st := if g.left ≤ 1 then 3 else g.st
    rxSamples p chs n (i + 1) { g with p := pos, left := g.left - 1, st := st } s

/-- A block of one kind of word for a receive group. -/
def rsFlat (chs : List (Nat × Nat)) (v : Nat) (s : State) : State :=
  (List.range s.blockLen).foldl (fun s i => chs.foldl (fun s x => condPut ((s.bn - 1) * s.blockLen + i) (16 + x.2) v s) s) s

/-- R399 to R403: block j of a receive group. -/
def rsReceive (p ch : Nat) (chs : List (Nat × Nat)) (s : State) : State :=
  let g := s.grp (2 * p)
  let ctl := s.rd (Reg.COND_RS_CTL ch)
  let target : Int := (getF ctl 9 0 * 2 ^ 32 : Nat)
  match rsBase s ch g with
  | none => rsReport chs { g with done := true } false false 0 ((rsFlat chs 2 s).setGrp (2 * p) { g with done := true })
  | some base =>
    let g := rsChoose g base
    if !baseOk base then rsReport chs { g with done := true } false true 0 ((rsFlat chs 0 s).setGrp (2 * p) { g with done := true })
    else
      let w : Int := ((s.tdm p).rxBnd * 2 ^ 32 : Nat)
      let b : Int := s.blockLen
      let g := rsSettle g base (w - target - b * (base : Int))
      let frames := s.fget (Reg.TDM_RX_RING p) 28 24 * s.blockLen
      let fill := w - (g.p + b * g.r)
      let slip := decide (fill < 2 ^ 32) || decide (((frames * 2 ^ 32 : Nat) : Int) < w - g.p + 32 * 2 ^ 32)
      let g := if slip then { g with p := w - target - b * g.r } else g
      let s := if slip then fire 0x31 ch (s.count (Reg.COND_RS_SLIP_CNT ch) 1) else s
      let r := rxSamples p chs s.blockLen 0 g s
      let err := w - r.1.p - target
      let nr := rsRatio base (getF ctl 20 16) err
      let g := { r.1 with r := nr.1, done := true }
      rsReport chs g nr.2 false (fdiv (w - g.p) (2 ^ 32)) (r.2.setGrp (2 * p) g)

/-- The egress samples that a transmit group holds of a slot, newest first. -/
def histOf (g : RsGroup) (c : Nat) : List Int := Tab.get (fun _ => []) g.hist c

/-- R399: the frames a transmit block makes, while their input is complete. -/
def txSamples (p : Nat) (last : Int) (chs : List (Nat × Nat)) : Nat → RsGroup → State → RsGroup × State
  | 0, g, s => (g, s)
  | n + 1, g, s =>
    let pos := g.p + g.r
    let k := fdiv pos (2 ^ 32)
    if last < k then (g, s)
    else
      let s := chs.foldl (fun s x =>
        let ins := (List.range 32).map (fun (t : Nat) =>
          if k - (t : Int) ≤ g.start then (0, false) else (nth 0 (histOf g x.1) (last - k + (t : Int)).toNat, false))
        storeWord (tdmAddr s p true g.wr x.1) (toW (if 0 < g.left then 2 else rsOut g.tbl (pos % 2 ^ 32).toNat ins)) false s) s
      let st := if g.left ≤ 1 then 3 else g.st
      let t := s.tdm p
      let s := if g.left = 0 && t.txValid.isNone then s.setTdm p { t with txValid := some g.wr } else s
      txSamples p last chs n { g with p := pos, wr := g.wr + 1, left := g.left - 1, st := st } s

/-- Egress samples of a block, newest first, before the history of a slot. -/
def egressHist (p c : Nat) (old : List Int) (s : State) : List Int × State :=
  if s.bn < 3 then (old, s)
  else
    let r := (List.range s.blockLen).foldl (fun (a : List Int × State) i =>
      let w := routedWord 2 p c (s.bn - 3) i a.2
      (sgn 24 (w.1.toNat / 256) :: a.1, w.2)) (old, s)
    (r.1.take 128, r.2)

/-- R398, R401: a transmit group with no ratio to run at makes every frame of its ring an idle word (`v` = 0) or a settling word
(`v` = 2), so that the port sends 0. -/
def flatRing (p : Nat) (chs : List (Nat × Nat)) (v : Nat) (s : State) : State :=
  (List.range (s.fget (Reg.TDM_TX_RING p) 28 24 * s.blockLen)).foldl (fun s i =>
    chs.foldl (fun s x => storeWord (tdmAddr s p true i x.1) (toW v) false s) s) s

/-- R399: block of a transmit group: the egress samples of this interval become frames of the transmit ring. A slot that comes
into use starts with a history of 0 (log entry 157). -/
def rsTransmit (p ch : Nat) (chs : List (Nat × Nat)) (s : State) : State :=
  let k := 2 * p + 1
  let ctl := s.rd (Reg.COND_RS_CTL ch)
  let target := getF ctl 9 0
  let g := s.grp k
  let h := chs.foldl (fun (a : List (Nat × List Int) × State) x =>
    let r := egressHist p x.1 (histOf g x.1) a.2
    (a.1 ++ [(x.1, r.1)], r.2)) ([], s)
  let g := { g with hist := h.1, done := true }
  let s := h.2
  match rsBase s ch g with
  | none => rsReport chs g false false 0 ((flatRing p chs 2 s).setGrp k g)
  | some base =>
    let g := rsChoose g base
    if !baseOk base then rsReport chs g false true 0 ((flatRing p chs 0 s).setGrp k g)
    else
      let sent := (s.tdm p).txBnd
      let fresh := g.st == 1
      let g := rsSettle g base (((s.bn * s.blockLen : Nat) : Int) * 2 ^ 32 - 2 ^ 32)
      let g := if fresh then { g with wr := sent + target } else g
      let s := if fresh then flatRing p chs 2 s else s
      let frames := s.fget (Reg.TDM_TX_RING p) 28 24 * s.blockLen
      let fill : Int := (g.wr : Int) - (sent : Int)
      let slip := decide (fill < 1) || decide ((frames : Int) < fill + 32)
      let g := if slip then { g with wr := sent + target } else g
      let s := if slip then fire 0x31 ch (s.count (Reg.COND_RS_SLIP_CNT ch) 1) else s
      let fill : Int := (g.wr : Int) - (sent : Int)
      let nr := rsRatio base (getF ctl 20 16) ((fill - (target : Int)) * 2 ^ 32)
      let r := txSamples p (((s.bn + 1) * s.blockLen : Nat) - 1 : Int) chs (3 * s.blockLen) { g with r := nr.1 } s
      rsReport chs r.1 nr.2 false fill (r.2.setGrp k r.1)

/-- R399: a resampler group computes its block, once in each interval, and a receive group before the write path reads it (R21). -/
def rsBlock (p : Nat) (tx : Bool) (s : State) : State :=
  if s.sched.rendering && tdmOn s p && tdmMode s p == 2 && !(s.grp (2 * p + b2n tx)).done && decide (1 ≤ s.bn)
      && (tx || !s.sched.copyDone) then
    match rsChannels s p tx with
    | [] => s
    | (c, ch) :: rest => if tx then rsTransmit p ch ((c, ch) :: rest) s else rsReceive p ch ((c, ch) :: rest) s
  else s

/-- A detector. -/
def State.det (s : State) (k : Nat) : DetSt := Tab.get (fun _ => DetSt.reset) s.cond.dets k

/-- Replace it. -/
def State.setDet (s : State) (k : Nat) (x : DetSt) : State :=
  { s with cond := { s.cond with dets := Tab.put (fun _ => DetSt.reset) s.cond.dets k x } }

/-- R405: one section of a weighting, states x1, x2, y1, y2. -/
def biquad (is48 : Bool) (w i : Nat) (st : List Int) (x : Int) : Int × List Int :=
  let k (c : Nat) : Int := wtTable is48 w i c
  let z (j : Nat) : Int := nth 0 st j
  let y := satS 32 (fdiv (k 0 * x + k 1 * z 0 + k 2 * z 1 - k 3 * z 2 - k 4 * z 3) (2 ^ 30))
  (y, [x, z 0, y, z 2])

/-- R405: the weighting: A three sections, C two, Z none. -/
def weigh (is48 : Bool) (weight : Nat) (sec : List (List Int)) (x : Int) : Int × List (List Int) :=
  if weight = 1 ∨ weight = 2 then
    (List.range (if weight = 1 then 3 else 2)).foldl (fun (a : Int × List (List Int)) i =>
      let r := biquad is48 (weight - 1) i (nth [] sec i) a.1
      (r.1, a.2 ++ [r.2])) (x, [])
  else (x, [])

/-- R405: α. -/
def alphaOf (is48 : Bool) (time : Nat) : Int :=
  if time = 1 then (if is48 then 89478 else 44739) else if is48 then 715768 else 357899

/-- R405: a block's words into a detector; the Bool tells that a valid word was seen. -/
def detWord (is48 : Bool) (a : DetSt × Bool) (w : RdRes) : DetSt × Bool :=
  if w.bad || !bitOf w.val.toNat 0 then a
  else
    let r := weigh is48 (getF a.1.ctl 25 24) a.1.sec (sgn 32 (w.val.toNat / 256 * 256))
    let pw := (r.1 * r.1).toNat
    let time := getF a.1.ctl 21 20
    let e : Nat := if time = 2 then (if a.2 then Nat.max a.1.e pw else pw)
      else ((a.1.e : Int) + fdiv (((pw : Int) - (a.1.e : Int)) * alphaOf is48 time) (2 ^ 32)).toNat
    ({ a.1 with sec := r.2, e := e }, true)

/-- R406: the level of a power. -/
def detLevel (e : Nat) (cal : Int) : Int :=
  if e = 0 then -32768 else satS 16 (Fx.round (1280 * Fx.div (Fx.lnNat e - 62 * Fx.ln2) Fx.ln10) + cal)

/-- R408: the settings whose change clears a detector: ENABLE, WEIGHT, TIME, SRC. -/
def detKey (ctl : Nat) : Nat := ctl &&& 0x8330007F

/-- R408: warm-up blocks. -/
def warmBlocks (time : Nat) : Nat := if time = 2 then 1 else if time = 1 then 3000 else 375

/-- R409: a queue word. -/
def levelWord (kind k : Nat) (l : Int) (j : Nat) : BitVec 60 :=
  BitVec.ofNat 60 (kind * 2 ^ 56 + k * 2 ^ 48 + uns 16 l * 2 ^ 32 + j % 2 ^ 32)

/-- R407 to R409: an evaluated block of a detector; the Bool tells a transition. -/
def detJudge (k : Nat) (x : DetSt) (s : State) : State × Bool :=
  let j := s.bn - 1
  let thr := condPrev s (Reg.COND_DET_THR k)
  let l := detLevel x.e (sgn 16 (condPrev s (Reg.COND_DET_CAL k)))
  let a := Reg.COND_DET_LEVEL k
  let above := s.bget a 31
  let up := 0 == x.warm && !above && decide (sgn 16 thr ≤ l)
  let down := 0 == x.warm && above && decide (l < sgn 16 thr - (getF thr 31 16 : Nat))
  let s := s.setDet k { x with warm := x.warm - 1 }
  let s := s.wr a (b2n ((above || up) && !down) * 2 ^ 31 + b2n (decide (1 < x.warm)) * 2 ^ 30 + uns 16 l)
  let s := s.fset (Reg.COND_DET_MAX k) 15 0 (uns 16 (Max.max l (sgn 16 (s.rd (Reg.COND_DET_MAX k)))))
  let s := if up then s.count (Reg.COND_DET_UP_CNT k) 1 else s
  let evt := bitOf x.ctl 19
  let s := if evt && (up || down) then push 17 [levelWord (if up then 1 else 2) k l j] s else s
  let div := condPrev s (Reg.COND_DET_REPORT k) % 2 ^ 16
  let s := if evt && decide (div ≠ 0) && j % div == 0 then push 17 [levelWord 3 k l j] s else s
  (s, up || down)

/-- R405 to R409: block j in detector `k`. -/
def detBlock (k : Nat) (s : State) : State × Bool :=
  let ctl := condPrev s (Reg.COND_DET_CTL k)
  let a := Reg.COND_DET_LEVEL k
  let old := s.det k
  let x : DetSt := if detKey old.ctl = detKey ctl then { old with ctl := ctl }
    else { DetSt.reset with ctl := ctl, warm := if bitOf ctl 31 then warmBlocks (getF ctl 21 20) else 0 }
  if !bitOf ctl 31 then ((s.setDet k { DetSt.reset with ctl := ctl }).fset a 31 30 0, false)
  else
    let s := if bitOf old.ctl 31 then s else s.bset a 31 false
    let s := s.bset a 30 (decide (0 < x.warm))
    let r := (List.range s.blockLen).foldl (fun (b : (DetSt × Bool) × State) i =>
      let w := readWord (condAddr s ((s.bn - 1) * s.blockLen + i) (getF ctl 6 0)) b.2
      (detWord s.is48 b.1 w.1, w.2)) ((x, false), s)
    if r.1.2 then detJudge k r.1.1 r.2 else (r.2.setDet k r.1.1, false)

/-- R410: the guard bits. -/
def guardBits (s : State) : Nat :=
  (List.range 32).foldl (fun a k =>
    if bitOf (condPrev s (Reg.COND_DET_CTL k)) 31 && s.bget (Reg.COND_DET_LEVEL k) 31 then
      a ||| (condPrev s (Reg.COND_DET_ZONES_LO k) + condPrev s (Reg.COND_DET_ZONES_HI k) * 2 ^ 32)
    else a) 0

/-- R21, R389: the chain and the receive groups have written the block in ingress, so that the conditioning output ring is
sealed. -/
def ringSealed (s : State) : Bool :=
  s.cond.done && (List.range 32).all (fun p =>
    !(tdmOn s p && tdmMode s p == 2 && !(rsChannels s p false).isEmpty) || (s.grp (2 * p)).done)

/-- R407 to R410: every detector evaluates block j, once in each interval, when the output ring is sealed. -/
def detectors (s : State) : State :=
  if s.sched.rendering && ringSealed s && !s.cond.judged then
    let s := s.reach 1024
    let r := (List.range 32).foldl (fun (a : State × Option Nat) k =>
      let d := detBlock k a.1
      (d.1, match a.2 with
        | some f => some f
        | none => if d.2 then some k else none)) (s, none)
    let s := r.1.wr64 Reg.COND_GUARD_LO (guardBits r.1)
    let s := { s with cond := { s.cond with judged := true } }
    match r.2 with
    | some k => fire 0x30 k s
    | none => s
  else s

/-- R71, R72, R270: the source-buffer word of MST `m` for a source, as the write path takes it. -/
def sourceWord (src m : Nat) (s : State) : Word × State :=
  let take (r : RdRes × State) : Word × State := (if r.1.bad then r.1.val ||| 0x80 else r.1.val, r.2)
  let kind := getF src 31 28
  if kind = 1 then
    let n := getF src 25 16
    let c := getF src 5 0
    if rxLive s n && decide (c < rxChannels s n) then
      take (readWord (commonsAddr (frameWord s n (if rxSpill s n then 2 else rxBlocks s n) m c)) s)
    else (0, s)
  else if kind = 2 then
    let p := getF src 20 16
    let c := getF src 4 0
    if tdmOn s p && tdmMode s p ≠ 2 && decide (c < tdmSlots s p) then take (readWord (tdmAddr s p false m c) s) else (0, s)
  else if kind = 3 then
    let c := getF src 6 0
    if c < 80 then take (readWord (condAddr s m c) s) else (0, s)
  else (0, s)

/-- R71, R123: the block in ingress of one object. -/
def copyObject (o : Nat) (s : State) : State :=
  let src := (nth 0 (s.obj o).words 1).toNat
  (List.range s.blockLen).foldl (fun s i =>
    let m := (s.bn - 1) * s.blockLen + i
    let w := sourceWord src m s
    storeWord (histAddr s.scene.wideR o m) (w.1 &&& 0xFFFFFF80) false w.2) s

/-- R123, R124: LIVE and RELEASING objects that no core feeds. -/
def copied (s : State) : List (Nat × Obj) := s.scene.objs.filter (fun p => p.2.alive && p.2.kind != 4)

/-- R123: the write path copies block i − 1 of every LIVE or RELEASING object that no core feeds. -/
def copyNow (s : State) : State :=
  if s.sched.rendering && !s.sched.copyDone && decide (1 ≤ s.bn) then
    let s := ((copied s).map (fun p => p.1)).foldl (fun s o => copyObject o s) s
    { s with sched := { s.sched with copyDone := true } }
  else s

/-- R21, R373, R389: the first cycle at which the write path may read every source it copies: 1,024 for the conditioning output
ring, 512 for a TDM ring, 16 for any other. -/
def sealCycle (s : State) : Nat :=
  (copied s).foldl (fun c p => Nat.max c (if p.2.kind = 3 then 1024 else if p.2.kind = 2 then 512 else 16)) 16

/-- R21, R28: the copy within its slot, once the rings are sealed. -/
def copyBlock (s : State) : State :=
  if ringSealed s && decide (s.sched.cycle ≤ 7999) && s.sched.rendering && !s.sched.copyDone then copyNow (s.reach (sealCycle s)) else s

/-- COND_BLOCK_OUTPUT (R389): the bits each delta-sigma input presented in block j, in order from bit 0. -/
def execCondBlockOutput (bits : List Nat) (s : State) : Host.Outcome State Fault Refusal := .next (condBlock bits s)

/-- RESAMPLER_BLOCK (R399). -/
def execResamplerBlock (port : Nat) (tx : Bool) (s : State) : Host.Outcome State Fault Refusal := .next (rsBlock port tx s)

/-- LEVEL_DETECTOR_EVALUATION (R405 to R410). -/
def execLevelDetectorEvaluation (s : State) : Host.Outcome State Fault Refusal := .next (detectors s)

/-- INKWELL_WRITE_PATH_COPY (R20, R21, R23, R71, R123). -/
def execInkwellWritePathCopy (s : State) : Host.Outcome State Fault Refusal := .next (copyBlock s)

end Sys2Proof.Machine
end

