-- ==== Sys2Proof/Machine/Crypto.lean ====
section
/-! DEFINITION. The algorithms that the security unit and the twin controller name by their standards (R451, R500, R511, R515): SHA-384
of FIPS 180-4, AES of FIPS 197 with CMAC (NIST SP 800-38B) and GCM (NIST SP 800-38D), and ECDSA over P-384 of FIPS 186-5. Their
contents are those of the standards (PRESUMED, log entry 6). -/

namespace Sys2Proof.Machine

/-! SHA-384. -/

/-- The 80 constants of SHA-512: the fractional parts of the cube roots of the first 80 primes. -/
def shaK : List Nat :=
  [0x428A2F98D728AE22, 0x7137449123EF65CD, 0xB5C0FBCFEC4D3B2F, 0xE9B5DBA58189DBBC,
   0x3956C25BF348B538, 0x59F111F1B605D019, 0x923F82A4AF194F9B, 0xAB1C5ED5DA6D8118,
   0xD807AA98A3030242, 0x12835B0145706FBE, 0x243185BE4EE4B28C, 0x550C7DC3D5FFB4E2,
   0x72BE5D74F27B896F, 0x80DEB1FE3B1696B1, 0x9BDC06A725C71235, 0xC19BF174CF692694] ++
  [0xE49B69C19EF14AD2, 0xEFBE4786384F25E3, 0x0FC19DC68B8CD5B5, 0x240CA1CC77AC9C65,
   0x2DE92C6F592B0275, 0x4A7484AA6EA6E483, 0x5CB0A9DCBD41FBD4, 0x76F988DA831153B5,
   0x983E5152EE66DFAB, 0xA831C66D2DB43210, 0xB00327C898FB213F, 0xBF597FC7BEEF0EE4,
   0xC6E00BF33DA88FC2, 0xD5A79147930AA725, 0x06CA6351E003826F, 0x142929670A0E6E70] ++
  [0x27B70A8546D22FFC, 0x2E1B21385C26C926, 0x4D2C6DFC5AC42AED, 0x53380D139D95B3DF,
   0x650A73548BAF63DE, 0x766A0ABB3C77B2A8, 0x81C2C92E47EDAEE6, 0x92722C851482353B,
   0xA2BFE8A14CF10364, 0xA81A664BBC423001, 0xC24B8B70D0F89791, 0xC76C51A30654BE30,
   0xD192E819D6EF5218, 0xD69906245565A910, 0xF40E35855771202A, 0x106AA07032BBD1B8] ++
  [0x19A4C116B8D2D0C8, 0x1E376C085141AB53, 0x2748774CDF8EEB99, 0x34B0BCB5E19B48A8,
   0x391C0CB3C5C95A63, 0x4ED8AA4AE3418ACB, 0x5B9CCA4F7763E373, 0x682E6FF3D6B2B8A3,
   0x748F82EE5DEFB2FC, 0x78A5636F43172F60, 0x84C87814A1F0AB72, 0x8CC702081A6439EC,
   0x90BEFFFA23631E28, 0xA4506CEBDE82BDE9, 0xBEF9A3F7B2C67915, 0xC67178F2E372532B] ++
  [0xCA273ECEEA26619C, 0xD186B8C721C0C207, 0xEADA7DD6CDE0EB1E, 0xF57D4F7FEE6ED178,
   0x06F067AA72176FBA, 0x0A637DC5A2C898A6, 0x113F9804BEF90DAE, 0x1B710B35131C471B,
   0x28DB77F523047D84, 0x32CAAB7B40C72493, 0x3C9EBE0A15C9BEBC, 0x431D67C49C100D4C,
   0x4CC5D4BECB3E42B6, 0x597F299CFC657E2A, 0x5FCB6FAB3AD6FAEC, 0x6C44198C4A475817]

/-- The initial hash value of SHA-384. -/
def shaInit : List Nat :=
  [0xCBBB9D5DC1059ED8, 0x629A292A367CD507, 0x9159015A3070DD17, 0x152FECD8F70E5939,
   0x67332667FFC00B31, 0x8EB44A8768581511, 0xDB0C2E0D64F98FA7, 0x47B5481DBEFA4FA4]

/-- A 64-bit word rotated right. -/
def rotr64 (x n : Nat) : Nat := x / 2 ^ n ||| x * 2 ^ (64 - n) % 2 ^ 64

/-- The word that follows a window of 16 words of the message schedule. -/
def shaNext (w : List Nat) : Nat :=
  let a := nth 0 w 14
  let b := nth 0 w 1
  ((rotr64 a 19 ^^^ rotr64 a 61 ^^^ a / 2 ^ 6) + nth 0 w 9 + (rotr64 b 1 ^^^ rotr64 b 8 ^^^ b / 2 ^ 7) + nth 0 w 0) % 2 ^ 64

/-- One round with a constant and a word of the schedule. -/
def shaRound (st : List Nat) (k w : Nat) : List Nat :=
  match st with
  | [a, b, c, d, e, f, g, h] =>
    let t1 := h + (rotr64 e 14 ^^^ rotr64 e 18 ^^^ rotr64 e 41) + ((e &&& f) ^^^ ((2 ^ 64 - 1 - e) &&& g)) + k + w
    let t2 := (rotr64 a 28 ^^^ rotr64 a 34 ^^^ rotr64 a 39) + ((a &&& b) ^^^ (a &&& c) ^^^ (b &&& c))
    [(t1 + t2) % 2 ^ 64, a, b, c, (d + t1) % 2 ^ 64, e, f, g]
  | st => st

/-- The rounds of the constants that remain, the schedule's next 16 words at hand. -/
def shaRounds : List Nat → List Nat → List Nat → List Nat
  | [], _, st => st
  | k :: ks, win, st => shaRounds ks (win.drop 1 ++ [shaNext win]) (shaRound st k (nth 0 win 0))

/-- The 16 big-endian words of a block of 128 bytes. -/
def shaWords (bs : List Byte) : List Nat := (List.range 16).map (fun i => beNat (slice bs (8 * i) 8))

/-- `n` blocks of a padded message into the hash value. -/
def shaBlocks : Nat → List Byte → List Nat → List Nat
  | 0, _, st => st
  | n + 1, bs, st =>
    shaBlocks n (bs.drop 128) ((st.zip (shaRounds shaK (shaWords bs) st)).map (fun p => (p.1 + p.2) % 2 ^ 64))

/-- The padded message: a 1 bit, zeros, and the length in bits as 16 bytes. -/
def shaPad (bs : List Byte) : List Byte :=
  bs ++ [0x80] ++ List.replicate ((239 - bs.length % 128) % 128) 0 ++ beBytes 16 (8 * bs.length)

/-- FIPS 180-4: SHA-384 of a string of bytes. -/
@[irreducible] def sha384 (bs : List Byte) : BitVec 384 :=
  let m := shaPad bs
  BitVec.ofNat 384 (((shaBlocks (m.length / 128) m shaInit).take 6).foldl (fun a w => a * 2 ^ 64 + w) 0)

/-! AES. -/

/-- A field element times x, modulo x⁸ + x⁴ + x³ + x + 1. -/
def gfDouble (a : Nat) : Nat := if 128 ≤ a then (2 * a ^^^ 0x11B) else 2 * a

/-- The product of two field elements, over `n` bits of the second. -/
def gfMul : Nat → Nat → Nat → Nat
  | 0, _, _ => 0
  | n + 1, a, b => (if b % 2 = 1 then a else 0) ^^^ gfMul n (gfDouble a) (b / 2)

/-- a · a² · a⁴ …, `n` factors: with a² and seven factors, the inverse a²⁵⁴. -/
def gfChain : Nat → Nat → Nat
  | 0, _ => 1
  | n + 1, a => gfMul 8 a (gfChain n (gfMul 8 a a))

/-- A byte rotated left. -/
def rotl8 (x n : Nat) : Nat := x * 2 ^ n % 256 ||| x / 2 ^ (8 - n)

/-- FIPS 197: the S-box. -/
def aesSub (a : Nat) : Nat :=
  let b := gfChain 7 (gfMul 8 a a)
  b ^^^ rotl8 b 1 ^^^ rotl8 b 2 ^^^ rotl8 b 3 ^^^ rotl8 b 4 ^^^ 0x63

/-- The S-box as a table. -/
def aesBox : List Nat := (List.range 256).map aesSub

/-- The S-box of a byte. -/
def sub8 (b : Nat) : Nat := nth 0 aesBox b

/-- Byte by byte, exclusive or. -/
def xorList (a b : List Nat) : List Nat := (a.zip b).map (fun p => p.1 ^^^ p.2)

/-- FIPS 197: one word of the key schedule, from the words before it, latest first; `nk` words of key, `i` the index. -/
def aesKeyWord (nk i : Nat) (ws : List (List Nat)) (rc : Nat) : List Nat :=
  let t := nth [] ws 0
  let t := if i % nk = 0 then xorList ((t.drop 1 ++ t.take 1).map sub8) [rc, 0, 0, 0]
    else if 6 < nk && i % nk = 4 then t.map sub8 else t
  xorList (nth [] ws (nk - 1)) t

/-- The key schedule, latest word first; `n` words remain. -/
def aesExpand (nk : Nat) : Nat → Nat → Nat → List (List Nat) → List (List Nat)
  | 0, _, _, ws => ws
  | n + 1, i, rc, ws => aesExpand nk n (i + 1) (if i % nk = 0 then gfDouble rc else rc) (aesKeyWord nk i ws rc :: ws)

/-- Words of four bytes. -/
def quads : Nat → List Nat → List (List Nat)
  | 0, _ => []
  | n + 1, bs => bs.take 4 :: quads n (bs.drop 4)

/-- The round keys of a key of `4 · nk` bytes, 16 bytes each. -/
def aesKeys (nk : Nat) (key : List Nat) : List (List Nat) :=
  let ws := (aesExpand nk (4 * (nk + 7) - nk) nk 1 (quads nk key).reverse).reverse
  (List.range (nk + 7)).map (fun r => ((ws.drop (4 * r)).take 4).flatMap (fun w => w))

/-- FIPS 197: SubBytes and ShiftRows. -/
def aesShift (st : List Nat) : List Nat := (List.range 16).map (fun i => sub8 (nth 0 st ((i + 4 * (i % 4)) % 16)))

/-- FIPS 197: MixColumns. -/
def aesMix (st : List Nat) : List Nat :=
  (List.range 16).map (fun i =>
    let at' (k : Nat) : Nat := nth 0 st (i / 4 * 4 + (i + k) % 4)
    gfDouble (at' 0) ^^^ (gfDouble (at' 1) ^^^ at' 1) ^^^ at' 2 ^^^ at' 3)

/-- The rounds of the keys that remain; the last one does not mix. -/
def aesRounds : List (List Nat) → List Nat → List Nat
  | [], st => st
  | [k], st => xorList (aesShift st) k
  | k :: ks, st => aesRounds ks (xorList (aesMix (aesShift st)) k)

/-- FIPS 197: a block of 16 bytes under round keys. -/
def aesBlock (keys : List (List Nat)) (st : List Nat) : List Nat := aesRounds (keys.drop 1) (xorList st (nth [] keys 0))

/-- Bytes as numbers. -/
def byteNats (bs : List Byte) : List Nat := bs.map (fun b => b.toNat)

/-- `n` bytes of a number, big-endian, as numbers. -/
def natList (n v : Nat) : List Nat := byteNats (beBytes n v)

/-- The number of a big-endian list. -/
def listNat (l : List Nat) : Nat := l.foldl (fun a b => a * 256 + b) 0

/-- AES on 128-bit numbers. -/
def aesNat (keys : List (List Nat)) (x : Nat) : Nat := listNat (aesBlock keys (natList 16 x))

/-! CMAC. -/

/-- SP 800-38B: a subkey step, multiplication by x in the field of 128 bits. -/
def cmacDouble (x : Nat) : Nat := (2 * x % 2 ^ 128) ^^^ (if 2 ^ 127 ≤ x then 0x87 else 0)

/-- SP 800-38B: the chain over `n` whole blocks before the last. -/
def cmacChain (keys : List (List Nat)) : Nat → List Byte → Nat → Nat × List Byte
  | 0, bs, x => (x, bs)
  | n + 1, bs, x => cmacChain keys n (bs.drop 16) (aesNat keys (x ^^^ beNat (bs.take 16)))

/-- SP 800-38B: AES-128-CMAC. -/
@[irreducible] def cmac (key : BitVec 128) (bs : List Byte) : BitVec 128 :=
  let keys := aesKeys 4 (natList 16 key.toNat)
  let k1 := cmacDouble (aesNat keys 0)
  let r := cmacChain keys ((bs.length - 1) / 16) bs 0
  let last := if r.2.length = 16 then beNat r.2 ^^^ k1
    else beNat (r.2 ++ [0x80] ++ List.replicate (15 - r.2.length) 0) ^^^ cmacDouble k1
  BitVec.ofNat 128 (aesNat keys (r.1 ^^^ last))

/-! GCM. -/

/-- SP 800-38D: the product of two blocks, over `n` bits of the first, the most significant first. -/
def ghashMul : Nat → Nat → Nat → Nat
  | 0, _, _ => 0
  | n + 1, x, v =>
    (if bitOf x n then v else 0) ^^^ ghashMul n x (v / 2 ^^^ (if v % 2 = 1 then 0xE1 * 2 ^ 120 else 0))

/-- SP 800-38D: GHASH over `n` blocks, the last one completed with zeros. -/
def ghash (h : Nat) : Nat → List Byte → Nat → Nat
  | 0, _, y => y
  | n + 1, bs, y =>
    let b := bs.take 16
    ghash h n (bs.drop 16) (ghashMul 128 (y ^^^ beNat (b ++ List.replicate (16 - b.length) 0)) h)

/-- SP 800-38D: counter mode over `n` blocks; the counter stands in the low 32 bits. -/
def gctr (keys : List (List Nat)) : Nat → Nat → List Byte → List Byte
  | 0, _, _ => []
  | n + 1, ctr, bs =>
    let next := ctr / 2 ^ 32 * 2 ^ 32 + (ctr + 1) % 2 ^ 32
    ((bs.take 16).zip (beBytes 16 (aesNat keys next))).map (fun p => p.1 ^^^ p.2) ++ gctr keys n next (bs.drop 16)

/-- Blocks of 16 bytes that a string needs. -/
def blocks16 (bs : List Byte) : Nat := (bs.length + 15) / 16

/-- SP 800-38D: AES-256-GCM opening under key, nonce of 12 bytes, additional data, ciphertext and tag; none if the tag fails. -/
@[irreducible] def gcmOpen (key : BitVec 256) (iv aad ct tag : List Byte) : Option (List Byte) :=
  let keys := aesKeys 8 (natList 32 key.toNat)
  let h := aesNat keys 0
  let j0 := beNat iv * 2 ^ 32 + 1
  let y := ghash h (blocks16 ct) ct (ghash h (blocks16 aad) aad 0)
  let y := ghashMul 128 (y ^^^ (8 * aad.length * 2 ^ 64 + 8 * ct.length)) h
  if beBytes 16 (y ^^^ aesNat keys j0) = tag then some (gctr keys (blocks16 ct) j0 ct) else none

/-! ECDSA over P-384. -/

/-- FIPS 186-5, SP 800-186: the field, the order of the group, the coefficient b, and the generator. -/
def p384 : Nat := 2 ^ 384 - 2 ^ 128 - 2 ^ 96 + 2 ^ 32 - 1
def n384 : Nat := 0xFFFFFFFFFFFFFFFFFFFFFFFFFFFFFFFFFFFFFFFFFFFFFFFFC7634D81F4372DDF581A0DB248B0A77AECEC196ACCC52973
def b384 : Nat := 0xB3312FA7E23EE7E4988E056BE3F82D19181D9C6EFE8141120314088F5013875AC656398D8A2ED19D2A85C8EDD3EC2AEF
def g384 : Option (Nat × Nat) :=
  some (0xAA87CA22BE8B05378EB1C71EF320AD746E1D3B628BA79B9859F741E082542A385502F25DBF55296C3A545E3872760AB7,
    0x3617DE4A96262C6F5D9E98BF9292DC29F8F41DBD289A147CE9DA3113B5F0B8C00A60B1CE1D7E819D7A431D7C90EA0E5F)

/-- A power modulo `m`, over `n` bits of the exponent. -/
def powMod (m : Nat) : Nat → Nat → Nat → Nat
  | 0, _, _ => 1
  | n + 1, a, e =>
    let r := powMod m n (a * a % m) (e / 2)
    if e % 2 = 1 then a * r % m else r

/-- The inverse modulo a prime. -/
def invMod (m a : Nat) : Nat := powMod m 384 (a % m) (m - 2)

/-- The sum of two points of the curve; none is the point at infinity. -/
def addPoint (a b : Option (Nat × Nat)) : Option (Nat × Nat) :=
  match a, b with
  | none, b => b
  | a, none => a
  | some (x, y), some (u, v) =>
    if x = u && (y + v) % p384 = 0 then none
    else
      let l := if x = u then (3 * x * x + (p384 - 3)) * invMod p384 (2 * y) % p384
        else (v + (p384 - y)) * invMod p384 (u + (p384 - x)) % p384
      let w := (l * l + 2 * p384 - x - u) % p384
      some (w, (l * (x + (p384 - w)) + (p384 - y)) % p384)

/-- A multiple of a point, over `n` bits of the factor. -/
def mulPoint : Nat → Nat → Option (Nat × Nat) → Option (Nat × Nat)
  | 0, _, _ => none
  | n + 1, k, q =>
    let r := mulPoint n (k / 2) (addPoint q q)
    if k % 2 = 1 then addPoint q r else r

/-- A point of the curve in affine coordinates. -/
def onCurve (x y : Nat) : Bool :=
  decide (x < p384) && decide (y < p384) && (y * y % p384 == (x * x * x + (p384 - 3) * x + b384) % p384)

/-- FIPS 186-5: the signature (r, then s) over a digest verifies under an uncompressed public key of 97 bytes. -/
@[irreducible] def ecdsaOk (pub : List Byte) (digest : BitVec 384) (sig : List Byte) : Bool :=
  let x := beNat (slice pub 1 48)
  let y := beNat (slice pub 49 48)
  let r := beNat (slice sig 0 48)
  let s := beNat (slice sig 48 48)
  pub.length == 97 && pub.take 1 == [0x04] && sig.length == 96 && onCurve x y
    && decide (0 < r) && decide (r < n384) && decide (0 < s) && decide (s < n384)
    && (let w := invMod n384 s
        match addPoint (mulPoint 384 (digest.toNat * w % n384) g384) (mulPoint 384 (r * w % n384) (some (x, y))) with
        | some q => q.1 % n384 == r
        | none => false)

end Sys2Proof.Machine
end

