-- ==== Sys2Proof/Machine/Time.lean ====
section
/-! DEFINITION. The Time unit (R297 to R319) and the media clock (R308 to R321): counter, servo state, steps, anchors, pins, lock. -/

namespace Sys2Proof.Machine

/-- R297: the counter's range in units of 2⁻³² ns. -/
def ptpMod : Nat := 2 ^ 48 * 10 ^ 9 * 2 ^ 32

/-- R297: the counter after a signed change. -/
def ptpAdd (p : Nat) (d : Int) : Nat := (((p : Int) + d) % (ptpMod : Int)).toNat

/-- R297: units of 2⁻³² ns that the counter gains in a PTP cycle of 8 ns. -/
def ptpStep (s : State) : Nat := (8 * 2 ^ 32 + sgn 32 (s.rd Reg.TIME_FREQ)).toNat

/-- R318, R320: the pins as the counter comes to `p` and the time since power-up to `up`: a whole second passed makes PPS_OUT due
to rise, and WCLK_OUT at Fs falls half a period after its edge. -/
def pinsAfter (p up : Nat) (s : State) : TimeSt :=
  let t := s.time
  let whole (x : Nat) : Nat := x / 2 ^ 32 / 10 ^ 9
  let low := t.wclkMode == 1 && decide (10 ^ 9 * 2 ^ 32 ≤ (up * 2 ^ 32 - t.edgeAt) * (2 * s.fs))
  { t with ptp := p, ppsDue := t.ppsDue || (s.bget Reg.TIME_PPS_CTL 31 && whole p != whole t.ptp), wclkOut := t.wclkOut && !low }

/-- R297: `n` PTP cycles pass: the counter, the time since power-up and the CORE cycle of the interval advance, and words in
transit arrive (R45). -/
def passTime (n : Nat) (s : State) : State :=
  let s := if n = 0 then s else arriveAll s
  { s with time := pinsAfter (ptpAdd s.time.ptp ((n : Int) * (ptpStep s : Int))) (s.sched.up + 8 * n) s
           sched := { s.sched with up := s.sched.up + 8 * n, cycle := s.sched.cycle + (if s.lowPower then 8 * n else 48 * n / 5) } }

/-- One AON cycle of 40 ns with no command waiting (log entry 4): 5 PTP cycles pass, or, in STANDBY and OFF, only AON time. -/
def idleTick (s : State) : State :=
  if s.coreOn then passTime 5 s else { s with sched := { s.sched with up := s.sched.up + 40 } }

/-- R302: the four words of a reading in sixteenths of a nanosecond: sixteenths, nanoseconds, seconds low, seconds high. -/
def timeWords (t : Nat) : List Nat :=
  let ns := t / 16
  let sec := ns / 10 ^ 9
  [t % 16, ns % 10 ^ 9, sec % 2 ^ 32, sec / 2 ^ 32 % 2 ^ 16]

/-- R302, R323: the counter in sixteenths of a nanosecond. -/
def State.now16 (s : State) : Nat := s.time.ptp / 2 ^ 28

/-- R314: the 64-bit signed value of an offset. -/
def wrap64 (x : Int) : Int := sgn 64 (uns 64 x)

/-- R305, R307, R314: what every step of the counter by `d` sixteenths brings. -/
def noteStep (d : Int) (s : State) : State :=
  let s := (s.bset Reg.TIME_STATUS 0 true).count Reg.TIME_STEP_CNT 1
  let s := fire 0x1C 0 s
  let recent := s.time.steps.filter (fun x => decide (s.sched.up ≤ x.1 + 1000000))
  { s with time := { s.time with oReq := wrap64 (s.time.oReq + d), anchorDue := s.sched.rendering || s.time.anchorDue
                                 steps := (s.sched.up, d) :: recent } }

/-- R307: the counter steps by `d` sixteenths. -/
def stepBy (d : Int) (s : State) : State :=
  noteStep d { s with time := { s.time with ptp := ptpAdd s.time.ptp (d * 2 ^ 28) } }

/-- R306: entry to HOLDOVER. -/
def enterHold (s : State) : State :=
  if s.time.servo = 2 then s
  else fire 0x1D 0 ((({ s with time := { s.time with servo := 2 } }).bset Reg.TIME_STATUS 1 true).count Reg.TIME_HOLD_CNT 1)

/-- A word held for a later write of its partner. -/
def State.heldWord (s : State) (off : Nat) : Nat := (Tab.get (fun _ => (0 : Word)) s.held off).toNat

/-- Hold a word. -/
def State.holdWord (s : State) (off : Nat) (v : Word) : State := { s with held := Tab.put (fun _ => 0) s.held off v }

/-- R306, R307: a write of TIME_OFS_HI. -/
def ofsHiWrite (v : Word) (s : State) : State :=
  if s.served Reg.TIME_OFS_HI && !s.bget Reg.TIME_CTL 0 then
    let raw := v.toNat * 2 ^ 32 + s.heldWord Reg.TIME_OFS_LO
    let ofs := sgn 64 raw
    let s := s.wr64 Reg.TIME_OFS_LO raw
    let s := { s with time := { s.time with servo := 1, ofsAge := s.sched.up } }
    if 16 * s.rd Reg.TIME_STEP_THR < ofs.natAbs then stepBy (-ofs) s else s
  else s

/-- R315: a pending commit stages O := O_req as it stands. -/
def anchorPending (s : State) : Bool :=
  s.sched.commits.any (fun c => c.items.any (fun i => i == .anchor s.time.oReq))

/-- R314, R315: the Time unit seals its anchor commit, or has it refused. -/
def sealAnchor (s : State) : State :=
  let s := { s with time := { s.time with anchorDue := false } }
  if !s.sched.rendering then s
  else if (refusals (s.bn + 2) s).any then { s with time := { s.time with anchorRetry := true } }
  else (stage (s.bn + 2) [.anchor s.time.oReq] [] s).2

/-- R314: the commit that a step asks for. -/
def doAnchor (s : State) : State := if s.time.anchorDue then sealAnchor s else s

/-- R315, R316: the Time unit's work at a boundary; `was` tells that the interval before it rendered. -/
def anchorBoundary (was : Bool) (s : State) : State :=
  if !was || !s.sched.rendering then { s with time := { s.time with o := s.time.oReq, anchorRetry := false, anchorDue := false } }
  else if s.time.anchorRetry then
    let s := { s with time := { s.time with anchorRetry := false } }
    if anchorPending s || s.time.o == s.time.oReq then s else sealAnchor (s.count Reg.TIME_ANCHOR_RETRY_CNT 1)
  else s

/-- R298: a write of TIME_FREQ. -/
def freqWrite (v : Word) (s : State) : State :=
  if s.served Reg.TIME_FREQ && s.time.servo ≠ 2 then
    let recent := s.time.freqs.filter (fun x => decide (s.sched.up ≤ x.1 + 1000000))
    { s.wr Reg.TIME_FREQ (uns 32 (Max.max (-3092376) (Min.min v.toInt 3092376))) with
        time := { s.time with freqs := (s.sched.up, sgn 32 (s.rd Reg.TIME_FREQ)) :: recent } }
  else s

/-- R306: a write of TIME_GM_ID_HI. -/
def gmIdWrite (v : Word) (s : State) : State :=
  if s.served Reg.TIME_GM_ID_HI then
    let id := v.toNat * 2 ^ 32 + s.heldWord Reg.TIME_GM_ID_LO
    let s' := s.wr64 Reg.TIME_GM_ID_LO id
    if s.time.servo = 1 && id != s.rd64 Reg.TIME_GM_ID_LO then enterHold s' else s'
  else s

/-- R306: a write of TIME_CTL. -/
def timeCtlWrite (v : Word) (s : State) : State :=
  if s.served Reg.TIME_CTL then
    let s := s.bset Reg.TIME_CTL 0 (bitOf v.toNat 0)
    if bitOf v.toNat 0 then enterHold s else s
  else s

/-- R306: the offset watchdog. -/
def syncTimeout (s : State) : State :=
  let ms := s.fget Reg.TIME_SYNC_TIMEOUT 15 0
  if s.time.servo = 1 && ms != 0 && decide (s.time.ofsAge + ms * 1000000 ≤ s.sched.up) then enterHold s else s

/-- R323: a write of TIME_NOW_SEC_HI loads the counter with the held values. -/
def nowSecWrite (v : Word) (s : State) : State :=
  let ns := s.heldWord Reg.TIME_NOW_NS % 2 ^ 30
  if s.served Reg.TIME_NOW_SEC_HI && decide (ns ≤ 999999999) then
    let sec := v.toNat % 2 ^ 16 * 2 ^ 32 + s.heldWord Reg.TIME_NOW_SEC_LO
    let t : Nat := (sec * 10 ^ 9 + ns) * 16 + s.heldWord Reg.TIME_NOW_SUB % 16
    noteStep ((t : Int) - (s.now16 : Int)) { s with time := { s.time with ptp := t * 2 ^ 28 } }
  else s

/-- R18: latch the words of a group after its first for a master. -/
def latchWords (m : Master) (off : Nat) : List Nat → State → State
  | [], s => s
  | w :: ws, s => latchWords m (off + 4) ws (s.latch m off (toW w))

/-- R304: a read of TIME_TXTS_ID. -/
def txtsRead (m : Master) (p : Nat) (s : State) : State :=
  if p < 16 && s.served (Reg.TIME_TXTS_ID p) then
    match Tab.get (fun _ => []) s.time.txts p with
    | [] => s.answer 0
    | (id, t) :: rest =>
      let w := timeWords t
      let s := { s with time := { s.time with txts := Tab.put (fun _ => []) s.time.txts p rest } }
      (latchWords m (Reg.TIME_TXTS_NS p) (w.drop 1) s).answer (toW (2 ^ 31 + rest.length * 2 ^ 20 + nth 0 w 0 * 2 ^ 16 + id))
  else s.answer 0

/-- R318: PPS_OUT rises once the counter has passed a whole second. -/
def ppsRise (s : State) : State :=
  if s.time.ppsDue then { s with time := { s.time with pps := true, ppsDue := false, ppsAt := s.sched.up } } else s

/-- R318: PPS_OUT falls WIDTH milliseconds after its rise. -/
def ppsFall (s : State) : State :=
  if s.time.pps && decide (s.time.ppsAt + s.fget Reg.TIME_PPS_CTL 9 0 * 1000000 ≤ s.sched.up) then { s with time := { s.time with pps := false } } else s

/-- R299, R319: a rising edge on PPS_IN, `sub` sixteenths of a nanosecond after the last counter cycle. -/
def ppsIn (sub : Nat) (s : State) : State :=
  if s.bget Reg.TIME_PPS_CTL 30 then
    let w := timeWords (s.now16 + sub)
    let s := if s.bget Reg.TIME_PPSIN_SUB 31 then s.count Reg.TIME_PPSIN_OVW_CNT 1 else s
    (((s.wr Reg.TIME_PPSIN_SUB (2 ^ 31 + nth 0 w 0)).wr Reg.TIME_PPSIN_NS (nth 0 w 1)).wr Reg.TIME_PPSIN_SEC_LO (nth 0 w 2)).wr
      Reg.TIME_PPSIN_SEC_HI (nth 0 w 3)
  else s

/-- R319: a read of TIME_PPSIN_SUB. -/
def ppsInRead (m : Master) (s : State) : State :=
  if s.served Reg.TIME_PPSIN_SUB then
    let v := s.rd Reg.TIME_PPSIN_SUB
    let s := latchWords m Reg.TIME_PPSIN_NS [s.rd Reg.TIME_PPSIN_NS, s.rd Reg.TIME_PPSIN_SEC_LO, s.rd Reg.TIME_PPSIN_SEC_HI] s
    (s.bset Reg.TIME_PPSIN_SUB 31 false).answer (toW v)
  else s.answer 0

/-- R308: the media clock runs. -/
def State.mediaRun (s : State) : Bool := s.bget Reg.CLK_MEDIA_CTL 0

/-- R310: the media clock starts: MST and every domain's BN take their starting values, and a new block begins (R335). -/
def mediaStart (s : State) : State :=
  let mst := (s.now16 * s.fs + 16 * 10 ^ 9 - 1) / (16 * 10 ^ 9)
  let bn := mst / s.blockLen
  { s with time := { s.time with o := 0, oPrev := 0, oReq := 0, mst := mst, lockRun := 0, anchorRetry := false, anchorDue := false
                                 first := true, dev := 0, integ := 0 }
           net := s.net.map (fun (p : Nat × NetSt) => (p.1, { p.2 with ringEv := [] }))
           sched := { s.sched with bn := bn, bnMedia := bn, bnPtp := bn, bnDram := bn, bnAon := bn } }

/-- R308, R310, R324: a write of CLK_MEDIA_CTL. -/
def mediaCtlWrite (v : Word) (s : State) : State :=
  let a := Reg.CLK_MEDIA_CTL
  if s.served a then
    let w := v.toNat
    let was := s.mediaRun
    let s := if getF w 9 8 = 3 then s else s.fset a 9 8 (getF w 9 8)
    if s.sched.rendering then s
    else
      let s := (s.bset a 16 (bitOf w 16)).bset a 0 (bitOf w 0)
      if bitOf w 0 && !was then mediaStart s
      else if bitOf w 0 then s
      else { s with time := { s.time with wclkOut := false, first := false, dev := 0, integ := 0 } }
  else s

/-- R311: t16(m) + O_req − O, the counter reading at which the edge of MST `m` belongs, in sixteenths. -/
def edgeTarget (m : Nat) (s : State) : Int := fdiv ((m : Int) * 16 * 10 ^ 9) s.fs + s.time.oReq

/-- R311: the sample rate lies within 100 ppm of nominal; deviations are in 1/16 ppb. -/
def boundDev (d : Int) : Int := Max.max (-1600000) (Min.min d 1600000)

/-- R311: what the proportional-integral loop adds to the sample rate, in 1/16 ppb, against the phase error of the last edge: e > 0
says that the edges come late, so the rate rises. Its gains follow CLK_MEDIA_CTL.BW and are never 0 (log entry 192). -/
def loopSteer (s : State) : Int :=
  fdiv (s.time.e * ((1 + (Config.loopGain (s.fget Reg.CLK_MEDIA_CTL 9 8)).1 : Nat) : Int) + s.time.integ) 65536

/-- R311: the integral after an edge with phase error `e`. -/
def loopInteg (e : Int) (s : State) : Int := s.time.integ + e * ((1 + (Config.loopGain (s.fget Reg.CLK_MEDIA_CTL 9 8)).2 : Nat) : Int)

/-- R308, R310, R311: when the next sample edge falls, in units of 2⁻³² ns since power-up: a sample period at the rate that the loop
gives after the last one, and the first one where the counter reaches the time of MST. -/
def edgeDue (d : Int) (s : State) : Nat :=
  let now := s.sched.up * 2 ^ 32
  if s.time.first then
    let gap : Int := edgeTarget s.time.mst s * 2 ^ 28 - (s.time.ptp : Int)
    if gap ≤ 0 then now else now + (-(fdiv (-(gap * 8 * 2 ^ 32)) (ptpStep s))).toNat
  else s.time.edgeAt + 10 ^ 9 * 2 ^ 32 * 16 * 10 ^ 9 / (s.fs * (16 * 10 ^ 9 + d).toNat)

/-- R299, R311: the counter reading in sixteenths at a time in units of 2⁻³² ns since power-up. -/
def counterAt (due : Nat) (s : State) : Int :=
  fdiv ((s.time.ptp : Int) + fdiv (((due : Int) - (s.sched.up * 2 ^ 32 : Nat)) * (ptpStep s : Int)) (8 * 2 ^ 32)) (2 ^ 28)

/-- R312: LOCKED sets once the edges of 1 s have kept within 100 ns. -/
def doLock (s : State) : State :=
  if s.mediaRun && !s.bget Reg.CLK_MEDIA_STATUS 31 && decide (s.fs ≤ s.time.lockRun) then s.bset Reg.CLK_MEDIA_STATUS 31 true else s

/-- R312: LOCKED clears at an edge more than 1 µs away. -/
def doUnlock (s : State) : State :=
  if s.mediaRun && s.bget Reg.CLK_MEDIA_STATUS 31 && decide (16000 < s.time.e.natAbs) then
    fire 0x1E 0 ((s.bset Reg.CLK_MEDIA_STATUS 31 false).bset Reg.CLK_MEDIA_STATUS 30 true)
  else s

/-- R308, R311, R320: a sample edge at the rate that the loop gives an oscillator which runs `d` off nominal by itself: time comes to
it, MST counts but for the first edge, the edge is compared, WCLK_OUT follows. -/
def edge (d : Int) (s : State) : State :=
  let d := boundDev (d + loopSteer s)
  let due := edgeDue d s
  let s := passTime ((due / 2 ^ 32 - s.sched.up) / 8) s
  let s := { s with time := { s.time with mst := s.time.mst + (if s.time.first then 0 else 1), edgeAt := due, dev := d, first := false } }
  let e := counterAt due s - edgeTarget s.time.mst s
  let b := s.blockLen
  let high := s.time.wclkMode == 1 || (s.time.wclkMode == 2 && decide (s.time.mst % b < b / 2))
  let s := { s with time := { s.time with e := e, integ := loopInteg e s, lockRun := if e.natAbs ≤ 1600 then s.time.lockRun + 1 else 0, wclkOut := high } }
  s.wr Reg.CLK_PHASE_ERR (uns 32 (satS 32 e))

/-- R321: a gate ends: the rate in 1/65,536 Hz and the phase in sixteenths of a nanosecond. -/
def wclkGate (rate : Nat) (phase : Int) (s : State) : State :=
  let pres := decide (rate ≠ 0) && !s.time.wclkLost
  let s := (s.bset Reg.CLK_MEDIA_STATUS 29 pres).wr64 Reg.CLK_WCLK_IN_RATE_LO (if pres then rate % 2 ^ 64 else 0)
  let s := if rate = 0 then s else s.wr Reg.CLK_WCLK_IN_PHASE (uns 32 phase)
  { s with time := { s.time with wclkLost := false } }

/-- R321: no edge for 2 ms. -/
def wclkLoss (s : State) : State :=
  let was := s.bget Reg.CLK_MEDIA_STATUS 29
  let s := { s with time := { s.time with wclkLost := true } }
  if was then
    fire 0x1F 0 (((s.bset Reg.CLK_MEDIA_STATUS 29 false).bset Reg.CLK_MEDIA_STATUS 28 true).wr64 Reg.CLK_WCLK_IN_RATE_LO 0)
  else s

/-- TIME_OFS_HI_WRITE (R306, R307). -/
def execTimeOfsHiWrite (_m : Master) (v : Word) (s : State) : Host.Outcome State Fault Refusal := .next (ofsHiWrite v s)

/-- ANCHOR_SEAL (R314, R315). -/
def execAnchorSeal (s : State) : Host.Outcome State Fault Refusal := .next (doAnchor s)

/-- TIME_FREQ_WRITE (R298). -/
def execTimeFreqWrite (_m : Master) (v : Word) (s : State) : Host.Outcome State Fault Refusal := .next (freqWrite v s)

/-- TIME_GM_ID_HI_WRITE (R306). -/
def execTimeGmIdHiWrite (_m : Master) (v : Word) (s : State) : Host.Outcome State Fault Refusal := .next (gmIdWrite v s)

/-- FORCE_HOLD_WRITE (R306). -/
def execForceHoldWrite (_m : Master) (v : Word) (s : State) : Host.Outcome State Fault Refusal := .next (timeCtlWrite v s)

/-- SYNC_TIMEOUT (R306). -/
def execSyncTimeout (s : State) : Host.Outcome State Fault Refusal := .next (syncTimeout s)

/-- TIME_NOW_SEC_HI_WRITE (R323). -/
def execTimeNowSecHiWrite (_m : Master) (v : Word) (s : State) : Host.Outcome State Fault Refusal := .next (nowSecWrite v s)

/-- TIME_TXTS_ID_READ (R304). -/
def execTimeTxtsIdRead (m : Master) (port : Nat) (s : State) : Host.Outcome State Fault Refusal := .next (txtsRead m port s)

/-- PPS_OUT_EDGE (R318). -/
def execPpsOutEdge (s : State) : Host.Outcome State Fault Refusal := .next (ppsRise s)

/-- PPS_OUT_WIDTH_END (R318). -/
def execPpsOutWidthEnd (s : State) : Host.Outcome State Fault Refusal := .next (ppsFall s)

/-- PPS_IN_EDGE (R319). -/
def execPpsInEdge (s : State) (sub : Nat := 0) : Host.Outcome State Fault Refusal := .next (ppsIn sub s)

/-- TIME_PPSIN_SUB_READ (R319). -/
def execTimePpsinSubRead (m : Master) (s : State) : Host.Outcome State Fault Refusal := .next (ppsInRead m s)

/-- MEDIA_RUN_WRITE (R308, R310). -/
def execMediaRunWrite (_m : Master) (v : Word) (s : State) : Host.Outcome State Fault Refusal := .next (mediaCtlWrite v s)

/-- MEDIA_LOCK (R312). -/
def execMediaLock (s : State) : Host.Outcome State Fault Refusal := .next (doLock s)

/-- MEDIA_UNLOCK (R312). -/
def execMediaUnlock (s : State) : Host.Outcome State Fault Refusal := .next (doUnlock s)

/-- WCLK_IN_GATE_END (R321): the measured rate and phase. -/
def execWclkInGateEnd (rate : Nat) (phase : Int) (s : State) : Host.Outcome State Fault Refusal := .next (wclkGate rate phase s)

/-- WCLK_IN_LOSS (R321). -/
def execWclkInLoss (s : State) : Host.Outcome State Fault Refusal := .next (wclkLoss s)

end Sys2Proof.Machine
end

