-- ==== Sys2Proof/Machine/TwinBase.lean ====
section
/-! DEFINITION. The twin controller (R442 to R475): reachability, states, the Ligature transmitter, heartbeats, TWIN_ALIVE, faults. -/

namespace Sys2Proof.Machine

/-- Change the twin controller. -/
def State.tw (s : State) (f : TwinSt → TwinSt) : State := { s with twin := f s.twin }

/-- R3: the module has a twin controller. -/
def hasTwin (s : State) : Bool := capLig s.variant

/-- TWIN_CTL.EN. -/
def twinEn (s : State) : Bool := hasTwin s && s.bget Reg.TWIN_CTL 31

/-- R447: the link is UP. -/
def linkUp (s : State) : Bool := s.twin.lanes ≠ 0

/-- R443: the peer is reachable. -/
def reachable (s : State) : Bool := linkUp s || s.twin.peerAlive

/-- TWIN_CFG.ROLE: ALTERNATE. -/
def roleAlt (s : State) : Bool := s.bget Reg.TWIN_CFG 31

/-- R443: the transmitting state that reachability gives. -/
def txState (s : State) : Nat := if twinEn s && reachable s then 1 else 0

/-- R445: a change of state, with its event and the pins that follow it (R443, R444, R446). -/
def twinGo (n : Nat) (s : State) : State :=
  if s.twin.st = n then s
  else
    let begin' := n ≤ 1 && 2 ≤ s.twin.st
    let s := s.tw (fun t => { t with st := n, sel := decide (n ≤ 1) && !t.floating, alivePin := t.alivePin && n != 5
                                     txSince := if n ≤ 1 then (if begin' then some s.bn else t.txSince) else none
                                     syncAt := if n = 4 then s.sched.up else t.syncAt
                                     matched := if n = 4 then 0 else t.matched
                                     lastApplied := if n = 2 || n = 4 then t.lastApplied else none
                                     nextCseq := if begin' then Nat.max t.nextCseq (s.rd Reg.TWIN_CSEQ + 1) else t.nextCseq
                                     hClean := 0
                                     standAt := if n = 2 then s.sched.up else t.standAt
                                     standBn := if n = 2 then s.bn else t.standBn
                                     imageRun := if n ≤ 1 then t.imageRun else none })
    fire 0x3C n s

/-- R443: a transmitting module moves between ACTIVE and ISOLATED with reachability, but not while a write of EN waits for its
boundary (R445). -/
def twinReach (s : State) : State :=
  if transmits s && hasTwin s && !s.twin.due.any (fun d => decide (d.2 ≤ 1)) then twinGo (txState s) s else s

/-- A change of state falls due at a boundary. -/
def twinAt (x code : Nat) (s : State) : State := s.tw (fun t => { t with due := t.due ++ [(x, code)] })

/-- R464: what a new transmitter discards: forwarded commits with no GO verdict, held items never released, a partial record. -/
def discardForwarded (s : State) : State :=
  let go (c : Commit) : Bool := s.twin.verdicts.any (fun v => v.outs.any (fun o => o.1 == c.cid && o.2 == 0))
  let lost := s.sched.commits.filter (fun c => c.peer && !go c)
  let s := lost.foldl (fun s c => c.items.foldl (fun s i => match i with
    | .spawn o _ => if (s.obj o).st = .armed && (s.obj o).armCid = c.cid then freeObj o s else s
    | _ => s) s) s
  let s := s.setCommits (s.sched.commits.filter (fun c => !c.peer || go c))
  s.tw (fun t => { t with heldItems := [], rx := t.rx.filter (fun x => !(x.ty == 2 && x.sub == 0)) })

/-- R463 to R465: a takeover at the boundary that begins the present interval. -/
def takeOver (cold : Bool) (s : State) : State :=
  let s := (s.wr Reg.TWIN_TAKEOVER_BN (s.bn % 2 ^ 32)).wr Reg.TWIN_LAST_HB (s.twin.lastHb % 2 ^ 32)
  let s := discardForwarded (s.count Reg.TWIN_TAKEOVER_CNT 1)
  let s := if cold then s.bset Reg.TWIN_STATUS 18 true else s
  let s := twinGo (txState s) (s.tw (fun t => { t with waiting := 0, hello := false, hbMissed := 0 }))
  fire 0x41 (b2n cold) s

/-- R448: one fragment of a message. -/
def fragBytes (ty sub fseq mseq index last : Nat) (payload : List Byte) : List Byte :=
  let pad := (4 - payload.length % 4) % 4
  let b := [BitVec.ofNat 8 (16 + ty), BitVec.ofNat 8 sub] ++ leBytes 2 payload.length ++ leBytes 4 fseq ++ leBytes 8 mseq
    ++ leBytes 2 index ++ leBytes 2 last ++ payload ++ List.replicate pad 0
  b ++ leBytes 4 (crc32c b)

/-- Pieces of at most 1,024 bytes; `n` bounds their number. -/
def pieces : Nat → List Byte → List (List Byte)
  | 0, _ => []
  | n + 1, bs => if bs.isEmpty then [] else bs.take 1024 :: pieces n (bs.drop 1024)

/-- R451: the CMAC of a message's body. -/
def msgMac (s : State) (ty sub mseq : Nat) (body : List Byte) : List Byte :=
  beBytes 16 (cmac (s.sec.twinKey.getD 0)
    ([BitVec.ofNat 8 ty, BitVec.ofNat 8 sub, 0, 0] ++ leBytes 8 mseq ++ leBytes 4 body.length ++ body)).toNat

/-- Bytes queued on a lane in this interval. -/
def laneLoad (t : TwinSt) (l : Nat) : Nat := t.laneOut.foldl (fun n p => if p.1 = l then n + p.2.length else n) 0

/-- R448: the lane with fewer bytes queued, lane 0 on a tie; a lane that is down carries nothing. -/
def pickLane (t : TwinSt) : Nat := if t.lanes = 2 then 1 else if t.lanes = 3 && laneLoad t 1 < laneLoad t 0 then 1 else 0

/-- R447: one bit through the scrambler 1 + x³⁹ + x⁵⁸, whose latest bit is bit 0: the bit sent, and the register after it. -/
def scramBit (r : Nat) (b : Bool) : Bool × Nat :=
  let o := b != (bitOf r 38 != bitOf r 57)
  (o, (2 * r + b2n o) % 2 ^ 58)

/-- R447: the 64 payload bits of a block, low bit first, scrambled. -/
def scramBlock (r x : Nat) : Nat × Nat :=
  (List.range 64).foldl (fun (a : Nat × Nat) k => let o := scramBit a.2 (bitOf x k); (a.1 + b2n o.1 * 2 ^ k, o.2)) (0, r)

/-- R447: type byte of the terminate block after `n` bytes. -/
def termType (n : Nat) : Nat := nth 0xFF [0x87, 0x99, 0xAA, 0xB4, 0xCC, 0xD2, 0xE1] n

/-- R447: the data blocks and the terminate block of a frame's bytes after its start block: sync header and payload. -/
def frameRest : Nat → List Byte → List (Nat × Nat)
  | 0, _ => []
  | n + 1, bs =>
    if 8 ≤ bs.length then (2, leNat (bs.take 8)) :: frameRest n (bs.drop 8)
    else [(1, termType bs.length + 256 * leNat bs)]

/-- R447: an idle block, then a frame: the start block with the first seven bytes, data blocks, the terminate block. -/
def frameBlocks (b : List Byte) : List (Nat × Nat) :=
  (1, 0x1E) :: (1, 0x78 + 256 * leNat (b.take 7)) :: frameRest (b.length / 8 + 1) (b.drop 7)

/-- R447: a frame goes out on a lane, coded 64b/66b. The fill between frames is timing: one idle block stands for it (log entry 194). -/
def laneFrame (lane : Nat) (b : List Byte) (t : TwinSt) : TwinSt :=
  let r := (frameBlocks b).foldl (fun (a : List (Nat × BitVec 66) × Nat) hb =>
    let x := scramBlock a.2 hb.2
    (a.1 ++ [(lane, BitVec.ofNat 66 (hb.1 + 4 * x.1))], x.2)) ([], (Tab.find t.scr lane).getD 0)
  { t with laneOut := t.laneOut ++ [(lane, b)], lane66 := t.lane66 ++ r.1, scr := Tab.ins t.scr lane r.2 }

/-- Put one new fragment on a lane, and keep it until it is acknowledged if asked (R449). -/
def putFrag (keep : Bool) (lane bn : Nat) (ty sub mseq last : Nat) (t : TwinSt) (ip : Nat × List Byte) : TwinSt :=
  let b := fragBytes ty sub t.fseq mseq ip.1 last ip.2
  { laneFrame lane b t with
           fseq := (t.fseq + 1) % 2 ^ 32
           unacked := if keep then t.unacked ++ [⟨t.fseq, bn, 0, false, b⟩] else t.unacked }

/-- The payload of a message in numbered pieces. -/
def msgPieces (s : State) (ty sub mseq : Nat) (body : List Byte) : List (Nat × List Byte) :=
  let p := pieces (body.length / 1024 + 2) (body ++ msgMac s ty sub mseq body)
  (List.range p.length).zip p

/-- R448, R449: send a message now. -/
def sendMsg (ty sub : Nat) (body : List Byte) (s : State) : State :=
  let ps := msgPieces s ty sub s.twin.mseq body
  s.tw (fun t =>
    let t' := ps.foldl (fun t ip => putFrag true (pickLane t) s.bn ty sub t.mseq (ps.length - 1) t ip) t
    { t' with mseq := t.mseq + 1 })

/-- R449: the order in which waiting messages are sent. -/
def msgRank (m : TwMsg) : Nat :=
  if m.ty = 2 && m.sub = 3 then 1 else if m.ty = 2 && (m.sub = 1 || m.sub = 2) then 2 else if m.ty = 5 then 3
  else if m.ty = 2 then 4 else if m.ty = 3 then 5 else if m.ty = 6 then 6 else 7

/-- The place of the first message of the best rank. -/
def bestMsg (q : List TwMsg) : Option (Nat × TwMsg) :=
  ((List.range q.length).zip q).foldl (fun b im => match b with
    | none => some im
    | some x => if msgRank im.2 < msgRank x.2 then some im else some x) none

/-- R457: the held items of a record that has been sent whole: the FSEQ of its last fragment. -/
def markRecord (m : TwMsg) (t : TwinSt) : TwinSt :=
  if m.ty = 2 && m.sub = 0 then
    let bn := leNat (m.body.take 8)
    { t with recSent := bn, heldItems := t.heldItems.map (fun h => if h.inRec = some bn then { h with fseq := some ((t.fseq + 2 ^ 32 - 1) % 2 ^ 32) } else h) }
  else t

/-- R449: waiting messages go out while the window of 4,096 fragments has room for the next one whole. -/
def flushTx : Nat → State → State
  | 0, s => s
  | n + 1, s =>
    match bestMsg s.twin.txq with
    | none => s
    | some (i, m) =>
      if !linkUp s || 4096 < s.twin.unacked.length + (m.body.length + 16 + 1023) / 1024 then s
      else flushTx n ((sendMsg m.ty m.sub m.body (s.tw (fun t => { t with txq := t.txq.eraseIdx i }))).tw (markRecord m))

/-- A message is to be sent; with the link DOWN it is not. -/
def enqueue (ty sub : Nat) (body : List Byte) (s : State) : State :=
  if linkUp s then
    let s := s.tw (fun t => { t with txq := t.txq ++ [⟨0, ty, sub, body⟩] })
    flushTx s.twin.txq.length s
  else s

/-- R462: FAULT is entered now. -/
def enterFault (s : State) : State := twinGo 5 s

/-- R462: TWIN_CTL.FAULT: FAIL to a STANDBY peer names the second boundary after the write; else FAULT at the next boundary. -/
def doTwinFault (s : State) : State :=
  if s.twin.st = 5 then s
  else if transmits s && s.twin.peerSt == 2 && linkUp s then enqueue 5 4 (leBytes 8 (s.bn + 2)) (twinAt (s.bn + 2) 4 s)
  else twinAt (s.bn + 1) 4 s

/-- R442, R445, R453, R462: a write of TWIN_CTL. -/
def twinCtlWrite (v : Word) (s : State) : State :=
  if s.served Reg.TWIN_CTL then
    let w := v.toNat
    let was := s.bget Reg.TWIN_CTL 31
    let s := s.bset Reg.TWIN_CTL 31 (bitOf w 31)
    let s := if bitOf w 31 = was then s else twinAt (s.bn + 1) (if bitOf w 31 then 1 else 0) s
    let s := if bitOf w 10 then s.tw (fun t => { t with kickAt := some s.sched.up }) else s
    let s := if bitOf w 9 && s.twin.st == 5 then twinAt (s.bn + 1) 5 s else s
    if bitOf w 8 then doTwinFault s else s
  else s

/-- R453: KICK has been written within the last KICK_MS milliseconds. -/
def kicked (s : State) : Bool :=
  match s.twin.kickAt with
  | some t => decide (s.sched.up ≤ t + s.fget Reg.TWIN_CFG 23 16 * 1000000)
  | none => false

/-- R453: the SACK bitmap as bytes. -/
def sackBytes (ack : Nat) (sack : List Nat) : List Byte :=
  (List.range 32).map (fun i => BitVec.ofNat 8 ((List.range 8).foldl (fun a b => if sack.contains ((ack + 1 + 8 * i + b) % 2 ^ 32) then a + 2 ^ b else a) 0))

/-- R453: the payload of HEARTBEAT(j). -/
def hbBody (s : State) : List Byte :=
  let t := s.twin
  leBytes 8 s.bn ++ [BitVec.ofNat 8 t.st, BitVec.ofNat 8 (b2n (roleAlt s) + 2 * b2n (transmits s)), 0, 0]
    ++ leBytes 4 t.rxAck ++ sackBytes t.rxAck t.rxSack
    ++ leBytes 4 (if transmits s then t.recSent else t.lastApplied.getD 0) ++ leBytes 4 (s.rd Reg.TWIN_CSEQ)

/-- R448: a HEARTBEAT goes out on every lane that is UP, and is never resent. -/
def sendHb (s : State) : State :=
  let ps := msgPieces s 1 0 s.twin.mseq (hbBody s)
  let one (l : Nat) (t : TwinSt) : TwinSt := ps.foldl (putFrag false l s.bn 1 0 t.mseq 0) t
  s.tw (fun t =>
    let t' := if t.lanes % 2 = 1 then one 0 t else t
    let t'' := if 2 ≤ t.lanes then one 1 t' else t'
    { t'' with mseq := t.mseq + 1 })

/-- R453: HEARTBEAT(j) is sent, or withheld, as it also is where render is halted and no block was completed; the second in a row
that is withheld is a FAULT. -/
def doHeartbeat (s : State) : State :=
  if twinEn s && s.twin.st ≠ 5 && !s.twin.hbDone && decide (s.sched.cycle ≤ 16) then
    let s := s.tw (fun t => { t with hbDone := true })
    if s.twin.outDone && kicked s then
      let s := s.tw (fun t => { t with hbWithheld := 0 })
      if linkUp s then sendHb s else s
    else
      let s := s.tw (fun t => { t with hbWithheld := t.hbWithheld + 1 })
      if 2 ≤ s.twin.hbWithheld then enterFault s else s
  else s

/-- R461: what a declaration of the peer's failure leads to. -/
def declarePeer (s : State) : State :=
  if s.twin.st ≠ 2 && s.twin.st ≠ 3 then s
  else if linkUp s then
    enqueue 5 1 (leBytes 8 (s.bn + 1)) (twinAt (s.bn + 1) (if s.twin.st = 2 then 9 else 8) s)
  else if s.twin.peerAlive then twinGo 3 s
  else if s.twin.waiting = 1 then s
  else s.tw (fun t => { t with waiting := 1, waitAt := s.sched.up, peerFrames := false })

/-- R454: at this boundary, HEARTBEAT(bn − 1) has not been accepted; after a miss at the boundary before, the peer is declared failed. -/
def heartbeatMiss (s : State) : State :=
  if twinEn s && decide (1 ≤ s.bn) && s.twin.hbJudged ≠ s.bn && !s.twin.hbSeen.contains (s.bn - 1) then
    let n := if s.twin.hbJudged + 1 = s.bn then s.twin.hbMissed + 1 else 1
    let s := (s.count Reg.TWIN_HB_MISS_CNT 1).tw (fun t => { t with hbMissed := n, hbJudged := s.bn })
    if 2 ≤ s.twin.hbMissed then declarePeer s else s
  else s

/-- R461, R470: SPLIT_WAIT_MS have passed. -/
def splitWait (s : State) : State :=
  let t := s.twin
  if twinEn s && t.waiting ≠ 0 && decide (t.waitAt + s.fget Reg.TWIN_TIMING 31 16 * 1000000 ≤ s.sched.up) then
    let s := s.tw (fun t => { t with waiting := 0 })
    if t.waiting = 1 then
      if t.peerFrames then twinGo 3 s else twinAt (s.bn + 1) 8 s
    else if !linkUp s && !t.peerAlive && !t.peerFrames then twinAt (s.bn + 1) 2 (s.tw (fun t => { t with hello := false }))
    else s
  else s

/-- R445: no convergence within SYNC_LIMIT_S. -/
def syncLimit (s : State) : State :=
  if s.twin.st = 4 && decide (s.twin.syncAt + s.fget Reg.TWIN_TIMING 15 0 * 1000000000 ≤ s.sched.up) then fire 0x3F 0 (twinGo 3 s) else s

/-- R446: TWIN_ALIVE toggles. -/
def aliveToggle (s : State) : State :=
  let t := s.twin
  let due := decide (t.aliveAt + 500000 ≤ s.sched.up)
  let ok := hasTwin s && t.st ≠ 5 && s.fget Reg.PWR_STATUS 31 30 == 0 && !t.floating && s.hif.stage ≠ 0
  let go (b : Bool) : State := s.tw (fun t => { t with alivePin := b, aliveAt := s.sched.up })
  if !ok then s
  else if t.alivePin then (if due then go false else s)
  else if s.sched.rendering then (if s.bn % 3 = 0 then go true else s)
  else if due then go true
  else s

/-- R446: the peer's TWIN_ALIVE is absent 600 µs after its last edge; R461. -/
def aliveAbsent (s : State) : State :=
  if hasTwin s && s.twin.peerAlive && decide (s.twin.edgeAt + 600000 ≤ s.sched.up) then
    let s := twinReach (s.tw (fun t => { t with peerAlive := false, peerEdges := 0 }))
    if twinEn s && s.twin.st == 3 && !linkUp s && s.twin.waiting ≠ 2 then twinAt (s.bn + 1) 8 s else s
  else s

/-- R446: an edge on TWIN_ALIVE_IN, `us` after the one before: 4 edges of valid spacings make the peer's toggle present. A STANDBY
module whose link is DOWN then goes STALE (R445). Its becoming present is a wake source (R485). -/
def aliveEdge (us : Nat) (s : State) : State :=
  if hasTwin s then
    let n := if 400 ≤ us && us ≤ 600 then s.twin.peerEdges + 1 else 1
    let rose := decide (4 ≤ n) && !s.twin.peerAlive
    let s := twinReach (s.tw (fun t => { t with edgeAt := s.sched.up, peerEdges := n, peerAlive := t.peerAlive || decide (4 ≤ n) }))
    let s := if rose then { s with pwr := { s.pwr with peerRose := true } } else s
    if s.twin.peerAlive && !linkUp s && s.twin.st == 2 then twinGo 3 (s.tw (fun t => { t with waiting := 0 })) else s
  else s

/-- R444: two boundaries without confirmation by CORE. -/
def selLoss (s : State) : State :=
  if hasTwin s then
    s.tw (fun t => { t with sel := false, alivePin := false, floating := true })
  else s

/-- R452: a HELLO. -/
def sendHello (s : State) : State :=
  enqueue 5 0 ([BitVec.ofNat 8 (b2n (roleAlt s)), BitVec.ofNat 8 s.twin.st, 0, 0] ++ leBytes 8 (s.twin.txSince.getD (2 ^ 64 - 1))) s

/-- R447: a lane gains or loses block lock. When the link comes UP, a module that transmits, or waits for a HELLO, sends one (R470,
R471; DEDUCED, log entry 85). -/
def laneChange (lane : Nat) (lock : Bool) (s : State) : State :=
  if hasTwin s && decide (lane < 2) then
    let was := linkUp s
    let bit := 2 ^ lane
    let s := s.tw (fun t => { t with lanes := if lock then t.lanes ||| bit else t.lanes - (t.lanes &&& bit) })
    let s := if lock then s else noteHealth 0x80 s
    if linkUp s = was then s
    else
      let s := twinReach (fire 0x3D 0 s)
      if linkUp s then (if twinEn s && (transmits s || s.twin.hello) then sendHello s else s)
      else if s.twin.peerAlive && s.twin.st == 2 then twinGo 3 s else s
  else s

/-- R449: a fragment that a heartbeat has shown missing is resent; after three resends both lanes retrain. -/
def resend (s : State) : State :=
  match s.twin.unacked.find? (fun f => f.marked) with
  | none => s
  | some f =>
    if !linkUp s then s
    else if 3 ≤ f.resends then
      let s := laneChange 1 false (laneChange 0 false s)
      s.tw (fun t => { t with unacked := t.unacked.map (fun g => { g with resends := 0 }) })
    else
      (s.count Reg.TWIN_RESEND_CNT 1).tw (fun t =>
        { laneFrame (pickLane t) f.bytes t with
                 unacked := t.unacked.map (fun g => if g.fseq = f.fseq then { g with sent := s.bn, resends := g.resends + 1, marked := false } else g) })

/-- HEARTBEAT (R453). -/
def execHeartbeat (s : State) : Host.Outcome State Fault Refusal := .next (doHeartbeat s)

/-- HEARTBEAT_MISS (R454, R461). -/
def execHeartbeatMiss (s : State) : Host.Outcome State Fault Refusal := .next (heartbeatMiss s)

/-- FRAGMENT_RESEND (R449). -/
def execFragmentResend (s : State) : Host.Outcome State Fault Refusal := .next (resend s)

/-- LIGATURE_LANE_CHANGE (R447). -/
def execLigatureLaneChange (lane : Nat) (lock : Bool) (s : State) : Host.Outcome State Fault Refusal := .next (laneChange lane lock s)

/-- SPLIT_WAIT_EXPIRY (R461, R470). -/
def execSplitWaitExpiry (s : State) : Host.Outcome State Fault Refusal := .next (splitWait s)

/-- SYNC_LIMIT_EXPIRY (R445). -/
def execSyncLimitExpiry (s : State) : Host.Outcome State Fault Refusal := .next (syncLimit s)

/-- TWIN_ALIVE_TOGGLE (R446). -/
def execTwinAliveToggle (s : State) : Host.Outcome State Fault Refusal := .next (aliveToggle s)

/-- PEER_ALIVE_ABSENT (R446, R461). -/
def execPeerAliveAbsent (s : State) : Host.Outcome State Fault Refusal := .next (aliveAbsent s)

/-- TWIN_ALIVE_IN_EDGE (R446): microseconds since the edge before. -/
def execTwinAliveInEdge (us : Nat) (s : State) : Host.Outcome State Fault Refusal := .next (aliveEdge us s)

/-- TWIN_SEL_CONFIRM_LOSS (R444). -/
def execTwinSelConfirmLoss (s : State) : Host.Outcome State Fault Refusal := .next (selLoss s)

/-- TWIN_EN_WRITE (R445): a write of TWIN_CTL. -/
def execTwinEnWrite (_m : Master) (v : Word) (s : State) : Host.Outcome State Fault Refusal := .next (twinCtlWrite v s)

/-- KICK (R453): a write of TWIN_CTL with KICK. -/
def execKick (_m : Master) (v : Word) (s : State) : Host.Outcome State Fault Refusal := .next (twinCtlWrite v s)

/-- RESTART (R445): a write of TWIN_CTL with RESTART. -/
def execRestart (_m : Master) (v : Word) (s : State) : Host.Outcome State Fault Refusal := .next (twinCtlWrite v s)

/-- FAULT (R462): a write of TWIN_CTL with FAULT. -/
def execFault (_m : Master) (v : Word) (s : State) : Host.Outcome State Fault Refusal := .next (twinCtlWrite v s)

end Sys2Proof.Machine
end

