-- ==== Sys2Proof/Machine/Sec.lean ====
section
/-! DEFINITION. Security (R499 to R517): Folio checks, fuses, the lifecycle, challenge and response, the twin pairing key, and the
test access port. -/

namespace Sys2Proof.Machine

/-- Change the security unit. -/
def State.sc (s : State) (f : SecSt → SecSt) : State := { s with sec := f s.sec }

/-- Bytes written to MRAM by the module itself. -/
def mramBytes (off : Nat) (bs : List Byte) (s : State) : State :=
  { s with mem := ((List.range bs.length).zip bs).foldl (fun m ib => m.wrByte (0x400000000 + off + ib.1) ib.2) s.mem }

/-- SLOT k of the fuse hashes (R503); k = 4 is DBG_KEY_HASH. -/
def SecSt.hash (x : SecSt) (k : Nat) : Option (BitVec 384) := nth none x.hashes k

/-- Root key slot `k` has been revoked. -/
def SecSt.isRevoked (x : SecSt) (k : Nat) : Bool := bitOf x.revoked k

/-- R504: consecutive 1 bits from bit 0 on, of `n`. -/
def lowOnes : Nat → Nat → Nat
  | 0, _ => 0
  | n + 1, b => if b % 2 = 1 then 1 + lowOnes n (b / 2) else 0

/-- R504: the fuse floor n. -/
def SecSt.svn (x : SecSt) : Nat := lowOnes 64 x.svnBits

/-- R504: the bits that a commit burns, from the floor up to SVN_RUN − 1. -/
def SecSt.svnBurn (x : SecSt) : Nat := 2 ^ x.svnRun - 2 ^ Nat.min x.svn x.svnRun

/-- ROOT_VALID: slots programmed and not revoked. -/
def SecSt.rootValid (x : SecSt) : Nat :=
  (List.range 4).foldl (fun a k => if (x.hash k).isSome && !x.isRevoked k then a + 2 ^ k else a) 0

/-- R506: the lifecycle that the fuses now hold. -/
def SecSt.fuseLc (x : SecSt) : Nat := if x.lcField then 2 else if x.lcProv then 1 else 0

/-- R516: SEC_STATUS. -/
def secStatus (s : State) : Nat :=
  let x := s.sec
  x.lc * 2 ^ 30 + s.debugSt * 2 ^ 28 + b2n x.session * 2 ^ 27 + b2n x.imgKey.isSome * 2 ^ 26 + b2n (x.hash 4).isSome * 2 ^ 25
    + b2n x.authEn * 2 ^ 24 + b2n (x.fuseLc != x.lc) * 2 ^ 23 + x.rootValid * 2 ^ 19 + x.svn * 2 ^ 12 + x.svnRun

/-- A 384-bit value as bytes, big-endian. -/
def hashBytes (h : BitVec 384) : List Byte := beBytes 48 h.toNat

/-- R516: word `w` of SEC_ROOT_HASH slot `k`, first byte in [7:0]. -/
def rootHashWord (s : State) (k w : Nat) : Word :=
  match s.sec.hash k with
  | some h => toW (leNat (slice (hashBytes h) (4 * w) 4))
  | none => 0

/-- R516: the KCV of the twin pairing key, with SET. -/
def twinKeyWord (s : State) : Nat :=
  match s.sec.twinKey with
  | some k => 2 ^ 31 + (cmac k (List.replicate 16 0)).toNat / 2 ^ 104
  | none => 0

/-- Every byte of a list is 0. -/
def allZero (bs : List Byte) : Bool := bs.all (fun b => b == 0)

/-- R499: a header field of a Folio, little-endian. -/
def folioField (f : List Byte) (i n : Nat) : Nat := leNat (slice f i n)

/-- TYPE, and PAYLOAD_LEN. -/
def folioType (f : List Byte) : Nat := folioField f 6 2

/-- PAYLOAD_LEN. -/
def folioLen (f : List Byte) : Nat := folioField f 20 4

/-- LOAD. -/
def folioLoadAddr (f : List Byte) : Nat := folioField f 24 8

/-- FLAGS.ENC. -/
def folioEnc (f : List Byte) : Bool := bitOf (folioField f 8 4) 0

/-- PAYLOAD as stored. -/
def folioPayload (f : List Byte) : List Byte := slice f 320 (folioLen f)

/-- R501, step 1. -/
def folioFormat (f : List Byte) : Bool :=
  folioField f 0 4 == 0x464F4C31 && folioField f 4 2 == 1 && decide (1 ≤ folioType f) && decide (folioType f ≤ 4)
    && decide (folioField f 8 4 < 2) && decide (folioField f 12 4 ≤ 64) && decide (1 ≤ folioLen f) && decide (folioLen f ≤ 67108864)
    && (folioEnc f || allZero (slice f 32 28)) && allZero (slice f 60 4) && allZero (slice f 161 31) && allZero (slice f 288 32)

/-- R501, step 2, with R502. -/
def folioKey (x : SecSt) (f : List Byte) : Bool :=
  let k := folioField f 16 4
  let slot := (x.hash k) == some (sha384 (slice f 64 97)) && !x.isRevoked k
  if folioType f = 1 then k == 0 && slot else decide (k ≤ 3) && (x.lc == 0 || slot)

/-- R501, step 3, with R500. -/
def folioSig (f : List Byte) : Bool :=
  ecdsaOk (slice f 64 97) (sha384 (slice f 0 192 ++ folioPayload f)) (slice f 192 96)

/-- R501, step 4. -/
def folioRoll (x : SecSt) (f : List Byte) : Bool := folioType f ≠ 1 || decide (x.svn ≤ folioField f 12 4)

/-- R538: the Quill core whose program memory a LOAD address names, and the first bundle. -/
def pmTarget (v : Variant) (a : Nat) : Option (Nat × Nat) :=
  let k := (a - 0x108000000) / 0x8000
  if 0x108000000 ≤ a && decide (k < capTiles v) && decide (a % 8 = 0) then some (k, a % 0x8000 / 8) else none

/-- The range [a, a + n) lies in [lo, hi). -/
def inSpan (a n lo hi : Nat) : Bool := decide (lo ≤ a) && decide (a + n ≤ hi)

/-- R538: the range lies in usable DRAM. -/
def spanDram (v : Variant) (a n : Nat) : Bool := inSpan a n 0x800000000 (0x800000000 + capGib v * 2 ^ 30)

/-- R538: LOAD and PAYLOAD_LEN lie in a region allowed for TYPE. -/
def folioRegion (v : Variant) (f : List Byte) : Bool :=
  let a := folioLoadAddr f
  let n := folioLen f
  match folioType f with
  | 1 => inSpan a n 0x107000000 0x107100000
  | 2 => inSpan a n 0x107100000 0x107200000 || spanDram v a n
  | 3 => (match pmTarget v a with
    | some (_, b) => decide (8 * b + n ≤ 0x8000)
    | none => false)
  | _ => spanDram v a n || inSpan a n 0x107800000 0x107D00000

/-- Step 5 of R501: the payload in the clear, or the failure code. -/
def folioClear (x : SecSt) (f : List Byte) : Except Nat (List Byte) :=
  if !folioEnc f then .ok (folioPayload f)
  else match x.imgKey with
    | none => .error 5
    | some k => match gcmOpen k (slice f 32 12) (slice f 0 32) (folioPayload f) (slice f 44 16) with
      | some p => .ok p
      | none => .error 6

/-- R501: the code of the first failing step, or the payload to load. -/
def folioCheck (v : Variant) (x : SecSt) (f : List Byte) : Except Nat (List Byte) :=
  if !folioFormat f then .error 1
  else if !folioKey x f then .error 2
  else if !folioSig f then .error 3
  else if !folioRoll x f then .error 4
  else match folioClear x f with
    | .error c => .error c
    | .ok p => if folioRegion v f then .ok p else .error 7

/-- R501: a failed Folio is recorded and counted. -/
def noteFolioFail (code : Nat) (f : List Byte) (s : State) : State :=
  (s.wr Reg.SEC_LAST_FAIL (2 ^ 31 + folioType f % 16 * 2 ^ 16 + code)).count Reg.SEC_FAIL_CNT 1

/-- Bundles of a byte string, the last one completed with zeros; `n` bounds their number. -/
def bundlesOf : Nat → List Byte → List Bundle
  | 0, _ => []
  | n + 1, bs => if bs.isEmpty then [] else BitVec.ofNat 64 (leNat (bs.take 8)) :: bundlesOf n (bs.drop 8)

/-- R538, R510: a program is loaded into a core's program memory. -/
def loadPm (k b : Nat) (enc : Bool) (bs : List Byte) (s : State) : State :=
  let ws := bundlesOf (bs.length / 8 + 1) bs
  let c := s.core k
  let pm := ((List.range ws.length).zip ws).foldl (fun m iw => Tab.put (fun _ => (0 : Bundle)) m (b + iw.1) iw.2) c.pm
  s.setCore k { c with pm := pm, pmBad := c.pmBad.filter (fun j => decide (j < b) || decide (b + ws.length ≤ j)), prog := if enc then 2 else 1 }

/-- A Folio's bytes are written to its region. -/
def folioStore (f : List Byte) (bs : List Byte) (s : State) : State :=
  match folioType f, pmTarget s.variant (folioLoadAddr f) with
  | 3, some (k, b) => loadPm k b (folioEnc f) bs s
  | _, _ => fabBytes (folioLoadAddr f) bs s

/-- R501: check a Folio and load it. The failure code is 0 for a Folio that passed; a failing tag leaves zeros in the region. -/
def folioRun (f : List Byte) (s : State) : Nat × State :=
  match folioCheck s.variant s.sec f with
  | .ok p => (0, folioStore f p s)
  | .error c =>
    let s := noteFolioFail c f s
    (c, if c = 6 && folioRegion s.variant f then folioStore f (List.replicate (folioLen f) 0) s else s)

/-- R556: trace stops: the buffer is discarded. -/
def traceStop (s : State) : State := { s with stat := { s.stat with traceBuf := [], traceLost := 0, traceCount := 0 } }

/-- R513, R556: a debug session ends, and trace with it; Scribe cores halted through SCRIBE_DM resume. Its transactions are whole commands here, so none is in progress. -/
def endSession (s : State) : State :=
  if s.sec.session then (traceStop s).sc (fun x => { x with session := false, dmHalted := [], dmAck := [] }) else s

/-- R512: a verification in progress is abandoned. -/
def dropVerify (s : State) : State := s.sc (fun x => if x.phase = 2 then { x with phase := b2n x.nonceAt.isSome, verifying := [] } else x)

/-- R503, R506: the field is burnable in the present lifecycle, and its conditions hold. -/
def burnable (x : SecSt) (field : Nat) : Bool :=
  let early := decide (x.lc ≤ 1)
  match field with
  | 1 => early | 2 => early | 3 => early
  | 4 => decide (1 ≤ x.lc) | 5 => decide (1 ≤ x.lc) | 6 => decide (1 ≤ x.lc) | 7 => decide (1 ≤ x.lc)
  | 8 => early | 9 => early | 10 => early
  | 11 => x.lc == 0 && ((x.hash 1).isSome || (x.hash 2).isSome || (x.hash 3).isSome)
  | 12 => x.lc == 1
  | 13 => true
  | _ => false

/-- R505: a key or hash that is already programmed. -/
def programmed (x : SecSt) (field : Nat) : Bool :=
  if 1 ≤ field && field ≤ 3 then (x.hash field).isSome else if field = 8 then x.imgKey.isSome else if field = 9 then (x.hash 4).isSome else false

/-- R505: revoking slot `field − 4` would leave no unrevoked slot among 1 to 3 in FIELD. -/
def lastRoot (x : SecSt) (field : Nat) : Bool :=
  x.lc == 2 && decide (4 ≤ field) && decide (field ≤ 7) && (List.range 3).all (fun i => x.isRevoked (i + 1) || field - 4 == i + 1)

/-- SEC_FUSE_CTL.BUSY. -/
def fuseBusy (s : State) : Bool := s.sec.burn.isSome

/-- R505: the burn is refused. -/
def burnRefused (field : Nat) (s : State) : Bool :=
  !burnable s.sec field || programmed s.sec field || lastRoot s.sec field || (field ≠ 13 && (s.sched.rendering || fuseBusy s))

/-- The words of SEC_FUSE_DATA. -/
def fuseData (s : State) : List Word := (List.range 12).map (fun w => toW (s.rd (Reg.SEC_FUSE_DATA w)))

/-- R505: SEC_FUSE_DATA clears. -/
def clearFuseData (s : State) : State := (List.range 12).foldl (fun s w => s.wr (Reg.SEC_FUSE_DATA w) 0) s

/-- R505, R506, R512: a burn begins. -/
def beginBurn (field : Nat) (s : State) : State :=
  let data := fuseData s
  let s := clearFuseData (s.bset Reg.SEC_FUSE_CTL 30 true)
  let s := s.sc (fun x => { x with burn := some (field, data) })
  let s := if field = 11 || field = 12 || field = 13 then dropVerify s else s
  if field = 11 || field = 12 then endSession s else s

/-- R505: a write of SEC_FUSE_CTL. -/
def fuseCtlWrite (v : Word) (s : State) : State :=
  if s.served Reg.SEC_FUSE_CTL then
    let field := getF v.toNat 4 0
    let s := s.fset Reg.SEC_FUSE_CTL 4 0 field
    if bitOf v.toNat 31 then
      if burnRefused field s then s.bset Reg.SEC_FUSE_CTL 29 true
      else
        let s := s.bset Reg.SEC_FUSE_CTL 29 false
        if fuseBusy s then s.sc (fun x => { x with killHeld := true }) else beginBurn field s
    else s
  else s

/-- R504: a write of SEC_CTL. -/
def svnWrite (v : Word) (s : State) : State :=
  if s.served Reg.SEC_CTL && bitOf v.toNat 0 then
    if fuseBusy s then s.bset Reg.SEC_FUSE_CTL 29 true
    else if s.sec.svnRun ≤ s.sec.svn || s.sec.lc = 0 then s
    else (s.bset Reg.SEC_FUSE_CTL 30 true).sc (fun x => { x with burn := some (14, []) })
  else s

/-- The bytes of a burn's data as a number, big-endian. -/
def burnNat (data : List Word) (n : Nat) : Nat := beNat ((wordBytes data).take n)

/-- R503: what a burn leaves in the fuses. -/
def burnt (field : Nat) (data : List Word) (x : SecSt) : SecSt :=
  let h : BitVec 384 := BitVec.ofNat 384 (burnNat data 48)
  match field with
  | 8 => { x with imgKey := some (BitVec.ofNat 256 (burnNat data 32)) }
  | 9 => { x with hashes := upd x.hashes 4 (some h) }
  | 10 => { x with authEn := true }
  | 11 => { x with lcProv := true }
  | 12 => { x with lcField := true }
  | 13 => { x with kill := true }
  | 14 => { x with svnBits := x.svnBits ||| x.svnBurn }
  | f => if f ≤ 3 then { x with hashes := upd x.hashes f (some h) } else { x with revoked := x.revoked ||| 2 ^ (f - 4) }

/-- R505, R514: the burn in progress ends; a held DEBUG_KILL burn starts. -/
def burnDone (s : State) : State :=
  match s.sec.burn with
  | none => s
  | some (field, data) =>
    let s := s.sc (fun x => { burnt field data x with burn := none })
    let s := if field = 13 then endSession s else s
    if s.sec.killHeld then beginBurn 13 (s.sc (fun x => { x with killHeld := false })) else s.bset Reg.SEC_FUSE_CTL 30 false

/-- R505: a burn is cut off: each bit is either burnt or not, which the model draws. -/
def burnCut (s : State) : State :=
  match s.sec.burn with
  | none => s
  | some (field, data) =>
    let r := s.freeW
    let s := (r.2.bset Reg.SEC_FUSE_CTL 30 false).sc (fun x => { x with burn := none, killHeld := false })
    let bits := data.foldl (fun a d => (a.1 ++ [d &&& a.2.freeW.1], a.2.freeW.2)) (([] : List Word), s)
    if field = 14 then
      let h := s.freeW
      h.2.sc (fun x => { x with svnBits := x.svnBits ||| (x.svnBurn &&& (r.1.toNat * 2 ^ 32 + h.1.toNat)) })
    else if bitOf r.1.toNat 0 then bits.2.sc (burnt field bits.1) else s

/-- Fresh free words. -/
def freeWords : Nat → State → List Word × State
  | 0, s => ([], s)
  | n + 1, s => let r := s.freeW; let t := freeWords n r.2; (r.1 :: t.1, t.2)

/-- R511: LOCKOUT. -/
def lockout (s : State) : Bool := decide (3 ≤ s.sec.fails)

/-- R511: CHALLENGE draws a nonce; any earlier one becomes invalid. -/
def drawNonce (s : State) : State :=
  if lockout s then s
  else
    let r := freeWords 8 s
    let s := ((List.range 8).zip r.1).foldl (fun s iw => s.wr (Reg.DBG_CHAL iw.1) iw.2.toNat) r.2
    s.sc (fun x => { x with nonceAt := some s.sched.up, phase := if x.phase = 2 then 2 else 1 })

/-- R511: GO takes the nonce and starts verification. -/
def startVerify (s : State) : State :=
  match s.sec.phase, s.sec.nonceAt with
  | 1, some t =>
    let nonce := (List.range 8).map (fun w => toW (s.rd (Reg.DBG_CHAL w)))
    s.sc (fun x => { x with phase := 2, nonceAt := none, verifying := nonce, verifyAge := s.sched.up - t })
  | _, _ => s

/-- R511 to R513: a write of DBG_CTL: END, then GO against the previous nonce, then CHALLENGE. -/
def dbgCtlWrite (v : Word) (s : State) : State :=
  if s.served Reg.DBG_CTL then
    let s := if bitOf v.toNat 1 then endSession s else s
    let s := if bitOf v.toNat 2 then startVerify s else s
    if bitOf v.toNat 0 then drawNonce s else s
  else s

/-- The bytes of DBG_AUTH_DATA. -/
def authBytes (s : State) : List Byte := wordBytes ((List.range 56).map (fun w => toW (s.rd (Reg.DBG_AUTH_DATA w))))

/-- R511: what the debugger must have signed. -/
def authMessage (s : State) : List Byte :=
  ([0x44, 0x42, 0x47, 0x31] : List Byte) ++ leBytes 8 s.sec.uid.toNat ++ wordBytes s.sec.verifying

/-- R511: the response passes. -/
def authOk (s : State) : Bool :=
  let d := authBytes s
  s.debugSt == 1 && !lockout s && s.sec.hash 4 == some (sha384 (d.take 97))
    && ecdsaOk (d.take 97) (sha384 (authMessage s)) (slice d 128 96) && decide (s.sec.verifyAge ≤ 10000000000)

/-- R511, step 4: verification ends. -/
def verifyDone (s : State) : State :=
  if s.sec.phase = 2 then
    let ok := authOk s
    let s := s.sc (fun x => { x with phase := b2n x.nonceAt.isSome, verifying := [] })
    if ok then (s.sc (fun x => { x with session := true })).count Reg.DBG_SESSION_CNT 1
    else (s.sc (fun x => { x with fails := Nat.min (x.fails + 1) 3 })).count Reg.DBG_AUTH_FAIL_CNT 1
  else s

/-- R517: DBG_AUTH_STATUS. -/
def authStatus (s : State) : Nat := s.sec.phase * 2 ^ 30 + b2n (lockout s) * 2 ^ 29 + s.sec.fails

/-- R515, R535: the key is kept, wrapped, in MRAM after the words of the operating hours (its place and form: log entry 92). -/
def keepKey (k : BitVec 128) (s : State) : State :=
  mramBytes 0x3EF0100 (leBytes 24 (Config.wrapKey s.sec.imgKey s.sec.uid k).toNat) (s.sc (fun x => { x with twinKey := some k, keyKept := some k }))

/-- R515: a write of SEC_TWIN_KEY_CTL: KEY_REJECT clears, STORE stores the key or is rejected. -/
def twinKeyWrite (v : Word) (s : State) : State :=
  if s.served Reg.SEC_TWIN_KEY_CTL then
    let s := if bitOf v.toNat 30 then s.bset Reg.SEC_TWIN_KEY_CTL 30 false else s
    if bitOf v.toNat 0 then
      if s.bget Reg.TWIN_CTL 31 then s.bset Reg.SEC_TWIN_KEY_CTL 30 true
      else keepKey (BitVec.ofNat 128 (beNat (wordBytes ((List.range 4).map (fun w => toW (s.rd (Reg.SEC_TWIN_KEY w))))))) s
    else s
  else s

/-- R507: a register with access code RWL is locked. -/
def rwlLocked (s : State) : Bool := s.sec.lc == 2 && !s.sec.session

/-- R509: the IDCODE; STEPPING is 0. -/
def idCode (v : Variant) : Nat := capCode v * 2 ^ 12 + 0x593 * 2 + 1

/-- R510: the TAP is powered. -/
def tapPowered (s : State) : Bool := !s.pwr.off

/-- R510: the module is ACTIVE or QUIET. -/
def tapMain (s : State) : Bool := s.fget Reg.PWR_STATUS 31 30 ≠ 2 && !s.pwr.off

/-- R510: TAP instruction `code` is allowed in the present level and power state. -/
def tapAllows (code : Nat) (s : State) : Bool :=
  code == 0xFF || code == 0x01 ||
    (tapMain s && ((s.level == 2 && (code == 0x02 || (code == 0x03 && !s.sched.rendering) || code == 0x10 || code == 0x11 || code == 0x12))
      || (s.level == 1 && (code == 0x02 || code == 0x10))))

/-- R509: the instruction that a code selects; one that is barred selects BYPASS. -/
def tapSelect (code : Nat) (s : State) : Nat := if tapAllows code s then code else 0xFF

/-- Bits shifted through a register that holds `reg`: as many come out as went in. -/
def shiftOut (reg tdi : List Bool) : List Bool := (reg ++ tdi).take tdi.length

/-- Free bits, one for each bit shifted. -/
def freeBits : Nat → State → List Bool × State
  | 0, s => ([], s)
  | n + 1, s => let r := s.freeW; let t := freeBits n r.2; (bitOf r.1.toNat 0 :: t.1, t.2)

/-- R509: instruction register and data register of a scan. The bits that the pads show are free values. -/
def tapScan (code : Nat) (tdi : List Bool) (s : State) : State :=
  if tapPowered s then
    let ir := tapSelect code s
    if ir = 0x01 then s.sc (fun x => { x with ir := ir, tdo := shiftOut ((List.range 32).map (bitOf (idCode s.variant))) tdi })
    else if ir = 0x02 || ir = 0x03 then
      let r := freeBits tdi.length s
      r.2.sc (fun x => { x with ir := ir, tdo := r.1, boundary := tdi })
    else s.sc (fun x => { x with ir := ir, tdo := shiftOut [false] tdi })
  else s

/-! The debug module of the Scribe cores, per RISC-V External Debug Support 0.13.2, which R509 names (PRESUMED, log entry 20). -/

/-- A write of dmcontrol: with dmactive 0 the module is reset and its harts resume; else haltreq and resumereq act on the hart that
hartsel names, and ndmreset lets every hart go. -/
def dmControl (w : Nat) (s : State) : State :=
  if !bitOf w 0 then s.sc (fun x => { x with dmActive := false, dmSel := 0, dmHalted := [], dmAck := [], dmData := 0, dmErr := 0 })
  else
    let h := getF w 15 6 * 1024 + getF w 25 16
    s.sc (fun x =>
      let x := { x with dmActive := true, dmSel := h }
      if bitOf w 1 then { x with dmHalted := [], dmAck := [] }
      else if 4 ≤ h then x
      else if bitOf w 31 then { x with dmHalted := insNat x.dmHalted h, dmAck := x.dmAck.filter (fun k => k != h) }
      else if bitOf w 30 && x.dmHalted.contains h then { x with dmHalted := x.dmHalted.filter (fun k => k != h), dmAck := insNat x.dmAck h }
      else x)

/-- dmstatus: version 2, authenticated, and the state of the selected hart. -/
def dmStatus (s : State) : Nat :=
  let x := s.sec
  let two (b : Bool) (k : Nat) : Nat := b2n b * (3 * 2 ^ k)
  let no := decide (4 ≤ x.dmSel)
  let off := !no && !s.coreOn
  let halted := !no && !off && x.dmHalted.contains x.dmSel
  2 + 2 ^ 7 + two halted 8 + two (!no && !off && !halted) 10 + two off 12 + two no 14 + two (x.dmAck.contains x.dmSel) 16

/-- An abstract command: a register of a halted Scribe core is read into data0 or written from it; what a core's registers hold is free.
A command of another kind, or on a hart that runs, sets cmderr. -/
def dmCommand (w : Nat) (s : State) : State :=
  if s.sec.dmErr ≠ 0 then s
  else if getF w 31 24 ≠ 0 then s.sc (fun x => { x with dmErr := 2 })
  else if !(s.sec.dmHalted.contains s.sec.dmSel) then s.sc (fun x => { x with dmErr := 4 })
  else if bitOf w 17 && !bitOf w 16 then
    let f := s.freeW
    f.2.sc (fun x => { x with dmData := f.1 })
  else s

/-- A write through the debug module interface. -/
def dmWrite (a : Nat) (v : Word) (s : State) : State :=
  if a = 0x10 then dmControl v.toNat s
  else if !s.sec.dmActive then s
  else if a = 0x04 then s.sc (fun x => { x with dmData := v })
  else if a = 0x16 then s.sc (fun x => { x with dmErr := x.dmErr - (x.dmErr &&& getF v.toNat 10 8) })
  else if a = 0x17 then dmCommand v.toNat s
  else s

/-- A read through the debug module interface; registers that are not implemented read 0. -/
def dmRead (a : Nat) (s : State) : Nat :=
  let x := s.sec
  if a = 0x10 then x.dmSel % 1024 * 2 ^ 16 + x.dmSel / 1024 % 1024 * 2 ^ 6 + b2n x.dmActive
  else if a = 0x11 then dmStatus s
  else if a = 0x04 then x.dmData.toNat
  else if a = 0x16 then x.dmErr * 2 ^ 8 + 1
  else if a = 0x40 then x.dmHalted.foldl (fun n k => n + 2 ^ k) 0
  else 0

/-- R509, R510: the instruction is selected; where it is barred, BYPASS is, and nothing is accessed. -/
def scribeDm (acc : Option (Nat × Option Word)) (s : State) : State :=
  let t := tapScan 0x12 [] s
  if !tapPowered s || tapSelect 0x12 s ≠ 0x12 then t
  else match acc with
    | none => t
    | some (a, some v) => dmWrite a v t
    | some (a, none) => t.answer (toW (dmRead a t))

/-- SVN_COMMIT (R504). -/
def execSvnCommit (_m : Master) (v : Word) (s : State) : Host.Outcome State Fault Refusal := .next (svnWrite v s)

/-- FUSE_BURN_START (R505). -/
def execFuseBurnStart (_m : Master) (v : Word) (s : State) : Host.Outcome State Fault Refusal := .next (fuseCtlWrite v s)

/-- CHALLENGE (R511): a write of DBG_CTL. -/
def execChallenge (_m : Master) (v : Word) (s : State) : Host.Outcome State Fault Refusal := .next (dbgCtlWrite v s)

/-- GO (R511): a write of DBG_CTL. -/
def execGo (_m : Master) (v : Word) (s : State) : Host.Outcome State Fault Refusal := .next (dbgCtlWrite v s)

/-- DEBUG_VERIFY_COMPLETE (R511). -/
def execDebugVerifyComplete (s : State) : Host.Outcome State Fault Refusal := .next (verifyDone s)

/-- DEBUG_SESSION_END (R513): a write of DBG_CTL. -/
def execDebugSessionEnd (_m : Master) (v : Word) (s : State) : Host.Outcome State Fault Refusal := .next (dbgCtlWrite v s)

/-- STORE (R515). -/
def execStore (_m : Master) (v : Word) (s : State) : Host.Outcome State Fault Refusal := .next (twinKeyWrite v s)

/-- BYPASS (R509). -/
def execBypass (tdi : List Bool) (s : State) : Host.Outcome State Fault Refusal := .next (tapScan 0xFF tdi s)

/-- IDCODE (R509). -/
def execIdcode (tdi : List Bool) (s : State) : Host.Outcome State Fault Refusal := .next (tapScan 0x01 tdi s)

/-- SAMPLE_PRELOAD (R509). -/
def execSamplePreload (tdi : List Bool) (s : State) : Host.Outcome State Fault Refusal := .next (tapScan 0x02 tdi s)

/-- EXTEST (R509, R510). -/
def execExtest (tdi : List Bool) (s : State) : Host.Outcome State Fault Refusal := .next (tapScan 0x03 tdi s)

/-- SCRIBE_DM (R509, R510): the instruction is selected, with a transaction of the debug module interface. -/
def execScribeDm (s : State) (acc : Option (Nat × Option Word) := none) : Host.Outcome State Fault Refusal := .next (scribeDm acc s)

end Sys2Proof.Machine
end

