-- ==== Sys2Proof/Machine/Power.lean ====
section
/-! DEFINITION. Power (R476 to R498, R573 to R577): the feeds, brownout and hold-up, the power states, standby and wake, thermal
thresholds, adaptive voltage, operating hours, the margin planner and the health log. -/

namespace Sys2Proof.Machine

/-- Change the power manager. -/
def State.pw (s : State) (f : PwrSt → PwrSt) : State := { s with pwr := f s.pwr }

/-- PWR_STATUS.STATE: 0 ACTIVE, 1 QUIET, 2 STANDBY. -/
def pwrState (s : State) : Nat := s.fget Reg.PWR_STATUS 31 30

/-- PWR_STATUS.BUSY. -/
def pwrBusy (s : State) : Bool := s.bget Reg.PWR_STATUS 29

/-- R480: a word onto queue 19; the queue lies in the CORE domain. -/
def pushPwr (kind index new value : Nat) (s : State) : State :=
  if s.coreOn then
    pushBy 0x4B 19 (BitVec.ofNat 60 (kind * 2 ^ 56 + index % 16 * 2 ^ 52 + new % 16 * 2 ^ 48 + value % 65536 * 2 ^ 32 + s.sched.bnAon % 2 ^ 32)) s
  else s

/-- R495: the 60 bytes of a health-log record. -/
def logBody (kind : Nat) (extra : List Byte) (s : State) : List Byte :=
  [BitVec.ofNat 8 kind] ++ leBytes 3 s.pwr.logSeq ++ leBytes 8 s.bn ++ leBytes 4 (s.rd Reg.PWR_HOURS)
    ++ leBytes 2 (s.fget (Reg.PWR_FEED 0) 15 0) ++ leBytes 2 (s.fget (Reg.PWR_FEED 1) 15 0)
    ++ leBytes 2 (s.rd Reg.PWR_TEMP_MAX) ++ [BitVec.ofNat 8 (s.fget Reg.PWR_AVS 20 16), BitVec.ofNat 8 (pwrState s)]
    ++ (extra ++ List.replicate 20 0).take 20 ++ List.replicate 16 0

/-- R495: a record of a KIND, at most one each second. -/
def logRecord (kind : Nat) (extra : List Byte) (s : State) : State :=
  let early := match Tab.find s.pwr.logAt kind with
    | some t => decide (s.sched.up < t + 1000000000)
    | none => false
  if early then s
  else
    let b := logBody kind extra s
    (mramBytes (0x3F00000 + 64 * (s.pwr.logSeq % 16384)) (b ++ leBytes 4 (crc32c b)) s).pw
      (fun p => { p with logSeq := p.logSeq + 1, logAt := Tab.ins p.logAt kind s.sched.up })

/-- STATE of a feed. -/
def feedState (s : State) (f : Nat) : Nat := s.fget (Reg.PWR_FEED f) 31 29

/-- R476: the feed carries load. -/
def feedCarries (s : State) (f : Nat) : Bool := decide (feedState s f ≤ 2)

/-- R476: the state that a voltage points to. -/
def feedClass (low high mv : Nat) : Nat :=
  if mv < 9000 then 3 else if 14000 < mv then 4 else if mv < low then 1 else if mv ≤ high then 0 else 2

/-- R476: consecutive samples, 10 µs apart, that confirm a state. -/
def feedNeed (cur cls : Nat) : Nat :=
  if 3 ≤ cls then 2 else if cls = 0 then (if 3 ≤ cur then 10000 else 1) else 10

/-- R476: samples in a row at or below HIGH_MV. -/
def calmRun (cls : Nat) (x : FeedSt) : Nat := if cls = 2 || cls = 4 then 0 else x.calm + 1

/-- R476: a feed that has tripped stays disconnected until 100 ms at or below HIGH_MV. -/
def feedLocked (cls : Nat) (x : FeedSt) : Bool := x.trip && decide (cls ≤ 2) && decide (calmRun cls x < 10000)

/-- R476, R478: one sample of a feed: the state after it and the run it belongs to. -/
def feedStep (cur cls : Nat) (x : FeedSt) : Nat × FeedSt :=
  let y : FeedSt := { x with calm := calmRun cls x, drop := x.drop && decide (3 ≤ cls) }
  if cls = cur then (cur, { y with cand := cls, runs := 0 })
  else
    let n := if x.cand = cls then x.runs + 1 else 1
    if feedNeed cur cls ≤ n && !feedLocked cls x then
      (cls, { y with cand := cls, runs := 0, trip := cls == 4 || (cls == 3 && x.trip), drop := false })
    else (cur, { y with cand := cls, runs := n })

/-- R480: a feed's state changes. -/
def feedChange (f new mv : Nat) (s : State) : State :=
  if feedState s f = new then s
  else
    let s := fire 0x44 f (s.fset (Reg.PWR_FEED f) 31 29 new)
    let s := pushPwr 1 f new (Nat.min mv 65535) s
    if 3 ≤ new then s.count Reg.PWR_FEED_LOSS_CNT 1 else s

/-- R476: the manager samples one feed's voltage. -/
def sampleFeed (f mv : Nat) (s : State) : State :=
  let x := if f = 0 then s.pwr.feedA else s.pwr.feedB
  let r := feedStep (feedState s f) (feedClass (s.fget Reg.PWR_FEED_THR 15 0) (s.fget Reg.PWR_FEED_THR 31 16) mv) x
  let s := s.pw (fun p => if f = 0 then { p with feedA := r.2 } else { p with feedB := r.2 })
  feedChange f r.1 mv (s.fset (Reg.PWR_FEED f) 15 0 (Nat.min mv 65535))

/-- R476: CURRENT of a feed that supplies `p` (10 mW), in 10 mA. -/
def setCurrent (f p : Nat) (s : State) : State :=
  s.fset (Reg.PWR_FEED f) 27 16 (Nat.min (p * 1000 / Nat.max 1 (s.fget (Reg.PWR_FEED f) 15 0)) 4095)

/-- R571: the module's greatest input power in its power state, in 10 mW. -/
def maxPower (s : State) : Nat :=
  match pwrState s, s.variant with
  | 0, .el9610 => 6000 | 0, .el9620 => 4400 | 0, .el9630 => 2800
  | 1, .el9610 => 2000 | 1, .el9620 => 1700 | 1, .el9630 => 1300
  | _, _ => 250

/-- R476 to R478: the feeds that carry load supply the module's input power, a free value of at most R571's greatest; where both do,
FEED_A supplies a free share of 40 % to 60 % of it (log entry 170); one that has collapsed supplies nothing. PWR_POWER is the sum. -/
def shareLoad (s : State) : State :=
  let d := s.freeW
  let h := d.2.freeW
  let a := feedCarries s 0 && !s.pwr.feedA.drop
  let b := feedCarries s 1 && !s.pwr.feedB.drop
  let p := if a || b then d.1.toNat % (maxPower s + 1) else 0
  let pa := if a && b then p * (400 + h.1.toNat % 201) / 1000 else if a then p else 0
  (setCurrent 1 (p - pa) (setCurrent 0 pa h.2)).wr Reg.PWR_POWER p

/-- R478: the ideal-diode stage moves the whole load to the other feed. -/
def feedCollapse (f : Nat) (s : State) : State :=
  let g := 1 - f
  if f < 2 && !s.pwr.off && feedCarries s g && s.fget (Reg.PWR_FEED g) 15 0 ≠ 0 then
    let s := s.pw (fun p => if f = 0 then { p with feedA := { p.feedA with drop := true } } else { p with feedB := { p.feedB with drop := true } })
    (s.fset (Reg.PWR_FEED f) 27 16 0).fset (Reg.PWR_FEED g) 27 16 (Nat.min (s.rd Reg.PWR_POWER * 1000 / s.fget (Reg.PWR_FEED g) 15 0) 4095)
  else s

/-- Memory that survives the CORE and DRAM domains' reset: MRAM, and memory of the host. -/
def keepsMem (a : Nat) : Bool := inMram a || decide (hostBit ≤ a)

/-- What a reset of every domain but AON leaves (R497, R513, R515, R574). `cold` says that LOCKOUT ends too (R511). -/
def domainReset (cold : Bool) (s : State) : State :=
  let t := s.twin
  { State.reset with
      pending := s.pending
      freeCtr := s.freeCtr
      variant := s.variant
      regs := s.regs.filter (fun p => unitOf p.1 == some .pwr)
      mem := { Mem.reset with cells := s.mem.cells.filter (fun c => keepsMem c.1), bad := s.mem.bad.filter keepsMem }
      sched := { Sched.reset with up := s.sched.up }
      twin := { TwinSt.reset with peerAlive := t.peerAlive, peerEdges := t.peerEdges, edgeAt := t.edgeAt }
      hif := { Hif.reset with bootSrc := s.hif.bootSrc }
      pwr := { s.pwr with want := 0, heldReq := 0, moving := [], bootHeld := none }
      sec := { s.sec with lc := s.sec.fuseLc, svnRun := 0, session := false, burn := none, killHeld := false, phase := 0
                          fails := if cold then 0 else s.sec.fails, nonceAt := none, verifying := [], twinKey := none
                          dmActive := false, dmHalted := [], dmAck := [] } }

/-- The boot ROM begins, with the strap sampled (R539, R573); CORE runs at the setting that PWR_CLK keeps (R487). -/
def beginRom (src : Bool) (s : State) : State :=
  (({ s with hif := { s.hif with stage := 1, bootSrc := src } } : State).pw (fun p => { p with planDue := true, inReset := false, bootHeld := none })).bset
    Reg.GLB_RENDER_CFG 1 (s.bget Reg.PWR_CLK 0)

/-- R482: a change of power state is complete. -/
def stateDone (n : Nat) (s : State) : State :=
  let s := (s.fset Reg.PWR_STATUS 31 30 n).bset Reg.PWR_STATUS 29 false
  pushPwr 4 0 n 0 (fire 0x46 n (s.pw (fun p => { p with want := 0 })))

/-- R479, R482, R497, R576: the module enters OFF: PGOOD falls, the main rails switch off in reverse order, AON_1V8 follows; MRAM, fuses
and the operating hours stay. -/
def enterOff (s : State) : State :=
  let hours := s.rd Reg.PWR_HOURS
  let s := domainReset true (burnCut s)
  let s := { s with regs := [], hif := { s.hif with stage := 0 }
                    twin := { s.twin with peerAlive := false, peerEdges := 0, sel := false }
                    sec := { s.sec with ir := 1, boundary := [], tdo := [] }
                    pwr := { PwrSt.reset with off := true, pgood := false, rails := [], railSeq := railsDown ++ [(Rail.aon, false)]
                                              resetLow := s.pwr.resetLow, serdes := [], hourAt := s.sched.up, logSeq := s.pwr.logSeq, margins := s.pwr.margins } }
  s.wr Reg.PWR_HOURS hours

/-- R575: a boot that a release of RESET_N has asked for, once the brownout rule has let the module go on. -/
def bootWaiting (s : State) : State :=
  match s.pwr.bootHeld with
  | some src => beginRom src s
  | none => s

/-- R573: the AON domain runs from at most 2 ms after the first feed, and the main rails rise in their order until 12 ms; how far they
have come meanwhile is free. -/
def railRise (s : State) : State :=
  if s.pwr.powering && s.pwr.riseAt + 2000000 ≤ s.sched.up then
    let r := s.freeW
    let was := s.pwr.rails.length
    let n := if s.pwr.riseAt + 12000000 ≤ s.sched.up then 8 else Nat.max 1 (was + r.1.toNat % (9 - was))
    r.2.pw (fun p => { p with rails := ([Rail.aon] ++ mainRails).take n, railSeq := railsUp.take n })
  else s

/-- R479: both feeds have stopped carrying load, or one has returned within 1 ms. During power-up the module returns to OFF (R575). -/
def judgeBrownout (s : State) : State :=
  let carried := feedCarries s 0 || feedCarries s 1
  match s.pwr.brownAt with
  | none =>
    if carried then s
    else if s.pwr.powering then enterOff s
    else logRecord 2 [] (s.pw (fun p => { p with brownAt := some s.sched.up }))
  | some t =>
    if carried && s.sched.up ≤ t + 1000000 then
      bootWaiting (pushPwr 5 0 0 0 (fire 0x45 0 ((s.pw (fun p => { p with brownAt := none })).bset Reg.PWR_STATUS 27 true)))
    else s

/-- R476 to R480: the samples of both feeds, FEED_A first, then the brownout rule. -/
def feedSample (a b : Nat) (s : State) : State :=
  if s.pwr.off && !s.pwr.powering then s
  else
    let s := shareLoad (sampleFeed 1 b (sampleFeed 0 a (railRise s)))
    let s := if feedState s 0 = 0 && feedState s 1 = 0 then s else noteHealth 0x100 s
    judgeBrownout s

/-- R479: hold-up ends, 2 ms after the declaration at the earliest: no feed returned within the first 1 ms. -/
def holdUpEnd (s : State) : State :=
  match s.pwr.brownAt with
  | some t => if t + 2000000 ≤ s.sched.up then enterOff s else s
  | none => s

/-- R482, R573: a feed reaches OK from OFF: AON_1V8 rises. -/
def feedRise (f mv : Nat) (s : State) : State :=
  if s.pwr.off && !s.pwr.powering && f < 2 && feedClass (s.fget Reg.PWR_FEED_THR 15 0) (s.fget Reg.PWR_FEED_THR 31 16) mv = 0 then
    (s.pw (fun p => { p with powering := true, riseAt := s.sched.up, rails := [], railSeq := [], brownAt := none })).fset (Reg.PWR_FEED f) 15 0 (Nat.min mv 65535)
  else s

/-- R573, R574: the SoC leaves reset, unless RESET_N holds it there. -/
def leaveReset (src : Bool) (s : State) : State :=
  if s.pwr.resetLow then { s.pw (fun p => { p with inReset := true }) with hif := { s.hif with stage := 0 } } else beginRom src s

/-- R573: every main rail is in regulation: the cold boot of R482 (its PWR_STATE: log entry 174). -/
def powerGood (src : Bool) (s : State) : State :=
  if s.pwr.powering then
    leaveReset src ((domainReset true s).pw (fun p => { p with off := false, powering := false, pgood := true, rails := mainRails ++ [.aon]
                                                               railSeq := railsUp, hourAt := s.sched.up }))
  else s

/-- R575: a burn in progress when a reset is taken ends with the word being burnt; the words of it burnt are a free number. -/
def burnStop (s : State) : State :=
  match s.sec.burn with
  | none => s
  | some (field, data) =>
    let r := s.freeW
    let s := r.2.sc (fun x => { x with burn := none, killHeld := false })
    if field = 14 then s.sc (fun x => { x with svnBits := x.svnBits ||| (x.svnBurn &&& (if bitOf r.1.toNat 0 then 2 ^ 32 - 1 else 2 ^ 64 - 1)) })
    else
      let n := r.1.toNat % 12 + 1
      s.sc (burnt field (data.take n ++ List.replicate (12 - n) 0))

/-- R574: RESET_N is taken: every domain but AON enters reset. -/
def takeReset (s : State) : State :=
  let s := (domainReset false (burnStop s)).bset Reg.PWR_STATUS 29 false
  { s.pw (fun p => { p with inReset := true }) with hif := { s.hif with stage := 0 } }

/-- R574: RESET_N has been low for `ns`: it is ignored in STANDBY and OFF, and where it already holds the SoC; below 1 µs it is not
taken, from 10 µs it is, and between by a free value. -/
def resetFall (ns : Nat) (s : State) : State :=
  if s.pwr.off || pwrState s = 2 || s.pwr.inReset || ns < 1000 then s
  else
    let r := s.freeW
    let s := if 10000 ≤ ns then s else r.2
    if 10000 ≤ ns || bitOf r.1.toNat 0 then takeReset s else s

/-- R574, R575: RESET_N is released: the module boots as from power good; with a brownout declared, the rule of R479 governs first. -/
def resetRise (src : Bool) (s : State) : State :=
  if !s.pwr.inReset then s
  else if s.pwr.brownAt.isSome then s.pw (fun p => { p with bootHeld := some src })
  else beginRom src s

/-- R574: RESET_N: a pulse of `ns`, its pad low for `ns` so far, or its release. -/
def resetN (ns : Nat) (src : Bool) (edge : ResetEdge) (s : State) : State :=
  match edge with
  | .pulse => if s.pwr.inReset then s else resetRise src (resetFall ns s)
  | .low => resetFall ns (s.pw (fun p => { p with resetLow := true }))
  | .release => resetRise src (s.pw (fun p => { p with resetLow := false }))

/-- R481: banks that QUIET puts in RETENTION. -/
def quietBank (i : Nat) : Bool := decide (i < 272)

/-- R483, step 5: a listed bank enters RETENTION; one that is OFF, or on its way there, is not touched. -/
def retainBank (s : State) (i : Nat) : State :=
  if s.fget (Reg.MEMC_BANK_PWR i) 31 30 = 2 || s.bankTarget i = 2 then s else setBank i 1 s

/-- R275, R482: on the return to ACTIVE, where REQ governs again, a bank takes the state that REQ asks for. -/
def restoreBank (s : State) (i : Nat) : State := setBank i (s.fget (Reg.MEMC_BANK_PWR i) 1 0) s

/-- The listed banks of the variant. -/
def quietBanks (s : State) : List Nat := (List.range 288).filter (fun i => quietBank i && bankPresent s.variant i)

/-- R483, step 4: streams stop being live and every object returns to FREE, with every crosspoint record inactive (R83). An alignment
group stays as it is: R357 closes it after CLOSE_BLOCKS. -/
def stopScene (s : State) : State :=
  let s := clearRecordBanks ((List.range 1024).foldl (fun s n => (rxStop n s).bset (Reg.STRM_TX_STATUS n) 31 false) s)
  let objItem (k : Take) : Bool := match k.item with
    | .spawn _ _ => true | .objSet _ _ => true | .release _ => true | _ => false
  { s with scene := { s.scene with objs := [], trajOps := [], clearing := [], held := none, xpWrites := [], seen := [] }
           sched := { s.sched with takes := s.sched.takes.filter (fun k => !objItem k) }
           strm := { s.strm with rx := [], tx := [] } }

/-- R483, R484: render halts at the boundary that begins the present interval. On the way to STANDBY the change to QUIET is complete
here, and the request is not (DEDUCED, log entry 174). -/
def quietNow (s : State) : State :=
  let s := s.sched.commits.foldl (fun s c => failCommit c s) s
  let s := { s with sched := { s.sched with rendering := false, startAt := none, quietAt := none } }
  let s := (List.range (capTiles s.variant)).foldl (fun s k => if (s.core k).st == .idle then s else coreAbort k s) s
  let s := stopScene s
  let s := (quietBanks s).foldl retainBank s
  let s := if hasTwin s then enterFault s else s
  if s.pwr.want = 3 then pushPwr 4 0 1 0 (fire 0x46 1 (s.fset Reg.PWR_STATUS 31 30 1)) else stateDone 1 s

/-- R483: the first boundary at least 2 blocks from now. -/
def quietBoundary (s : State) : Nat := if s.sched.cycle = 0 then s.bn + 2 else s.bn + 3

/-- R483, R484, R531: the boundary of a request for QUIET is chosen; a start pending at or after it is cancelled. -/
def chooseQuiet (s : State) : State :=
  let twin := transmits s && peerStands s && hasTwin s
  let x := if twin then s.bn + 2 else quietBoundary s
  let s := if twin then doTwinFault s else s
  { s with sched := { s.sched with quietAt := some x
                                   startAt := match s.sched.startAt with
                                     | some y => if x ≤ y then none else some y
                                     | none => none } }

/-- R482: an accepted request begins. -/
def beginReq (r : Nat) (s : State) : State :=
  let s := (s.bset Reg.PWR_STATUS 29 true).pw (fun p => { p with want := r, heldReq := 0, peerRose := false })
  if r ≠ 1 && pwrState s = 0 then chooseQuiet s else s

/-- R482: a request is refused. -/
def reqRefused (r : Nat) (s : State) : Bool := pwrBusy s || pwrState s = 2 || r = pwrState s + 1

/-- R482, R505: a request for ACTIVE (1), QUIET (2) or STANDBY (3). -/
def powerReq (r : Nat) (s : State) : State :=
  if reqRefused r s then s.bset Reg.PWR_STATUS 28 true
  else if r ≠ 1 && fuseBusy s then (s.bset Reg.PWR_STATUS 29 true).pw (fun p => { p with heldReq := r })
  else beginReq r s

/-- R482, R497: a write of PWR_CTL. -/
def pwrCtlWrite (v : Word) (s : State) : State :=
  if s.served Reg.PWR_CTL then
    let s := s.fset Reg.PWR_CTL 9 8 (getF v.toNat 9 8)
    let r := getF v.toNat 2 0
    if 1 ≤ r && r ≤ 3 then powerReq r s else s
  else s

/-- R505: the burn in progress ends; a request that waited for it takes effect. -/
def fuseDone (s : State) : State :=
  let s := burnDone s
  if s.pwr.heldReq ≠ 0 && !fuseBusy s then beginReq s.pwr.heldReq s else s

/-- R483: QUIET is entered where its boundary has come, or no boundary can come. -/
def quietEntry (s : State) : State :=
  match s.sched.quietAt with
  | some x => if x ≤ s.bn || !s.mediaRun then quietNow s else s
  | none => s

/-- R482: every bank is ON after a return from QUIET. -/
def banksOn (s : State) : State :=
  if pwrState s = 1 && s.pwr.want = 1 then stateDone 0 (((List.range 288).filter (bankPresent s.variant)).foldl restoreBank s) else s

/-- R485: wake: the module boots from the beginning. The change to ACTIVE is made while the CORE domain is still off, so its PWR_STATE
is not recorded (R545; DEDUCED, log entry 174). -/
def wakeNow (src : Nat) (boot : Bool) (s : State) : State :=
  let s := (s.fset Reg.PWR_STATUS 26 24 src).count Reg.PWR_WAKE_CNT 1
  let s := (domainReset true s).pw (fun p => { p with hourAt := p.hourAt + (s.sched.up - p.standbyAt), heldWake := 0, peerRose := false
                                                      pgood := true, rails := mainRails ++ [.aon], railSeq := railsUp.drop 1 })
  leaveReset boot ((s.fset Reg.PWR_STATUS 31 30 0).bset Reg.PWR_STATUS 29 false)

/-- R485, R486: a held wake source acts once entry is complete and the trip temperature has passed. -/
def heldWakes (s : State) : State :=
  if pwrState s = 2 && !s.pwr.tripHit && s.pwr.heldWake ≠ 0 then
    wakeNow (((List.range 3).find? (fun b => bitOf s.pwr.heldWake b)).getD 0) s.hif.bootSrc s
  else s

/-- R485, R486, R497, R576: every domain except AON is switched off: PGOOD falls, and the main rails in reverse order. -/
def standbyNow (s : State) : State :=
  let s := if s.pwr.want = 3 then s else s.pw (fun p => { p with peerRose := false })
  let s := domainReset true (burnStop (dropVerify (endSession s)))
  let s := (s.fset Reg.PWR_STATUS 31 30 2).bset Reg.PWR_STATUS 29 false
  let s := { s with hif := { s.hif with stage := 0 }, twin := { s.twin with sel := false } }
  heldWakes (s.pw (fun p => { p with standbyAt := s.sched.up, pgood := false, rails := [.aon], railSeq := railsDown }))

/-- R485: from QUIET, the steps to STANDBY are done. -/
def standbyEntry (s : State) : State := if pwrState s = 1 && s.pwr.want = 3 && !fuseBusy s then standbyNow s else s

/-- R485: wake source `src` fires: the pad; the timer, which counts from the entry to STANDBY; the peer, whose TWIN_ALIVE has become
present since the entry began. -/
def wake (src : Nat) (boot : Bool) (s : State) : State :=
  let fired := src == 0
    || (src == 1 && pwrState s == 2 && s.rd Reg.PWR_WAKE_TIMER ≠ 0
      && decide (s.pwr.standbyAt + s.rd Reg.PWR_WAKE_TIMER * 1000000000 ≤ s.sched.up))
    || (src == 2 && hasTwin s && s.pwr.peerRose)
  if !s.bget Reg.PWR_WAKE_EN src || !fired || s.pwr.off then s
  else if pwrState s = 2 && !s.pwr.tripHit then wakeNow src boot s
  else if pwrState s = 2 || s.pwr.want = 3 then s.pw (fun p => { p with heldWake := p.heldWake ||| 2 ^ src })
  else s

/-- R486: the hardware thermal trip. -/
def thermalTrip (s : State) : State :=
  if s.pwr.off || pwrState s = 2 then s.pw (fun p => { p with tripHit := true })
  else standbyNow (logRecord 3 [] (s.pw (fun p => { p with tripHit := true })))

/-- R488: sensors of a class. -/
def sensCount (cls : Nat) : Nat := if cls = 0 then 48 else if cls = 1 then 16 else if cls = 2 then 24 else 8

/-- R488, R489: the hottest SoC sensor. -/
def hottest (s : State) : Int :=
  (List.range 16).foldl (fun a i => match Tab.find s.pwr.sens (2 * 64 + i) with
    | some v => Max.max a v.toInt
    | none => a) (match Tab.find s.pwr.sens 128 with
      | some v => v.toInt
      | none => 0)

/-- R489: one upward crossing of WARN or CRIT, which re-arms once the reading is 2.0 °C below or lower (DEDUCED, log entry 172). -/
def thermCross (idx : Nat) (t : Int) (s : State) : State :=
  let warn := sgn 16 (s.fget Reg.PWR_THERM 15 0)
  let crit := sgn 16 (s.fget Reg.PWR_THERM 31 16)
  let s := if warn ≤ t then noteHealth 0x200 s else s
  let s := if warn ≤ t && !s.pwr.warnHit then
      pushPwr 2 idx 0 (uns 16 t) (fire 0x47 0 (s.pw (fun p => { p with warnHit := true })))
    else if t ≤ warn - 512 then s.pw (fun p => { p with warnHit := false }) else s
  if crit ≤ t && !s.pwr.critHit then
    let s := fire 0x47 1 ((s.pw (fun p => { p with critHit := true })).count Reg.PWR_THERM_CRIT_CNT 1)
    let s := logRecord 3 [] (pushPwr 2 idx 1 (uns 16 t) s)
    if s.bget Reg.PWR_CTL 8 then powerReq 2 s else s
  else if t ≤ crit - 512 then s.pw (fun p => { p with critHit := false }) else s

/-- R577, R584: the module drives THERM_N low: from each upward CRIT crossing until that threshold re-arms. -/
def thermLow (s : State) : Bool := s.pwr.critHit

/-- R486, R489: the trip, and its end 2.0 °C below. -/
def tripCross (t : Int) (s : State) : State :=
  if 29440 ≤ t && !s.pwr.tripHit then thermalTrip s
  else if t ≤ 28928 then heldWakes (s.pw (fun p => { p with tripHit := false })) else s

/-- R488, R489: a sensor's reading is updated; a path replica keeps its worst case. -/
def sensorUpdate (cls idx : Nat) (v : Word) (s : State) : State :=
  if s.pwr.off || 4 ≤ cls || sensCount cls ≤ idx || (pwrState s = 2 && cls < 2) then s
  else
    let k := cls * 64 + idx
    let w := match cls, Tab.find s.pwr.sens k with
      | 1, some old => if old.toInt < v.toInt && !s.pwr.fresh.contains idx then old else v
      | _, _ => v
    let s := s.pw (fun p => { p with sens := Tab.ins p.sens k w, fresh := if cls = 1 then p.fresh.filter (fun i => i != idx) else p.fresh })
    if cls = 2 && idx < 16 then
      let t := hottest s
      tripCross t (thermCross idx t (s.wr Reg.PWR_TEMP_MAX (uns 16 t)))
    else s

/-- R488, R497: PWR_SENS_DATA: an index beyond the class count, or a sensor with no reading yet, reads 0; a path replica starts anew. -/
def sensRead (s : State) : Word × State :=
  let cls := s.fget Reg.PWR_SENS_IDX 9 8
  let idx := s.fget Reg.PWR_SENS_IDX 5 0
  let k := cls * 64 + idx
  if sensCount cls ≤ idx then (0, s)
  else
    let v := (Tab.find s.pwr.sens k).getD 0
    if cls = 1 then (v, s.pw (fun p => { p with fresh := insNat p.fresh idx, canaryRead := insNat p.canaryRead idx })) else (v, s)

/-- R490, R497: a write of PWR_AVS. -/
def avsWrite (v : Word) (s : State) : State :=
  let a := Reg.PWR_AVS
  if s.served a then
    let w := v.toNat
    let s := if bitOf w 31 then s.bset a 31 false else s
    let s := if 5 ≤ getF w 28 24 then s.fset a 28 24 (getF w 28 24) else s
    let q := getF w 4 0
    if s.sched.rendering && q < s.fget a 20 16 then s.bset Reg.PWR_STATUS 23 true else s.fset a 4 0 (Nat.min q 26)
  else s

/-- R490: the regulator moves one step toward STEP_REQ, 10 µs after its last step at the earliest. -/
def avsStep (s : State) : State :=
  let a := Reg.PWR_AVS
  let now := s.fget a 20 16
  let req := s.fget a 4 0
  if s.pwr.off || pwrState s = 2 || now = req || decide (s.sched.up < s.pwr.avsAt + 10000) then s
  else (s.fset a 20 16 (if now < req then now + 1 else now - 1)).pw (fun p => { p with avsAt := s.sched.up })

/-- The worst path-replica slack since the last read of each. -/
def worstSlack (s : State) : Option Int :=
  ((List.range 16).filter (fun i => !s.pwr.fresh.contains i)).foldl (fun a i => match Tab.find s.pwr.sens (64 + i), a with
    | some v, some m => some (Min.min m v.toInt)
    | some v, none => some v.toInt
    | none, m => m) none

/-- R491: the canary of some replica fails: its slack is below GUARD_PS. -/
def canaryFails (s : State) : Bool :=
  match worstSlack s with
  | some w => decide (w < s.fget Reg.PWR_AVS 28 24)
  | none => false

/-- R491: a path replica's canary fails; a raise follows once every canary has been read since the last one (DEDUCED, log entry 199). -/
def avsGuard (s : State) : State :=
  let a := Reg.PWR_AVS
  let req := s.fget a 4 0
  if s.pwr.off || pwrState s = 2 || !canaryFails s then s
  else
    let s := if s.fget a 20 16 = 26 then logRecord 4 [] (noteHealth 0x400 (s.bset a 31 true)) else s
    if s.bget Reg.PWR_CTL 9 && (List.range 16).all (fun i => s.pwr.canaryRead.contains i) && req < 26 then
      let s := (s.fset a 4 0 (req + 1)).pw (fun p => { p with canaryRead := [] })
      pushPwr 3 0 0 (req + 1) (fire 0x48 0 (s.count Reg.PWR_AVS_GUARD_CNT 1))
    else s

/-- R492, R496: the count of operating hours goes to MRAM, 64 words in turn (their place is the model's, log entry 169). -/
def keepHours (s : State) : State :=
  let h := s.rd Reg.PWR_HOURS
  mramBytes (0x3EF0000 + 4 * (h % 64)) (leBytes 4 h) s

/-- R492, R493: a whole operating hour has passed; each thousandth asks for a run of the margin planner. -/
def operatingHour (s : State) : State :=
  if !s.pwr.off && pwrState s ≠ 2 && s.pwr.hourAt + 3600000000000 ≤ s.sched.up then
    let s := keepHours ((s.count Reg.PWR_HOURS 1).pw (fun p => { p with hourAt := p.hourAt + 3600000000000 }))
    s.pw (fun p => { p with planDue := p.planDue || s.rd Reg.PWR_HOURS % 1000 == 0 })
  else s

/-- R493: the step that brings a slack of `sl` ps at step `k` to 40 ps, with a gain of `g` (in 10⁻³ ps) for each step. -/
def planStep (sl : Int) (k : Nat) (g : Int) : Nat :=
  if 40 ≤ sl then k else if g ≤ 0 then 26 else Nat.min 26 (k + (((40 - sl) * 1000 + g - 1) / g).toNat)

/-- R493: the lowest step at which a slack of `sl` ps at step `k` stays at 40 ps. -/
def planDown (sl : Int) (k : Nat) (g : Int) : Nat := if g ≤ 0 || sl < 40 then k else k - ((sl - 40) * 1000 / g).toNat

/-- R494: the predicted margin from the records (hours, s_ref in 10⁻³ ps) and s_max; 0xFFFFFFFF with no prediction. -/
def predict (recs : List (Nat × Int)) (smax : Int) : Nat :=
  let n : Int := recs.length
  let sx : Int := recs.foldl (fun a r => a + (r.1 : Int)) 0
  let sy : Int := recs.foldl (fun a r => a + r.2) 0
  let sxx : Int := recs.foldl (fun a r => a + (r.1 : Int) * (r.1 : Int)) 0
  let sxy : Int := recs.foldl (fun a r => a + (r.1 : Int) * r.2) 0
  let num := n * sxy - sx * sy
  let den := n * sxx - sx * sx
  if recs.length < 3 || 0 ≤ num || den ≤ 0 then 0xFFFFFFFF
  else Nat.min ((smax - 40000) * den / (-num)).toNat 0xFFFFFFFF

/-- R493: the step that a run sets: raised where the slack is too small; while render is halted it may also be lowered, which a
free value decides (log entry 171). -/
def planned (gain after : Int) (s : State) : State :=
  let k0 := s.fget Reg.PWR_AVS 4 0
  let sl := (worstSlack s).getD after
  let r := s.freeW
  let k := if !s.sched.rendering && bitOf r.1.toNat 0 then planDown sl k0 gain else k0
  r.2.fset Reg.PWR_AVS 4 0 (if 40 ≤ sl then k else Nat.max k0 (planStep sl k0 gain))

/-- R488, R493: the planner has read every sensor: the canaries have been read, and each replica's worst case starts anew. -/
def sensorsRead (s : State) : State :=
  s.pw (fun p => { p with canaryRead := List.range 16, fresh := List.range 16 })

/-- R432: a delay key with another physical rank. -/
def rankKey (k r : Nat) : Nat := setF k 21 20 r

/-- R434, R493: the correction that a sweep of the spare has found for a delay, given by its key without the rank: the spare has it at
once, every live rank when APPLY loads it. -/
def correctDelay (c : Nat) (s : State) (e : Nat × Int) : State :=
  let x := s.ddrSt c
  let use (p : Nat) : Nat := ((((Tab.get (fun _ => 0) x.trnUse (rankKey e.1 p) : Nat) : Int) + e.2) % 1024).toNat
  let live := (List.range 4).filter (isActivePhys s c)
  let spare := s.fget (Reg.DDR_STATUS c) 1 0
  s.setDdr c { x with trnUse := Tab.put (fun _ => 0) x.trnUse (rankKey e.1 spare) (use spare)
                      trnHeld := live.foldl (fun m p => Tab.ins m (rankKey e.1 p) (use p)) x.trnHeld }

/-- R434, R493: the DRAM delays of a controller are re-planned through its spare rank, and loaded with APPLY; with the spare consumed
no sweep runs. -/
def replanDram (eyes : List (Nat × Nat × Int)) (s : State) (c : Nat) : State :=
  let mine := eyes.filter (fun e => e.1 == c)
  if present s.variant (Reg.DDR_CTL c) && s.bget (Reg.DDR_STATUS c) 28 && ddrServed s c && !mine.isEmpty then
    let t := mine.foldl (fun s e => correctDelay c s e.2) s
    t.setDdr c { t.ddrSt c with applyAt := some (s.bn + 1), spareSet := spareInUse t c }
  else s

/-- R493: the link carries render traffic: a live stream uses the media port, or the twin link is up while render runs. -/
def carriesRender (s : State) (l : Nat) : Bool :=
  let uses (ctl : Nat) : Bool := s.fget ctl 19 16 == l || (s.bget ctl 27 && s.fget ctl 15 12 == l)
  if l < 16 then (List.range 1024).any (fun n =>
      (s.bget (Reg.STRM_RX_STATUS n) 31 && uses (Reg.STRM_RX_CTL n)) || (s.bget (Reg.STRM_TX_STATUS n) 31 && uses (Reg.STRM_TX_CTL n)))
  else decide (l < 18) && s.sched.rendering && bitOf s.twin.lanes (l - 16)

/-- R493: the SerDes settings of a link are re-planned; the spec gives them no value, so each is free (log entry 102). -/
def replanLink (s : State) (l : Nat) : State :=
  if carriesRender s l then s
  else
    let f := s.freeW
    f.2.pw (fun p => { p with serdes := Tab.ins p.serdes l f.1 })

/-- R493, R494: a run of the margin planner that is due: `gain` is G in 10⁻³ ps, `after` the worst slack in ps at the step it
sets, `eyes` the delay corrections that the sweeps find: controller, key without rank, difference. -/
def marginRun (gain after : Int) (eyes : List (Nat × Nat × Int)) (s : State) : State :=
  if s.coreOn && s.booted && s.pwr.planDue then
    let s := (sensorsRead (planned gain after s)).pw (fun p => { p with planDue := false })
    let s := (List.range 19).foldl replanLink ((List.range 2).foldl (replanDram eyes) s)
    let kk : Int := s.fget Reg.PWR_AVS 4 0
    let sref := after * 1000 + (16 - kk) * gain
    let recs := ((s.pwr.margins ++ [(s.rd Reg.PWR_HOURS, sref)]).reverse.take 16).reverse
    let m := predict recs (after * 1000 + (26 - kk) * gain)
    let s := (s.pw (fun p => { p with margins := recs })).wr Reg.PWR_MARGIN m
    let s := logRecord 1 (leBytes 4 (uns 32 after) ++ leBytes 4 kk.toNat ++ leBytes 4 (uns 32 gain) ++ leBytes 4 (uns 32 sref) ++ leBytes 4 m) s
    if m < s.rd Reg.PWR_MARGIN_WARN then fire 0x49 0 (noteHealth 0x400 s) else s
  else s

/-- FEED_SAMPLE (R476, R479, R480): the feeds' voltages in mV. -/
def execFeedSample (a b : Nat) (s : State) : Host.Outcome State Fault Refusal := .next (feedSample a b s)

/-- HOLD_UP_END (R479). -/
def execHoldUpEnd (s : State) : Host.Outcome State Fault Refusal := .next (holdUpEnd s)

/-- FEED_COLLAPSE (R478). -/
def execFeedCollapse (feed : Nat) (s : State) : Host.Outcome State Fault Refusal := .next (feedCollapse feed s)

/-- FEED_RISE (R573). -/
def execFeedRise (feed mv : Nat) (s : State) : Host.Outcome State Fault Refusal := .next (feedRise feed mv s)

/-- POWER_GOOD (R573). -/
def execPowerGood (bootSrc : Bool) (s : State) : Host.Outcome State Fault Refusal := .next (powerGood bootSrc s)

/-- RESET_N (R573 to R575): a low pulse of `ns`, or its pad low for `ns` so far, or its release. -/
def execResetN (ns : Nat) (bootSrc : Bool) (s : State) (edge : ResetEdge := .pulse) : Host.Outcome State Fault Refusal :=
  .next (resetN ns bootSrc edge s)

/-- REQ_ACTIVE (R482): a write of PWR_CTL. -/
def execReqActive (_m : Master) (v : Word) (s : State) : Host.Outcome State Fault Refusal := .next (pwrCtlWrite v s)

/-- REQ_QUIET (R483): a write of PWR_CTL. -/
def execReqQuiet (_m : Master) (v : Word) (s : State) : Host.Outcome State Fault Refusal := .next (pwrCtlWrite v s)

/-- REQ_STANDBY (R485): a write of PWR_CTL. -/
def execReqStandby (_m : Master) (v : Word) (s : State) : Host.Outcome State Fault Refusal := .next (pwrCtlWrite v s)

/-- QUIET_ENTRY (R483). -/
def execQuietEntry (s : State) : Host.Outcome State Fault Refusal := .next (quietEntry s)

/-- BANKS_ON_COMPLETE (R482). -/
def execBanksOnComplete (s : State) : Host.Outcome State Fault Refusal := .next (banksOn s)

/-- STANDBY_ENTRY (R485). -/
def execStandbyEntry (s : State) : Host.Outcome State Fault Refusal := .next (standbyEntry s)

/-- WAKE (R485). -/
def execWake (src : Nat) (bootSrc : Bool) (s : State) : Host.Outcome State Fault Refusal := .next (wake src bootSrc s)

/-- THERMAL_TRIP (R486). -/
def execThermalTrip (s : State) : Host.Outcome State Fault Refusal := .next (thermalTrip s)

/-- SENSOR_UPDATE (R488, R489). -/
def execSensorUpdate (cls idx : Nat) (v : Word) (s : State) : Host.Outcome State Fault Refusal := .next (sensorUpdate cls idx v s)

/-- AVS_STEP_REQ_WRITE (R490): a write of PWR_AVS. -/
def execAvsStepReqWrite (_m : Master) (v : Word) (s : State) : Host.Outcome State Fault Refusal := .next (avsWrite v s)

/-- AVS_REGULATOR_STEP (R490). -/
def execAvsRegulatorStep (s : State) : Host.Outcome State Fault Refusal := .next (avsStep s)

/-- PWR_AVS_GUARD (R491). -/
def execPwrAvsGuard (s : State) : Host.Outcome State Fault Refusal := .next (avsGuard s)

/-- OPERATING_HOUR (R492). -/
def execOperatingHour (s : State) : Host.Outcome State Fault Refusal := .next (operatingHour s)

/-- MARGIN_PLANNER_RUN (R493, R494). -/
def execMarginPlannerRun (gain after : Int) (s : State) (eyes : List (Nat × Nat × Int) := []) : Host.Outcome State Fault Refusal :=
  .next (marginRun gain after eyes s)

/-- FUSE_BURN_COMPLETE (R505, R514). -/
def execFuseBurnComplete (s : State) : Host.Outcome State Fault Refusal := .next (fuseDone s)

end Sys2Proof.Machine
end

