-- ==== Sys2Proof/Machine/Cmd.lean ====
section
/-! DEFINITION. The host's command queues (R524 to R529): framing, eligibility, status codes, completions and sources. -/

namespace Sys2Proof.Machine

/-- R4, R528: status codes; E_ABSENT for an absent unit or index. -/
inductive Status where
  | ok | absent | range | state | late | busy | auth | format | opcode | lost | link | fault | aborted
  deriving DecidableEq, Repr

/-- R528: the code of a status. -/
def Status.code : Status → Nat
  | .ok => 0x00 | .absent => 0x01 | .range => 0x02 | .state => 0x03 | .late => 0x04 | .busy => 0x05 | .auth => 0x06
  | .format => 0x07 | .opcode => 0x08 | .lost => 0x09 | .link => 0x0A | .fault => 0x0B | .aborted => 0x0C

/-- R528: the order in which the first status that applies wins. -/
def statusOrder : List Status :=
  [.format, .opcode, .lost, .absent, .range, .state, .late, .busy, .auth, .link, .fault, .aborted]

/-- R528: the status of a command that meets every condition listed. -/
def firstStatus (found : List Status) : Status := (statusOrder.find? (fun x => found.contains x)).getD .ok

/-- A condition that holds gives its status. -/
def given' (b : Bool) (x : Status) : List Status := if b then [x] else []

/-- R190: the statuses that a target meets. -/
def epochStatus (t : Nat) (s : State) : List Status :=
  let r := refusals t s
  given' r.range .range ++ given' r.state .state ++ given' r.late .late ++ given' r.full .busy

/-- What a command's execution gives: status, result words, the state after it, and whether it completes later. -/
structure CRes where
  status : Status
  res : List Word
  st : State
  later : Bool
  deriving DecidableEq, Repr

/-- A command that ends at once. -/
def CRes.done (x : Status) (s : State) : CRes := ⟨x, [], s, false⟩

/-- R527: refused with the first of the statuses found, with no effect; otherwise the effect, with OK. -/
def judge (found : List Status) (s : State) (eff : State → State) : CRes :=
  if firstStatus found = .ok then .done .ok (eff s) else .done (firstStatus found) s

/-- Argument word `i`. -/
def arg (args : List Word) (i : Nat) : Nat := (nth 0 args i).toNat

/-- R529: EPOCH, argument words 1 and 2. -/
def epochOf (args : List Word) : Nat := arg args 1 + arg args 2 * 2 ^ 32

/-- R529: an address in a body, low half first. -/
def addrOf (args : List Word) (i : Nat) : Nat := arg args i + arg args (i + 1) * 2 ^ 32

/-- R529: the argument count of an opcode; none for an opcode outside the command set. -/
def nargsOf (op : Nat) (args : List Word) : Option Nat :=
  match op with
  | 0x00 => some 0 | 0x01 => some 1 | 0x02 => some 0 | 0x03 => some 1 | 0x04 => some 4 | 0x05 => some 1 | 0x06 => some 2
  | 0x07 => some 4 | 0x08 => some 2 | 0x09 => some 5 | 0x10 => some 19
  | 0x11 => some (4 + ((List.range 16).filter (fun b => bitOf (arg args 3) b)).length)
  | 0x12 => some 3 | 0x13 => some 1 | 0x14 => some 17 | 0x15 => some 1 | 0x18 => some 11 | 0x19 => some 1 | 0x1A => some 7
  | 0x1B => some 1 | 0x1C => some 35 | 0x1D => some 6 | 0x1E => some 4 | 0x20 => some 6 | 0x21 => some 3 | 0x22 => some 1
  | 0x24 => some 3 | _ => none

/-- R525: the largest number of result words of an opcode. -/
def maxRes (op : Nat) : Nat := if op = 0x02 then 2 else if op = 0x13 then 16 else if op = 0x19 then 8 else if op = 0x1B then 4 else 1

/-- R529: must-be-0 bits of a command's words are 0. -/
def bitsOk (op : Nat) (args : List Word) : Bool :=
  (match op with
    | 0x01 => decide (arg args 0 < 2) | 0x03 => decide (arg args 0 < 8) | 0x04 => decide (arg args 3 < 2)
    | 0x1E => decide (arg args 3 < 2) | 0x11 => decide (arg args 3 < 65536) | _ => true)
  && (match op with
    | 0x04 => arg args 0 == 0 | 0x1E => arg args 0 == 0 | 0x24 => arg args 0 == 0 | _ => true)

/-- R524: the queue words of a command. -/
def headerWord (op nargs tag : Nat) : BitVec 60 := BitVec.ofNat 60 (8 * 2 ^ 56 + op * 2 ^ 48 + nargs * 2 ^ 42 + tag)

/-- R524: an argument word. -/
def argWord (w : Word) : BitVec 60 := BitVec.ofNat 60 (9 * 2 ^ 56 + w.toNat)

/-- The queue entries of a command. -/
def commandWords (op : Nat) (tag : Word) (args : List Word) : List QEntry :=
  ((headerWord op args.length tag.toNat) :: args.map argWord).map (fun p => ⟨p, false, false⟩)

/-- Pop `n` words of queue `q`. -/
def popN : Nat → Nat → State → State
  | 0, _, s => s
  | n + 1, q, s => popN n q (pop q s).2

/-- R525: all of the command's words have arrived, and they stand at the front of its queue. -/
def atFront (op q : Nat) (tag : Word) (args : List Word) (s : State) : Bool :=
  let ws := commandWords op tag args
  decide ((s.qView q).take ws.length = ws)

/-- The command's own words leave its queue. -/
def takeWords (op q : Nat) (tag : Word) (args : List Word) (s : State) : State :=
  popN (commandWords op tag args).length q s

/-- R524, R543: a completion with its results is posted on the paired queue, and counted. -/
def complete (op q : Nat) (tag : Word) (x : Status) (res : List Word) (s : State) : State :=
  let head : BitVec 60 := BitVec.ofNat 60 (0xA * 2 ^ 56 + op * 2 ^ 48 + x.code * 2 ^ 40 + res.length * 2 ^ 34 + tag.toNat)
  let s := push (8 + q) [head] s
  let s := res.foldl (fun s r => push (8 + q) [BitVec.ofNat 60 (0xB * 2 ^ 56 + r.toNat)] s) s
  let s := s.count Reg.HIF_CMD_CNT 1
  if x = .ok then s else s.count Reg.HIF_CMD_ERR_CNT 1

/-- R525: a command of queue `q` waits for its completion. -/
def queueWaits (q : Nat) (s : State) : Bool := s.hif.waitingCmds.any (fun w => w.q == q)

/-- R525: a command of CMD queue `q` can execute: firmware runs, no earlier command of the queue is waiting, and the CPL queue
has room for its completion word and `n` results. -/
def eligible (q n : Nat) (s : State) : Bool :=
  decide (q < 8) && s.booted && s.coreOn && s.qEnabled q && s.qEnabled (8 + q) && !queueWaits q s
    && decide ((s.queue (8 + q)).items.length + 1 + n + 1 ≤ s.qDepth (8 + q))

/-- R526: a queue word is a command header, or an argument word. -/
def isHeader (e : QEntry) : Bool := !e.gap && !e.bad && e.pay.toNat / 2 ^ 56 == 8

/-- An argument word. -/
def isArg (e : QEntry) : Bool := !e.gap && !e.bad && e.pay.toNat / 2 ^ 56 == 9

/-- R525: the result words for which a CPL queue needs room before firmware takes the front of its CMD queue. -/
def frontRoom (ws : List QEntry) : Nat :=
  match ws with
  | h :: _ => if isHeader h then maxRes (getF h.pay.toNat 55 48) else 1
  | [] => 1

/-- R525, R526: CMD queue `q` has something that firmware can take: a command whose last word has arrived or that another word
ends, or words that are no command. -/
def wants (q : Nat) (s : State) : Bool :=
  let ws := s.qView q
  eligible q (frontRoom ws) s && (match ws with
    | [] => false
    | h :: rest =>
      let run := rest.takeWhile isArg
      !isHeader h || decide (getF h.pay.toNat 47 42 ≤ run.length) || decide (run.length < rest.length))

/-- R525: how many CMD queues come before `q` in the round robin. -/
def turnsTo (q : Nat) (s : State) : Nat := (q + 15 - s.hif.lastQ) % 8

/-- R525: the round robin has come to CMD queue `q`: no queue before it has anything to take. -/
def inTurn (q : Nat) (s : State) : Bool := (List.range 8).all (fun k => !wants k s || decide (turnsTo q s ≤ turnsTo k s))

/-- R525: firmware serves CMD queue `q`. -/
def serve (q : Nat) (s : State) : State := { s with hif := { s.hif with lastQ := q } }

/-- R525: the command waits for its completion, with its room held. -/
def hold (op q : Nat) (tag : Word) (a : Nat) (s : State) : State :=
  { s with hif := { s.hif with waitingCmds := s.hif.waitingCmds ++ [⟨q, tag, op, a, maxRes op + 1⟩] } }

/-- R525, R533, R534: a waiting command ends. -/
def release (w : Waiting) (x : Status) (res : List Word) (s : State) : State :=
  complete w.opcode w.q w.tag x res { s with hif := { s.hif with waitingCmds := s.hif.waitingCmds.filter (fun v => v != w) } }

/-- R457: opcodes that change render state: a module in STANDBY or SYNCING refuses them from its own host. -/
def changesRender (op : Nat) : Bool :=
  [0x01, 0x02, 0x04, 0x10, 0x11, 0x12, 0x14, 0x15, 0x18, 0x1A, 0x1C, 0x1D, 0x1E, 0x20, 0x21, 0x22, 0x24].contains op

/-- R457: opcodes that are held for the standby. -/
def heldOpcode (op : Nat) : Bool := op == 0x14 || op == 0x15 || op == 0x21 || op == 0x22

/-- The outcome of a command's execution reaches its completion queue, unless it waits. -/
def finishCmd (op q : Nat) (tag : Word) (r : CRes) : State :=
  if r.later then r.st else complete op q tag r.status r.res r.st

/-- R525 to R529: one command executes: its words leave the queue, its form is judged, and `body` gives its effect. -/
def runCommand (op q : Nat) (tag : Word) (args : List Word) (body : State → CRes) (s : State) : State :=
  if eligible q (maxRes op) s && atFront op q tag args s && inTurn q s then
    let s := takeWords op q tag args (serve q s)
    let s := { s with hif := { s.hif with skipping := s.hif.skipping.filter (fun k => k != q) } }
    if nargsOf op args ≠ some args.length || !bitsOk op args then finishCmd op q tag (.done .format s)
    else if (s.twin.st = 2 || s.twin.st = 4) && changesRender op then
      finishCmd op q tag (.done (firstStatus [(body s).status, .state]) s)
    else
      let r := body s
      if heldOpcode op && holdsItems s && r.status = .ok then
        finishCmd op q tag ⟨.ok, [], holdItem 0 q tag (toW op :: args) (hold op q tag s.twin.nextCseq s), true⟩
      else finishCmd op q tag r
  else s

/-- R534: the range lies in one mapped on-die row of R568 other than the program-memory alias. -/
def spanOnDie (a n : Nat) : Bool :=
  inSpan a n 0x100000000 0x101000000 || inSpan a n 0x101000000 0x103000000 || inSpan a n 0x103000000 0x103C00000
    || inSpan a n 0x104000000 0x106800000 || inSpan a n 0x107000000 0x107200000 || inSpan a n 0x107800000 0x107E00000

/-- R534: a host PCIe range. -/
def spanHost (a n : Nat) : Bool := decide (hostBit ≤ a) && decide (a + n ≤ 2 ^ 64)

/-- R529: the source rules. -/
def sourceOk (v : Variant) (a n : Nat) : Bool :=
  a % 4 == 0 && (spanDram v a n || spanOnDie a n || inSpan a n 0x400000000 0x404000000 || spanHost a n)

/-- R518, R528: host memory can be reached: the link is up, Bus Master Enable is 1 and the function is in D0. -/
def hostReach (s : State) : Bool := s.hif.linkUp && s.bget Reg.HIF_STATUS 0 && !s.hif.d3

/-- R528: E_LINK for a host address that cannot be reached. -/
def linkStatus (a : Nat) (s : State) : List Status := given' (decide (hostBit ≤ a) && !hostReach s) .link

/-- A source read: the words, how many are poisoned, and the state after the reads. -/
structure Fetch where
  ok : Bool
  words : List Word
  bad : Nat
  st : State
  deriving DecidableEq, Repr

/-- R529: `n` bytes of a command's source, if its rules allow it and the host can be reached. -/
def fetch (a n : Nat) (s : State) : Fetch :=
  if sourceOk s.variant a n && (linkStatus a s).isEmpty then
    let r := fabWords ((n + 3) / 4) a s
    ⟨true, r.1.1, r.1.2, r.2⟩
  else ⟨false, [], 0, s⟩

/-- R529, R528: what a source adds to the statuses: E_RANGE, E_LINK, E_FAULT. -/
def fetchStatus (a n : Nat) (f : Fetch) (s : State) : List Status :=
  given' (!sourceOk s.variant a n) .range ++ linkStatus a s ++ given' (f.ok && f.bad ≠ 0) .fault

/-- R528: a command whose outcome is E_FAULT gives the count of poisoned words. -/
def faultRes (bad : Nat) (r : CRes) : CRes := if r.status = .fault then { r with res := [toW bad] } else r

/-- The words of a string of entries, cut into pieces of `k`; `n` pieces. -/
def chop (k : Nat) : Nat → List Word → List (List Word)
  | 0, _ => []
  | n + 1, ws => ws.take k :: chop k n (ws.drop k)

/-- Words from the front up to the next header. -/
def runLength (items : List QEntry) : Nat := (items.takeWhile (fun e => !isHeader e)).length

/-- R526: discard words up to the next header; a queue that then is empty goes on discarding. -/
def skipWords (q : Nat) (s : State) : State :=
  let n := runLength (s.qView q)
  let more := n = (s.queue q).items.length
  let s := popN n q s
  { s with hif := { s.hif with skipping := if more then insNat s.hif.skipping q else s.hif.skipping.filter (fun k => k != q) } }

/-- R526, R528: a command ends early with E_FORMAT or E_LOST, or with a status in `found` that comes before E_LOST. -/
def endBad (op q : Nat) (tag : Word) (found : List Status) (e : Option QEntry) (s : State) : State :=
  match e with
  | some x =>
    let st := firstStatus (found ++ given' (x.bad || x.gap) .lost ++ given' (!x.bad && !x.gap) .format)
    complete op q tag st (if st = .lost && !x.bad then [toW x.pay.toNat] else []) s
  | none => complete op q tag .format [] s

/-- R528, R529: what a header and the arguments that have arrived already show: an argument count that is wrong for the opcode or a
nonzero must-be-0 bit, or an opcode outside the command set. The count of OBJ_MOVE needs its argument 3. -/
def earlyStatus (op n : Nat) (zero : Bool) (args : List Word) : List Status :=
  match nargsOf op args with
  | none => given' (!zero) .format ++ [.opcode]
  | some k => given' (!zero || !bitsOk op args || (k != n && (op != 0x11 || decide (4 ≤ args.length)))) .format

/-- R526: a header at the front: what its words make of it, if they are no command of R529. -/
def strayHeader (q : Nat) (h : QEntry) (rest : List QEntry) (s : State) : State :=
  let w := h.pay.toNat
  let n := getF w 47 42
  let tag := toW w
  let run := rest.takeWhile isArg
  let zero := getF w 41 32 == 0 && (run.take n).all (fun e => getF e.pay.toNat 55 32 == 0)
  let found := earlyStatus (getF w 55 48) n zero (run.map (fun e => toW e.pay.toNat))
  if n ≤ run.length then
    if zero && (nargsOf (getF w 55 48) []).isSome then s
    else complete (getF w 55 48) q tag (if zero then .opcode else .format) [] (popN (n + 1) q (serve q s))
  else
    let next := (rest.drop run.length).head?
    let s := popN (run.length + 1) q (serve q s)
    match next with
    | none => skipWords q (endBad (getF w 55 48) q tag [] none s)
    | some e => if isHeader e then endBad (getF w 55 48) q tag [] none s else skipWords q (endBad (getF w 55 48) q tag found (some e) s)

/-- R526: words at the front of CMD queue `q` that are no well-formed command. -/
def strayWord (q : Nat) (s : State) : State :=
  if eligible q (frontRoom (s.qView q)) s && inTurn q s then
    if s.hif.skipping.contains q then skipWords q s
    else match s.qView q with
      | [] => s
      | h :: rest =>
        if isHeader h then strayHeader q h rest s
        else if h.bad || h.gap then endBad 0 q 0 [] (some h) (popN 1 q (serve q s))
        else skipWords q (endBad 0 q 0 [] none (serve q s))
  else s

/-- STRAY_QUEUE_WORD (R526). -/
def execStrayQueueWord (q : Nat) (s : State) : Host.Outcome State Fault Refusal := .next (strayWord q s)

end Sys2Proof.Machine
end

