-- ==== Sys2Proof/Machine/SceneCmd.lean ====
section
/-! DEFINITION. The host's scene and output commands (R51 to R82, R92, R95, R100, R149, R166, R183, R466, R529). -/

namespace Sys2Proof.Machine

/-- R56: bits of record words 0 to 5 that a set command writes. -/
def objMask (w : Nat) : Word := if w = 0 then 0xFFE0 else if w = 2 then 0x3FFFF else 0xFFFFFFFF

/-- R54, R55: objects of the partition in force. -/
def objCount (s : State) : Nat := if s.scene.wideN then 2 * capObjs s.variant else capObjs s.variant

/-- R55: what an object number meets. -/
def objIndex (o : Nat) (s : State) : List Status :=
  given' (decide (2 * capObjs s.variant ≤ o)) .absent ++ given' (decide (objCount s ≤ o) && decide (o < 2 * capObjs s.variant)) .state

/-- R69, R70: what a SOURCE meets. -/
def sourceStatus (v : Variant) (w : Nat) : List Status :=
  let k := getF w 31 28
  let low := w % 2 ^ 28
  let ch := low % 128
  match k with
  | 0 => given' (low ≠ 0) .range
  | 1 => given' (low - getF w 25 16 * 2 ^ 16 - getF w 5 0 ≠ 0) .range
  | 2 => given' (low - getF w 20 16 * 2 ^ 16 - getF w 4 0 ≠ 0) .range ++ given' (decide (capTdm v ≤ getF w 20 16)) .absent
  | 3 => given' (low ≠ ch || decide (79 < ch)) .range ++ given' (decide (16 ≤ ch) && decide (ch ≤ 79) && decide (2 * capTdm v ≤ ch - 16)) .absent
  | 4 => given' (low ≠ getF w 21 16 * 2 ^ 16) .range ++ given' (decide (capTiles v ≤ getF w 21 16)) .absent
  | _ => [.range]

/-- R56, R69, R70, R92: what the values of a record meet. -/
def objStatus (v : Variant) (ws : List Word) : List Status :=
  let w (i : Nat) : Nat := (nth 0 ws i).toNat
  given' (getF (w 0) 9 8 = 3 || decide (4 < getF (w 0) 7 5)) .range
    ++ given' (getF (w 3) 31 16 = 0) .range ++ given' (getF (w 4) 31 16 = 0) .range
    ++ given' (!paramOk (getF (w 0) 7 5) (w 5)) .range ++ sourceStatus v (w 1)

/-- R150: a change of partition awaits its epoch. -/
def partPending (s : State) : Bool := s.bget Reg.NIB_PARTITION_SHADOW 0 != s.bget Reg.NIB_PARTITION 0

/-- A coordinate word. -/
def vecAt (args : List Word) (i : Nat) : Vec3 := ⟨(nth 0 args i).toInt, (nth 0 args (i + 1)).toInt, (nth 0 args (i + 2)).toInt⟩

/-- OBJ_SPAWN (R57, R58). -/
def objSpawn (args : List Word) (s : State) : CRes :=
  let o := arg args 0
  let e := epochOf args
  let ws := (List.range 6).map (fun i => nth 0 args (3 + i) &&& objMask i)
  let found := objIndex o s ++ objStatus s.variant ws ++ given' ((s.obj o).st != .free || partPending s) .state ++ epochStatus e s
  judge found s (fun s =>
    let r := stage e [.spawn o ws] [] s
    r.2.spawnObj o { Obj.reset with st := .armed, words := ws, armBN := e, armCid := r.1, hold := vecAt args 12 })

/-- Values of an OBJ_SET laid over a record. -/
def layOver (sets : List (Nat × Word)) (ws : List Word) : List Word := sets.foldl (fun l p => upd l p.1 p.2) ws

/-- Insert a commit behind those of the same or an earlier target. -/
def insCommit (c : Commit) : List Commit → List Commit
  | [] => [c]
  | d :: ds => if c.target < d.target then c :: d :: ds else d :: insCommit c ds

/-- R197: pending commits in the order in which they apply. -/
def applyOrder (cs : List Commit) : List Commit := cs.foldl (fun l c => insCommit c l) []

/-- The record of object `o` with the values of a list of items laid over it. -/
def layItems (o : Nat) (is : List Item) (ws : List Word) : List Word :=
  is.foldl (fun ws i => match i with
    | .objSet p sets => if p = o then layOver sets ws else ws
    | _ => ws) ws

/-- R39: what commits that have applied still hold for the Ruling engine. -/
def appliedItems (s : State) : List Item := (s.sched.takes.filter (fun k => k.stage == 1)).map (fun k => k.item)

/-- R53, R92: the record of object `o` with every OBJ_SET whose commit has applied. -/
def appliedWords (o : Nat) (s : State) : List Word := layItems o (appliedItems s) (s.obj o).words

/-- R92: the record that object `o` will have at epoch `e`; values that have applied and are not taken yet count as live (DESIGN
CHOICE, log entry 146). -/
def recordAt (o e : Nat) (s : State) : List Word :=
  ((applyOrder s.sched.commits).filter (fun c => decide (c.target ≤ e))).foldl (fun ws c => layItems o c.items ws) (appliedWords o s)

/-- The (word, value) pairs that an OBJ_SET writes; fields the module maintains are ignored. -/
def setPairs (args : List Word) : List (Nat × Word) :=
  let ws := (List.range 16).filter (fun b => bitOf (arg args 3) b)
  (((List.range ws.length).zip ws).filter (fun iw => decide (iw.2 < 6))).map (fun iw => (iw.2, nth 0 args (4 + iw.1) &&& objMask iw.2))

/-- OBJ_SET (R58, R92). Every OBJ_SET is judged, also one that writes neither LAW nor LAW_PARAM (DESIGN CHOICE, log entry 148). -/
def objSetCmd (args : List Word) (s : State) : CRes :=
  let o := arg args 0
  let e := epochOf args
  let sets := setPairs args
  let found := objIndex o s ++ given' ((s.obj o).st != .armed && (s.obj o).st != .live) .state
    ++ objStatus s.variant (layOver sets (recordAt o e s)) ++ epochStatus e s
  judge found s (fun s => (stage e [.objSet o sets] [] s).2)

/-- OBJ_RELEASE (R57, R58). -/
def objRelease (args : List Word) (s : State) : CRes :=
  let o := arg args 0
  judge (objIndex o s ++ given' ((s.obj o).st != .live) .state ++ epochStatus (epochOf args) s) s
    (fun s => (stage (epochOf args) [.release o] [] s).2)

/-- R56: the code of STATE. -/
def ObjSt.code : ObjSt → Nat
  | .free => 0 | .armed => 1 | .live => 2 | .releasing => 3

/-- R56: the sixteen words of a record. -/
def objRecord (x : Obj) : List Word :=
  upd x.words 0 (nth 0 x.words 0 ||| toW x.st.code)
    ++ [toW x.armBN, toW (x.armBN / 2 ^ 32), toW (x.segs.length * 4 + x.segHead), intW x.hold.x, intW x.hold.y, intW x.hold.z, 0, 0, 0, 0]

/-- A GET command: results with OK. -/
def getRes (found : List Status) (ws : List Word) (s : State) : CRes :=
  if firstStatus found = .ok then ⟨.ok, ws, s, false⟩ else .done (firstStatus found) s

/-- R53: the object as OBJ_GET shows it: the fields the module maintains as at the last boundary or the spawn, and the fields
that set commands write as they are live, TAPS among them as the tile has it; those of an ARMED object with every OBJ_SET whose
commit has applied. -/
def objShown (o : Nat) (s : State) : Obj :=
  let x := s.obj o
  let ws := if x.st = .armed then appliedWords o s
    else if x.st = .free then x.words
    else upd x.words 0 ((nth 0 x.words 0 &&& 0xFFFFFCFF) ||| toW (Tab.get (fun _ => 1) s.scene.tapsN o * 256))
  { Tab.get (fun _ => Obj.reset) s.scene.seen o with words := ws }

/-- OBJ_GET (R53). -/
def objGet (args : List Word) (s : State) : CRes := getRes (objIndex (arg args 0) s) (objRecord (objShown (arg args 0) s)) s

/-- R61: the segment of a TRAJ_PUSH. -/
def segOf (args : List Word) : Seg := ⟨vecAt args 1, vecAt args 4, vecAt args 7, vecAt args 10, addrOf args 13, addrOf args 15⟩

/-- R62: the queue that a push meets: as this interval's evaluation leaves it, with the commands that wait for the boundary. -/
def segsSeen (o : Nat) (s : State) : List Seg :=
  let x := s.obj o
  let base := match x.after with
    | some a => a.2.1
    | none => x.segs
  s.scene.trajOps.foldl (fun l t => if t.obj = o then (match t.seg with | some g => l ++ [g] | none => []) else l) base

/-- A trajectory command waits for the next boundary (R64). -/
def addTraj (o : Nat) (g : Option Seg) (s : State) : State :=
  { s with scene := { s.scene with trajOps := s.scene.trajOps ++ [⟨o, g⟩] } }

/-- TRAJ_PUSH (R61, R62). -/
def trajPush (args : List Word) (s : State) : CRes :=
  let o := arg args 0
  let g := segOf args
  let q := segsSeen o s
  let early := match q.getLast? with
    | some l => decide (g.tStart < l.tEnd)
    | none => false
  judge (objIndex o s ++ given' (!(decide (g.tStart + 1 ≤ g.tEnd) && decide (g.tEnd < g.tStart + 2 ^ 40))) .range ++ given' early .range
    ++ given' ((s.obj o).st == .free || decide (4 ≤ q.length)) .state) s (addTraj o (some g))

/-- TRAJ_FLUSH (R63). -/
def trajFlush (args : List Word) (s : State) : CRes :=
  let o := arg args 0
  judge (objIndex o s ++ given' ((s.obj o).st == .free) .state) s (addTraj o none)

/-- R74: bits of a speaker record's words. -/
def spkMask (w : Nat) : Word :=
  if w = 4 then 0x80FF3F3F else if w = 5 || w = 6 then 0x3FFFF else if w = 7 then 0 else 0xFFFFFFFF

/-- R166: an output's RCC_PROFILE in a speaker record names a slot. -/
def namesSlot (p : Nat) (x : Spk) : Bool := x.field 4 23 16 == p

/-- R166: any output's live or shadow RCC_PROFILE names the slot. -/
def slotNamed (p : Nat) (s : State) : Bool :=
  let item (i : Item) : Bool := match i with
    | .spk _ ws => namesSlot p ⟨ws⟩
    | _ => false
  (List.range (capOuts s.variant)).any (fun n => namesSlot p (s.spkO n) || namesSlot p (s.spkR n))
    || s.sched.commits.any (fun c => c.items.any item) || s.sched.takes.any (fun k => item k.item)

/-- SPK_SET (R74, R75, R166). -/
def spkSet (args : List Word) (s : State) : CRes :=
  let n := arg args 0
  let ws := (List.range 8).map (fun i => nth 0 args (3 + i) &&& spkMask i)
  let x : Spk := ⟨ws⟩
  judge (given' (decide (capOuts s.variant ≤ n)) .absent ++ given' (decide (196608 < x.field 5 17 0)) .range
    ++ given' ((s.slotSt (x.field 4 23 16)).st == 1) .state ++ epochStatus (epochOf args) s) s
    (fun s => (stage (epochOf args) [.spk n ws] [] s).2)

/-- R53, R75: the live speaker record: each field as the unit that uses it has it. -/
def spkRecord (n : Nat) (s : State) : List Word :=
  let r := s.spkR n
  let o := s.spkO n
  [nth 0 r.words 0, nth 0 r.words 1, nth 0 r.words 2, nth 0 r.words 3,
   (nth 0 r.words 4 &&& 0x8000003F) ||| (nth 0 o.words 4 &&& 0x00FF3F00), nth 0 o.words 5, nth 0 o.words 6, 0]

/-- SPK_GET (R53). -/
def spkGet (args : List Word) (s : State) : CRes :=
  getRes (given' (decide (capOuts s.variant ≤ arg args 0)) .absent) (spkRecord (arg args 0) s) s

/-- ZONE_SET (R78); word 2 is ignored. -/
def zoneSet (args : List Word) (s : State) : CRes :=
  let n := arg args 0
  let t := sgn 16 (arg args 3)
  judge (given' (decide (63 < n)) .range ++ given' (decide (t < -10240) || decide (15360 < t)) .range ++ given' (arg args 4 = 0) .range
    ++ epochStatus (epochOf args) s) s (fun s => (stage (epochOf args) [.zone n [nth 0 args 3 &&& 0xFFFF, nth 0 args 4]] [] s).2)

/-- ZONE_GET (R53). -/
def zoneGet (args : List Word) (s : State) : CRes :=
  let z := s.zone (arg args 0)
  getRes (given' (decide (63 < arg args 0)) .range) [toW (uns 16 z.temp), toW z.dRef, toW z.spm, 0] s

/-- The bits of 32 words, word 0 lowest. -/
def maskBits (ws : List Word) : BitVec 1024 := BitVec.ofNat 1024 (leNat (wordBytes ws))

/-- MASK_SET (R100). -/
def maskSetCmd (args : List Word) (s : State) : CRes :=
  let n := arg args 0
  judge (given' (decide (63 < n)) .range ++ epochStatus (epochOf args) s) s
    (fun s => (stage (epochOf args) [.maskSet n (maskBits ((args.drop 3).take 32))] [] s).2)

/-- R95: the speakers of a triplet entry that the variant lacks. -/
def vbapAbsent (v : Variant) (e : List Word) : Bool :=
  let w := (nth 0 e 0).toNat
  decide (capOuts v ≤ getF w 9 0) || decide (capOuts v ≤ getF w 19 10) || decide (capOuts v ≤ getF w 29 20)

/-- A command that stages COUNT entries of `k` words each, read from its source, from a first entry on (R95, R183). -/
def tableSet (k size : Nat) (bad : Variant → List Word → List Status) (item : Nat → List Word → Item) (args : List Word) (s : State) : CRes :=
  let first := arg args 0
  let n := arg args 3
  let a := addrOf args 4
  let form := given' (decide (size ≤ first) || n = 0 || decide (64 < n) || decide (size < first + n)) .range
  if n = 0 || 64 < n then judge form s (fun s => s)
  else
    let f := fetch a (4 * k * n) s
    let es := chop k n f.words
    let found := form ++ fetchStatus a (4 * k * n) f s ++ epochStatus (epochOf args) s
      ++ (if f.ok then es.flatMap (bad s.variant) else [])
    faultRes f.bad (judge found f.st (fun s => (stage (epochOf args) (((List.range n).zip es).map (fun ie => item (first + ie.1) ie.2)) [] s).2))

/-- VBAP_SET (R5, R95). -/
def vbapSet (args : List Word) (s : State) : CRes :=
  tableSet 12 2048 (fun v e => given' (vbapAbsent v e) .absent) (fun i e => .vbap i (e.take 10 ++ [0, 0])) args s

/-- PARTITION_SET (R81, R149, R150). -/
def partitionSet (args : List Word) (s : State) : CRes :=
  let w := arg args 3 = 1
  judge (given' (s.scene.objs.any (fun p => p.2.st != .free)) .state ++ epochStatus (epochOf args) s) s
    (fun s => (stage (epochOf args) [.partition w] [Reg.NIB_PARTITION] (s.bset Reg.NIB_PARTITION_SHADOW 0 w)).2)

/-- R183: a routing entry's fields, which are judged whatever its KIND: the rule exempts no unused entry. -/
def routeStatus (v : Variant) (e : List Word) : List Status :=
  let x := (nth 0 e 0).toNat + (nth 0 e 1).toNat * 2 ^ 32
  let kind := getF x 63 62
  let dest := getF x 61 52
  let first := getF x 51 46
  let n := getF x 45 39
  let out := getF x 38 29
  let lim := if kind = 2 then 32 else 64
  given' (kind = 3 || n = 0 || decide (64 < n) || decide (lim < first + n) || getF x 28 0 ≠ 0 || (kind = 2 && decide (31 < dest))) .range
    ++ given' (kind = 2 && decide (dest ≤ 31) && decide (capTdm v ≤ dest)) .absent
    ++ given' (decide (capOuts v < out + n)) .absent

/-- ROUTE_SET (R5, R183). -/
def routeSet (args : List Word) (s : State) : CRes :=
  tableSet 2 1024 routeStatus (fun i e => .route i (BitVec.ofNat 64 ((nth 0 e 0).toNat + (nth 0 e 1).toNat * 2 ^ 32))) args s

/-- CLOCK_SET (R487). -/
def clockSet (args : List Word) (s : State) : CRes :=
  judge (epochStatus (epochOf args) s) s (fun s =>
    (stage (epochOf args) [.reg Reg.PWR_CLK 1 (arg args 3)] [Reg.PWR_CLK] (s.wr (shadowOf Reg.PWR_CLK) (arg args 3))).2)

/-- TWIN_HANDOVER (R466). -/
def twinHandover (args : List Word) (s : State) : CRes :=
  judge (given' (!hasTwin s) .absent ++ given' (!(transmits s && peerStands s)) .state ++ epochStatus (epochOf args) s) s
    (fun s => (stage (epochOf args) [.handover] [] s).2)

/-- R165: PARTS, RATE and the rest of a profile image's first word. -/
def imgParts (w : Word) : Nat := getF w.toNat 8 0

/-- R166: the length of an image. -/
def imgLen (is48 : Bool) (parts : Nat) : Nat := 64 + 64 * ((parts + 63) / 64) + 4 * parts * binsK is48

/-- R165: fields of the first 64 bytes that are out of range, in words that are not poisoned. -/
def imgHeadBad (s : State) (ws : List (Word × Bool)) : Bool :=
  let w0 := (nth (0, true) ws 0)
  let w := w0.1.toNat
  (!w0.2 && (getF w 31 18 ≠ 0 || getF w 17 16 ≠ b2n s.is48 || getF w 15 9 ≠ 0 || getF w 8 0 = 0 || decide (partsMax s.is48 < getF w 8 0)))
    || (ws.drop 1).any (fun p => !p.2 && p.1 != 0)

/-- R165: an EXP byte of an unpoisoned word is out of range. -/
def imgExpBad (parts : Nat) (ws : List (Word × Bool)) : Bool :=
  (List.range parts).any (fun q =>
    let p := nth (0, true) ws (q / 4)
    let e := sgn 8 (p.1.toNat / 2 ^ (8 * (q % 4)))
    !p.2 && (decide (e < -24) || decide (6 < e)))

/-- DRAM words with their poison, one by one. -/
def readMarked : Nat → Nat → State → List (Word × Bool) × State
  | 0, _, s => ([], s)
  | n + 1, a, s => let r := fabReadBy 2 a s; let t := readMarked n (a + 4) r.2; (r.1 :: t.1, t.2)

/-- RCC_LOAD (R166). -/
def rccLoad (q : Nat) (tag : Word) (args : List Word) (s : State) : CRes :=
  let p := arg args 0
  let a := addrOf args 1
  let base := given' (decide (capRcc s.variant = 0)) .absent ++ given' (decide (255 < p)) .range
  if a % 64 ≠ 0 || !spanDram s.variant a 64 || firstStatus base ≠ .ok then judge (base ++ given' (a % 64 ≠ 0 || !spanDram s.variant a 64) .range) s (fun s => s)
  else
    let h := readMarked 16 a s
    let w0 := nth (0, true) h.1 0
    let parts := if w0.2 then partsMax s.is48 else imgParts w0.1
    if !spanDram s.variant a (imgLen s.is48 parts) || imgHeadBad s h.1 then .done .range h.2
    else
      let x := readMarked ((parts + 3) / 4) (a + 64) h.2
      let bad := ((h.1 ++ x.1).filter (fun p => p.2)).length
      let r := judge (given' (imgExpBad parts x.1) .range ++ given' (slotNamed p s || (s.slotSt p).st == 1) .state ++ given' (bad ≠ 0) .fault) x.2
        (fun s =>
          let s := setSlot p ⟨1, parts, s.is48⟩ s
          hold 0x21 q tag p { s with out := { s.out with loads := s.out.loads ++ [⟨p, a, q, tag⟩] } })
      { faultRes bad r with later := r.status = .ok }

/-- RCC_CLEAR (R166). -/
def rccClear (args : List Word) (s : State) : CRes :=
  let p := arg args 0
  judge (given' (decide (capRcc s.variant = 0)) .absent ++ given' (decide (255 < p)) .range
    ++ given' (slotNamed p s || (s.slotSt p).st == 1) .state) s (setSlot p RccSlot.reset)

/-- R590: the word of a slot, from the image at `a`: EXP bytes, then bins; partitions from PARTS on are 0. -/
def slotWordOf (a parts i : Nat) (s : State) : (Word × Bool) × State :=
  let pm := partsMax s.is48
  if i < pm / 4 then
    if parts ≤ 4 * i then ((0, false), s)
    else
      let r := fabReadBy 2 (a + 64 + 4 * i) s
      ((toW (r.1.1.toNat % 2 ^ (8 * Nat.min 4 (parts - 4 * i))), r.1.2), r.2)
  else
    let b := i - pm / 4
    if b < parts * binsK s.is48 then fabReadBy 2 (a + 64 + 64 * ((parts + 63) / 64) + 4 * b) s else ((0, false), s)

/-- R166, R590: the loader writes every word of the slot. -/
def copySlot (p a parts : Nat) (s : State) : State :=
  (List.range (slotSize s.is48 / 4)).foldl (fun s i =>
    let r := slotWordOf a parts i s
    storeWord (rccBase + p * slotSize r.2.is48 + 4 * i) r.1.1 r.1.2 r.2) s

/-- R166: the oldest accepted load has been copied; its slot is LOADED and its command completes. A copy that ends after
GLB_RENDER_CFG has changed Fs lays the image out by the new Fs, while the slot keeps the rate it was accepted for (R166 is silent;
DESIGN CHOICE, log entry 183). -/
def loadDone (p : Nat) (s : State) : State :=
  match s.out.loads with
  | [] => s
  | l :: ls =>
    if l.slot = p then
      let x := s.slotSt p
      let s := copySlot p l.src x.parts { s with out := { s.out with loads := ls } }
      let s := (setSlot p { x with st := 2 } s).count Reg.RCC_LOAD_CNT 1
      match s.hif.waitingCmds.find? (fun w => w.opcode == 0x21 && w.q == l.q && w.tag == l.tag) with
      | some w => release w .ok [] s
      | none => s
    else s

/-- OBJ_SPAWN. -/
def execObjSpawn (q : Nat) (tag : Word) (args : List Word) (s : State) : Host.Outcome State Fault Refusal :=
  .next (runCommand 0x10 q tag args (objSpawn args) s)

/-- OBJ_SET. -/
def execObjSet (q : Nat) (tag : Word) (args : List Word) (s : State) : Host.Outcome State Fault Refusal :=
  .next (runCommand 0x11 q tag args (objSetCmd args) s)

/-- OBJ_RELEASE. -/
def execObjRelease (q : Nat) (tag : Word) (args : List Word) (s : State) : Host.Outcome State Fault Refusal :=
  .next (runCommand 0x12 q tag args (objRelease args) s)

/-- OBJ_GET. -/
def execObjGet (q : Nat) (tag : Word) (args : List Word) (s : State) : Host.Outcome State Fault Refusal :=
  .next (runCommand 0x13 q tag args (objGet args) s)

/-- TRAJ_PUSH. -/
def execTrajPush (q : Nat) (tag : Word) (args : List Word) (s : State) : Host.Outcome State Fault Refusal :=
  .next (runCommand 0x14 q tag args (trajPush args) s)

/-- TRAJ_FLUSH. -/
def execTrajFlush (q : Nat) (tag : Word) (args : List Word) (s : State) : Host.Outcome State Fault Refusal :=
  .next (runCommand 0x15 q tag args (trajFlush args) s)

/-- SPK_SET. -/
def execSpkSet (q : Nat) (tag : Word) (args : List Word) (s : State) : Host.Outcome State Fault Refusal :=
  .next (runCommand 0x18 q tag args (spkSet args) s)

/-- SPK_GET. -/
def execSpkGet (q : Nat) (tag : Word) (args : List Word) (s : State) : Host.Outcome State Fault Refusal :=
  .next (runCommand 0x19 q tag args (spkGet args) s)

/-- ZONE_SET. -/
def execZoneSet (q : Nat) (tag : Word) (args : List Word) (s : State) : Host.Outcome State Fault Refusal :=
  .next (runCommand 0x1A q tag args (zoneSet args) s)

/-- ZONE_GET. -/
def execZoneGet (q : Nat) (tag : Word) (args : List Word) (s : State) : Host.Outcome State Fault Refusal :=
  .next (runCommand 0x1B q tag args (zoneGet args) s)

/-- MASK_SET. -/
def execMaskSet (q : Nat) (tag : Word) (args : List Word) (s : State) : Host.Outcome State Fault Refusal :=
  .next (runCommand 0x1C q tag args (maskSetCmd args) s)

/-- VBAP_SET. -/
def execVbapSet (q : Nat) (tag : Word) (args : List Word) (s : State) : Host.Outcome State Fault Refusal :=
  .next (runCommand 0x1D q tag args (vbapSet args) s)

/-- PARTITION_SET. -/
def execPartitionSet (q : Nat) (tag : Word) (args : List Word) (s : State) : Host.Outcome State Fault Refusal :=
  .next (runCommand 0x1E q tag args (partitionSet args) s)

/-- ROUTE_SET. -/
def execRouteSet (q : Nat) (tag : Word) (args : List Word) (s : State) : Host.Outcome State Fault Refusal :=
  .next (runCommand 0x20 q tag args (routeSet args) s)

/-- CLOCK_SET. -/
def execClockSet (q : Nat) (tag : Word) (args : List Word) (s : State) : Host.Outcome State Fault Refusal :=
  .next (runCommand 0x04 q tag args (clockSet args) s)

/-- RCC_LOAD. -/
def execRccLoad (q : Nat) (tag : Word) (args : List Word) (s : State) : Host.Outcome State Fault Refusal :=
  .next (runCommand 0x21 q tag args (rccLoad q tag args) s)

/-- RCC_LOAD_COMPLETE (R166). -/
def execRccLoadComplete (slot : Nat) (s : State) : Host.Outcome State Fault Refusal := .next (loadDone slot s)

/-- RCC_CLEAR. -/
def execRccClear (q : Nat) (tag : Word) (args : List Word) (s : State) : Host.Outcome State Fault Refusal :=
  .next (runCommand 0x22 q tag args (rccClear args) s)

/-- TWIN_HANDOVER. -/
def execTwinHandover (q : Nat) (tag : Word) (args : List Word) (s : State) : Host.Outcome State Fault Refusal :=
  .next (runCommand 0x24 q tag args (twinHandover args) s)

end Sys2Proof.Machine
end

