-- ==== Sys2Proof/Machine/HostIf.lean ====
section
/-! DEFINITION. The host interface (R518 to R541, R547): the remaining host commands, ABORT, DMA, MRAM, Folios, the PCIe link,
boot and MSI-X. -/

namespace Sys2Proof.Machine

/-- Change the host interface. -/
def State.hi (s : State) (f : Hif → Hif) : State := { s with hif := f s.hif }

/-- R79: a zone's SPM at the render rate. -/
def spmAll (s : State) : State :=
  { s with scene := { s.scene with zones := (List.range 64).foldl (fun z n =>
      let x := Tab.get (fun _ => Zone.reset) z n
      Tab.put (fun _ => Zone.reset) z n { x with spm := Fx.spm s.fs x.temp }) s.scene.zones } }

/-- R530: the render rate and block length. -/
def setRate (fs : Nat) (s : State) : State :=
  spmAll ((s.fset Reg.GLB_RENDER_CFG 0 0 fs).fset Reg.GLB_RENDER_CFG 13 8 (if fs = 0 then 32 else 16))

/-- RENDER_CFG (R530). -/
def renderCfg (args : List Word) (s : State) : CRes :=
  judge (given' (s.sched.rendering || s.mediaRun) .state) s (setRate (arg args 0))

/-- R531: render can start. -/
def canStart (s : State) : Bool :=
  !s.sched.rendering && s.sched.startAt.isNone && s.sched.quietAt.isNone && pwrState s == 0 && s.hif.stage == 7
    && s.bget Reg.CLK_MEDIA_STATUS 31
    && (List.range 2).all (fun c => !present s.variant (Reg.DDR_CTL c) || (decide (2 ≤ ddrState s c) && decide (ddrState s c ≤ 4)))

/-- RENDER_START (R531). -/
def renderStart (_args : List Word) (s : State) : CRes :=
  if canStart s then
    ⟨.ok, [toW (s.bn + 2), toW ((s.bn + 2) / 2 ^ 32)], { s with sched := { s.sched with startAt := some (s.bn + 2) } }, false⟩
  else .done .state s

/-- POWER_REQ (R531, R482). -/
def powerCmd (args : List Word) (s : State) : CRes :=
  let r := arg args 0
  if r = 0 || 3 < r then .done .range s
  else if reqRefused r s then .done .state (powerReq r s)
  else .done .ok (powerReq r s)

/-- R532: the unit codes. -/
def abortCode (u : Nat) : Bool :=
  decide (u < 0x40) || (decide (0x100 ≤ u) && decide (u ≤ 0x110)) || (decide (0x200 ≤ u) && decide (u < 0x220)) || u == 0x300

/-- R532: the unit is present. -/
def abortPresent (v : Variant) (u : Nat) : Bool :=
  if u < 0x40 then decide (u < capTiles v) else if u < 0x110 then decide (u - 0x100 < capMedia v)
  else if 0x200 ≤ u && u < 0x220 then decide (u - 0x200 < capTdm v) else true

/-- R533: a port that is not enabled, or a unit that is already HALTED. -/
def abortIdle (u : Nat) (s : State) : Bool :=
  if u < 0x40 then (s.core u).st == .halted
  else if u ≤ 0x110 then !s.bget (netReg (u - 0x100) 0) 0 || (s.netSt (u - 0x100)).halted
  else if u < 0x300 then !tdmOn s (u - 0x200) || tdmState s (u - 0x200) == 3
  else s.hif.dma.isEmpty

/-- R533: an ABORT begins. -/
def beginAbort (u : Nat) (s : State) : State := s.hi (fun h => { h with aborting := insNat h.aborting u, abortBusy := true })

/-- ABORT (R532, R533). -/
def abortCmd (q : Nat) (tag : Word) (args : List Word) (s : State) : CRes :=
  let u := arg args 0
  let st := firstStatus (given' (!abortCode u) .range ++ given' (abortCode u && !abortPresent s.variant u) .absent)
  if st ≠ .ok then .done st s
  else if abortIdle u s then .done .ok s
  else ⟨.ok, [], hold 0x05 q tag u (beginAbort u s), true⟩

/-- R532, R533: a write of HIF_ABORT. -/
def abortWrite (v : Word) (s : State) : State :=
  if s.served Reg.HIF_ABORT then
    let u := v.toNat % 4096
    if s.hif.abortBusy then s.count Reg.HIF_BAD_ACCESS_CNT 1
    else if !abortCode u || !abortPresent s.variant u then
      (s.count Reg.HIF_BAD_ACCESS_CNT 1).wr Reg.HIF_BAD_ACCESS_LAST (2 ^ 31 + Reg.HIF_ABORT)
    else if abortIdle u s then s
    else beginAbort u s
  else s

/-- R534: the channel of a queue. -/
def dmaChannel (q : Nat) : Nat := q % 4

/-- R534: the first transfer of a channel. -/
def dmaFront (c : Nat) (s : State) : Option Dma := (s.hif.dma.find? (fun p => p.1 == c)).map (fun p => p.2)

/-- R261, R534: `n` words move, in ascending order; poison moves with them and is counted. `own` gives what the owner of a bank does
to a word in the cycle of its write. -/
def dmaMove (own : List (Nat × PortOp)) : Nat → Nat → Nat → Nat → State → Nat × State
  | 0, _, _, bad, s => (bad, s)
  | n + 1, a, b, bad, s =>
    let r := fabReadBy 4 a s
    dmaMove own n (a + 4) (b + 4) (bad + b2n r.1.2) (withOwner b ((Tab.find own b).getD .idle) (fabWriteBy 4 b r.1.1 r.1.2) r.2)

/-- R534: a transfer ends, with its completion. -/
def dmaEnd (c : Nat) (d : Dma) (x : Status) (res : List Word) (s : State) : State :=
  let s := s.hi (fun h => { h with dma := h.dma.filter (fun p => p != (c, d)) })
  match s.hif.waitingCmds.find? (fun w => w.opcode == 0x09 && w.q == d.q && w.tag == d.tag) with
  | some w => release w x res s
  | none => s

/-- R534: a channel's transfer writes its last byte. -/
def dmaDone (c : Nat) (own : List (Nat × PortOp)) (s : State) : State :=
  match dmaFront c s with
  | none => s
  | some d =>
    let r := dmaMove own (d.len / 4) d.src d.dst 0 s
    dmaEnd c d (if r.1 = 0 then .ok else .fault) (if r.1 = 0 then [] else [toW r.1]) r.2

/-- R534: a transfer that is cut off has moved a number of bytes that the model draws, in pieces of `unit` bytes, and no fewer than
HIF_DMA_STATUS has shown (R542). -/
def dmaCut (unit : Nat) (x : Status) (s : State) (cd : Nat × Dma) : State :=
  let w := s.freeW
  let lo := (cd.2.len - 4 * cd.2.left) / unit
  let n := Nat.min cd.2.len (unit * (lo + w.1.toNat % (cd.2.len / unit - lo + 2)))
  let r := dmaMove [] (n / 4) cd.2.src cd.2.dst 0 w.2
  dmaEnd cd.1 cd.2 x [toW n] r.2

/-- R534: a DMA ABORT ends every transfer at a 64-byte boundary. -/
def dmaAbort (s : State) : State :=
  s.hif.dma.foldl (fun s cd => dmaCut 64 .aborted (s.bset (Reg.HIF_DMA_STATUS cd.1) 30 true) cd) s

/-- R532: the unit is stopped. -/
def abortNow (u : Nat) (s : State) : State :=
  if u < 0x40 then coreAbort u s else if u ≤ 0x110 then netAbort (u - 0x100) s
  else if u < 0x300 then tdmAbort (u - 0x200) s else dmaAbort s

/-- R533: the unit is HALTED; BUSY clears and the commands that waited for it complete. -/
def abortDone (u : Nat) (s : State) : State :=
  if s.hif.aborting.contains u then
    let s := (abortNow u s).hi (fun h => { h with aborting := h.aborting.filter (fun x => x != u) })
    let s := s.hi (fun h => { h with abortBusy := !h.aborting.isEmpty })
    (s.hif.waitingCmds.filter (fun w => w.opcode == 0x05 && w.arg == u)).foldl (fun s w => release w .ok [] s) s
  else s

/-- R534, R569: a destination lies in usable DRAM, in mapped on-die rows other than the program-memory alias, or in host memory. -/
def destOk (v : Variant) (a n : Nat) : Bool :=
  spanDram v a n || inSpan a n 0x100000000 0x103C00000 || inSpan a n 0x104000000 0x106800000 || inSpan a n 0x107000000 0x107200000
    || inSpan a n 0x107800000 0x107E00000 || spanHost a n

/-- DMA_COPY (R534). -/
def dmaCopy (q : Nat) (tag : Word) (args : List Word) (s : State) : CRes :=
  let src := addrOf args 0
  let dst := addrOf args 2
  let n := arg args 4
  let c := dmaChannel q
  let bad := n % 4 ≠ 0 || n < 4 || 16777216 < n || dst % 4 ≠ 0 || !sourceOk s.variant src n || !destOk s.variant dst n
  let st := firstStatus (given' bad .range ++ linkStatus src s ++ linkStatus dst s)
  if st = .link then ⟨.link, [0], s, false⟩
  else if st ≠ .ok then .done st s
  else ⟨.ok, [], hold 0x09 q tag c ((s.bset (Reg.HIF_DMA_STATUS c) 30 false).hi (fun h => { h with dma := h.dma ++ [(c, ⟨q, tag, src, dst, n, n / 4⟩)] })), true⟩

/-- HIF_BOOT.BANK: the running bank. -/
def runBank (s : State) : Nat := s.fget Reg.HIF_BOOT 25 24

/-- R535: the first MRAM byte of image bank `b`. -/
def imageBank (b : Nat) : Nat := 0x10000 + b * 0x1F00000

/-- R535: a range of MRAM lies in image bank `b`. -/
def inImage (b a n : Nat) : Bool := decide (imageBank b ≤ a) && decide (a + n ≤ imageBank b + 0x1F00000)

/-- R537: a range touches image bank `b`. -/
def touchesImage (b a n : Nat) : Bool := decide (a < imageBank b + 0x1F00000) && decide (imageBank b < a + n)

/-- The bytes of MRAM from an offset on. -/
def mramGet (off n : Nat) (s : State) : List Byte := (List.range n).map (fun i => s.mem.rdByte (0x400000000 + off + i))

/-- MRAM_WRITE (R537). -/
def mramWrite (args : List Word) (s : State) : CRes :=
  let off := arg args 0
  let a := addrOf args 1
  let n := arg args 3
  let f := fetch a n s
  let run := decide (runBank s < 2) && touchesImage (runBank s) off n
  let out := off < imageBank 0 || imageBank 2 < off + n
  faultRes f.bad (judge (given' out .range ++ given' run .state ++ fetchStatus a n f s) f.st (mramBytes off ((wordBytes f.words).take n)))

/-- R536: a directory copy is valid. -/
def dirValid (d : List Byte) : Bool := folioField d 0 4 == 0x44495231 && folioField d 32764 4 == crc32c (d.take 32764)

/-- R536: Folio `n` of a directory: MRAM offset, length, TYPE, and the word that is 0. -/
def dirFolio (d : List Byte) (n : Nat) : Nat × Nat × Nat × Nat :=
  (folioField d (16 + 16 * n) 4, folioField d (20 + 16 * n) 4, folioField d (24 + 16 * n) 4, folioField d (28 + 16 * n) 4)

/-- R536: the fields of a directory image. -/
def dirOk (d : List Byte) : Bool :=
  let b := folioField d 8 4
  let n := folioField d 12 4
  folioField d 0 4 == 0x44495231 && decide (b < 2) && decide (1 ≤ n) && decide (n ≤ 2046) && (dirFolio d 0).2.2.1 == 1
    && (List.range n).all (fun i => inImage b (dirFolio d i).1 (dirFolio d i).2.1 && (dirFolio d i).2.2.2 == 0)

/-- R535: a directory copy as MRAM holds it. -/
def dirCopy (k : Nat) (s : State) : List Byte := mramGet (k * 32768) 32768 s

/-- R537: the failure code of Folio 0 in steps 1 to 4 of R501. -/
def bootFolioCode (x : SecSt) (f : List Byte) : Nat :=
  if !folioFormat f then 1 else if !folioKey x f then 2 else if !folioSig f then 3 else if !folioRoll x f then 4 else 0

/-- R537: the generation of a new directory, and the copy it overwrites. -/
def dirPlace (s : State) : Nat × Nat :=
  let a := dirCopy 0 s
  let b := dirCopy 1 s
  let ga := if dirValid a then folioField a 4 4 else 0
  let gb := if dirValid b then folioField b 4 4 else 0
  ((Nat.max ga gb + 1) % 2 ^ 32, if !dirValid a then 0 else if !dirValid b || gb ≤ ga then 1 else 0)

/-- R537: the image is written with its new generation and CRC. -/
def dirWrite (d : List Byte) (s : State) : State :=
  let p := dirPlace s
  let body := d.take 4 ++ leBytes 4 p.1 ++ slice d 8 32756
  mramBytes (p.2 * 32768) (body ++ leBytes 4 (crc32c body)) s

/-- MRAM_COMMIT (R537). -/
def mramCommit (args : List Word) (s : State) : CRes :=
  let a := addrOf args 0
  let f := fetch a 32768 s
  let d := wordBytes f.words
  let src := fetchStatus a 32768 f s
  if !f.ok then .done (firstStatus src) s
  else
    let f0 := mramGet (dirFolio d 0).1 (dirFolio d 0).2.1 f.st
    let code := if dirOk d then bootFolioCode s.sec f0 else 0
    let st := firstStatus (given' (!dirOk d) .range ++ given' (folioField d 8 4 == runBank s) .state ++ given' (code ≠ 0) .auth ++ src)
    match st with
    | .ok => ⟨.ok, [toW (dirPlace f.st).1], dirWrite d f.st, false⟩
    | .auth => ⟨.auth, [toW code], noteFolioFail code f0 f.st, false⟩
    | .fault => ⟨.fault, [toW f.bad], f.st, false⟩
    | x => .done x f.st

/-- R538: the state rules of a Folio: TYPE 1 is the boot ROM's, and a core that is loaded must not be RUNNING. -/
def folioBarred (h : List Byte) (s : State) : Bool :=
  folioType h == 1 || (folioType h == 3 && (match pmTarget s.variant (folioLoadAddr h) with
    | some (k, _) => (s.core k).st == .running
    | none => false))

/-- R4, R538: a well-formed TYPE 3 Folio is for the program memory of a core that the variant lacks. -/
def folioAbsent (v : Variant) (h : List Byte) : Bool :=
  let a := folioLoadAddr h
  folioFormat h && folioType h == 3 && decide (0x108000000 ≤ a) && decide (a < 0x108200000) && decide (capTiles v ≤ (a - 0x108000000) / 0x8000)

/-- R538: a Folio that has been read whole is verified and loaded. -/
def folioVerify (f : List Byte) (bad : Nat) (s : State) : CRes :=
  let r := folioRun f s
  if r.1 ≠ 0 then ⟨.auth, [toW r.1], r.2, false⟩
  else if bad ≠ 0 then ⟨.fault, [toW bad], s, false⟩
  else .done .ok r.2

/-- FOLIO_LOAD (R538): the header gives the length of the rest; one that fails step 1 has no length to read. -/
def folioLoad (args : List Word) (s : State) : CRes :=
  let a := addrOf args 0
  let h := fetch a 320 s
  if !h.ok then .done (firstStatus (fetchStatus a 320 h s)) s
  else
    let head := wordBytes h.words
    if folioAbsent s.variant head then .done .absent h.st
    else if folioFormat head && !sourceOk s.variant a (320 + folioLen head) then .done .range h.st
    else if folioBarred head s then .done .state h.st
    else if !folioFormat head then folioVerify head h.bad h.st
    else
      let n := 320 + folioLen head
      let f := fetch a n s
      if !f.ok then .done (firstStatus (fetchStatus a n f s)) s
      else folioVerify ((wordBytes f.words).take n) f.bad f.st

/-- R522: the endpoint is reset: configuration space, MSI-X state, the window base and the host's holding registers. -/
def endpointReset (s : State) : State :=
  let s := (s.wr Reg.HIF_STATUS 0).wr Reg.HIF_DRAM_WIN 0x80
  let msix (o : Nat) : Bool := decide (0x18000 ≤ o) && decide (o < 0x18400)
  { s with regs := s.regs.filter (fun p => !msix p.1)
           qHold := s.qHold.filter (fun p => decide (256 ≤ p.1))
           hif := { s.hif with linkUp := false, msixPend := 0, msixSent := [], msixEn := false, funcMask := false, d3 := false, aerStatus := 0, aerMask := 0 } }

/-- R522, R534: PERST# or the loss of the link. -/
def linkLoss (s : State) : State :=
  let s := if s.hif.linkUp then s.count Reg.HIF_LINK_DOWN_CNT 1 else s
  let host (d : Dma) : Bool := decide (hostBit ≤ d.src) || decide (hostBit ≤ d.dst)
  endpointReset ((s.hif.dma.filter (fun p => host p.2)).foldl (fun s cd => dmaCut 4 .link s cd) s)

/-- R539, R541: the next stage of boot. -/
def goStage (n : Nat) (s : State) : State := s.hi (fun h => { h with stage := n })

/-- R540, R541: the ROM waits for the host. -/
def hostBoot (s : State) : Bool := s.hif.bootSrc || s.bget Reg.HIF_BOOT 26

/-- R273: every bank that `which` names is written to 0. -/
def clearBanks (which : Nat → Bool) (s : State) : State :=
  let keep (a : Nat) : Bool := match bankOf a with
    | some (i, _) => !which i
    | none => true
  let m := s.mem
  { s with mem := { cells := m.cells.filter (fun c => keep c.1), bad := m.bad.filter keep
                    lost := m.lost.filter (fun i => !which i), rewritten := m.rewritten.filter keep } }

/-- The Scribe SRAM, which the ROM clears before Folio 0 is loaded there; CLEAR clears every other bank (log entry 118). -/
def scribeBank (i : Nat) : Bool := decide (272 ≤ i) && decide (i < 276)

/-- R273, R539: the ROM stage ends. -/
def romStage (s : State) : State := clearBanks scribeBank s

/-- R522, R541: the link finishes training; the speed and the width are what both ends reach. -/
def linkTrained (s : State) : State :=
  if s.hif.linkUp || s.hif.stage = 0 then s
  else
    let r := s.freeW
    let w := r.1.toNat
    let s := r.2.wr Reg.HIF_STATUS (2 ^ 31 + (w % 4 + 1) * 2 ^ 28 + 2 ^ (w / 4 % 3) * 2 ^ 24)
    let s := s.hi (fun h => { h with linkUp := true })
    if hostBoot s && s.hif.stage == 1 then goStage 8 (romStage s) else if hostBoot s && s.hif.stage == 2 then goStage 8 s else s

/-- R520: a write of HIF_DRAM_WIN. -/
def dramWinWrite (v : Word) (s : State) : State :=
  if s.served Reg.HIF_DRAM_WIN && decide (0x80 ≤ v.toNat % 256) then s.wr Reg.HIF_DRAM_WIN (v.toNat % 256) else s

/-- R539 to R541: boot continues at FIRMWARE from Folio `f`, and the firmware gives its release number. -/
def enterFirmware (bank : Nat) (f : List Byte) (s : State) : State :=
  let r := s.freeW
  let s := (r.2.wr Reg.GLB_FW_VER r.1.toNat).fset Reg.HIF_BOOT 25 24 bank
  goStage 3 (s.sc (fun x => { x with svnRun := folioField f 12 4 }))

/-- R541: the doorbell in HOST_WAIT. -/
def bootDoorbell (v : Word) (s : State) : State :=
  if s.served Reg.HIF_BOOT_DOORBELL && s.hif.stage == 8 && bitOf v.toNat 0 then
    let h := fabGet 320 0x107100000 s
    let n := if folioFormat h.1 then 320 + Nat.min (folioLen h.1) 1048256 else 320
    let g := fabGet n 0x107100000 h.2
    let f := g.1
    let r := if folioFormat f && folioType f ≠ 1 then (1, noteFolioFail 1 f g.2) else folioRun f g.2
    if r.1 = 0 then enterFirmware 2 f r.2 else r.2.fset Reg.HIF_BOOT 15 12 r.1
  else s

/-- R540: try the bank of directory copy `k`; a failure code is recorded for the bank. -/
def tryBank (k : Nat) (s : State) : State :=
  let d := dirCopy k s
  if s.hif.stage = 3 || !dirValid d then s
  else
    let e := dirFolio d 0
    let f := mramGet e.1 e.2.1 s
    let b := folioField d 8 4 % 2
    let r := if folioFormat f && folioType f ≠ 1 then (1, noteFolioFail 1 f s) else folioRun f s
    if r.1 = 0 then (enterFirmware b f r.2).hi (fun h => { h with dirUsed := some k })
    else r.2.fset Reg.HIF_BOOT (23 - 4 * b) (20 - 4 * b) r.1

/-- R540: the directory is chosen, and its Folio 0 verified and loaded; with no bank that boots, FALLBACK. -/
def verifyStage (s : State) : State :=
  let a := dirCopy 0 s
  let b := dirCopy 1 s
  let order := if folioField a 4 4 < folioField b 4 4 && dirValid b then [1, 0] else [0, 1]
  let s := order.foldl (fun s k => tryBank k s) s
  if s.hif.stage = 3 then s
  else
    let s := s.bset Reg.HIF_BOOT 26 true
    if s.hif.linkUp then goStage 8 s else s

/-- R539: the DRAM controllers are trained. -/
def dramStage (s : State) : State :=
  goStage 5 ((List.range 2).foldl (fun s c =>
    if present s.variant (Reg.DDR_CTL c) then
      let s := s.bset (Reg.DDR_CTL c) 31 true
      if ddrState s c = 1 then ddrSettle c (s.fset (Reg.DDR_STATUS c) 31 29 2) else s
    else s) s)

/-- R591: DEPTH and BASE of queues 0 to 31. -/
def bootQueue (q : Nat) : Nat × Nat :=
  if q < 8 then (512, 512 * q) else if q < 16 then (1024, 4096 + 1024 * (q - 8)) else if q = 16 then (4096, 12288)
  else if q = 17 then (1024, 16384) else if q = 18 then (1024, 17408) else if q = 19 then (256, 18432)
  else if q = 20 then (1024, 18688) else if q = 21 then (1024, 19712) else (256, 20736 + 256 * (q - 22))

/-- R333, R539: ring 0 of each direction of port `p` as firmware configures it; base, size and buffer size are its own (log entry
118). -/
def bootRing (s : State) (p : Nat) : State :=
  [0x100, 0x200].foldl (fun s dir =>
    let r := s.freeW
    let s := (r.2.wr (netReg p dir) (r.1.toNat / 64 * 64)).wr (netReg p (dir + 4)) 8
    let r := s.freeW
    let s := r.2.wr (netReg p (dir + 8)) (2 ^ (4 + r.1.toNat % 9))
    if dir = 0x100 then
      let r := s.freeW
      r.2.wr (netReg p (dir + 12)) (64 * (4 + r.1.toNat % 253))
    else s) s

/-- R539: the rings of the ports that are present. -/
def bootRings (s : State) : State := (List.range 17).foldl (fun s p => if netPresent s p then bootRing s p else s) s

/-- R294, R539, R591: banks are cleared, queues 0 to 31 configured (queue 17 is the Scribe complex's), and the rings. -/
def clearStage (s : State) : State :=
  goStage 6 (bootRings ((List.range 32).foldl (fun s q =>
    let s := ((s.wr (Reg.QUEUE_BASE q) (bootQueue q).2).fset (Reg.QUEUE_CFG q) 28 16 (bootQueue q).1).wr (Reg.QUEUE_WM q) 0
    let s := if q = 17 then s.fset (Reg.QUEUE_CFG q) 15 8 0x40 else s
    emptyQueue q (s.bset (Reg.QUEUE_CFG q) 31 true)) (clearBanks (fun i => !scribeBank i) s)))

/-- R538: one Folio of the directory is loaded as FOLIO_LOAD would. -/
def bootFolio (e : Nat × Nat × Nat × Nat) (s : State) : State :=
  let f := mramGet e.1 e.2.1 s
  if folioBarred f s then s else (folioRun f s).2

/-- R538, R539: the Folios of TYPE 2 to 4 of the directory copy that VERIFY took, in order; the twin key that MRAM keeps; then
READY. -/
def loadStage (s : State) : State :=
  let s := match s.hif.dirUsed with
    | none => s
    | some k =>
      let d := dirCopy k s
      (List.range (folioField d 12 4)).foldl (fun s n =>
        if 2 ≤ (dirFolio d n).2.2.1 && (dirFolio d n).2.2.1 ≤ 4 then bootFolio (dirFolio d n) s else s) s
  fire 0x04 0 (goStage 7 (s.sc (fun x => { x with twinKey := x.keyKept })))

/-- R539 to R541: a boot stage ends; LOAD ends only after the margin planner's run (R493). -/
def stageDone' (s : State) : State :=
  match s.hif.stage with
  | 1 => if s.hif.bootSrc then (if s.hif.linkUp then goStage 8 (romStage s) else s) else goStage 2 (romStage s)
  | 2 => if s.bget Reg.HIF_BOOT 26 then (if s.hif.linkUp then goStage 8 s else s) else verifyStage s
  | 3 => goStage 4 s
  | 4 => dramStage s
  | 5 => clearStage s
  | 6 => if s.pwr.planDue then s else loadStage s
  | _ => s

/-- R523, R547: a message on vector `v` can go. -/
def msixReady (v : Nat) (s : State) : Bool :=
  hostReach s && s.hif.msixEn && bitOf s.hif.msixPend.toNat v && !s.bget (Reg.HIF_MSIX_CTRL v) 0 && !s.hif.funcMask
    && (match Tab.find s.hif.msixSent v with
      | some n => decide (s.fget Reg.EVT_MOD 7 0 ≤ n)
      | none => true)

/-- R547: one message carries every request pending on the vector. -/
def msixSend (v : Nat) (s : State) : State :=
  if v < 64 && msixReady v s then
    let a := (s.rd (Reg.HIF_MSIX_ADDR_LO v) + s.rd (Reg.HIF_MSIX_ADDR_HI v) * 2 ^ 32) % 2 ^ 63
    let s := fabWrite (hostBit + a) (toW (s.rd (Reg.HIF_MSIX_DATA v))) false s
    s.hi (fun h => { h with msixPend := h.msixPend &&& ~~~(BitVec.ofNat 64 (2 ^ v)), msixSent := Tab.ins h.msixSent v 0, msixOut := h.msixOut ++ [v] })
  else s

/-- NOP. -/
def execNop (q : Nat) (tag : Word) (args : List Word) (s : State) : Host.Outcome State Fault Refusal :=
  .next (runCommand 0x00 q tag args (fun s => .done .ok s) s)

/-- RENDER_CFG. -/
def execRenderCfg (q : Nat) (tag : Word) (args : List Word) (s : State) : Host.Outcome State Fault Refusal :=
  .next (runCommand 0x01 q tag args (renderCfg args) s)

/-- RENDER_START. -/
def execRenderStart (q : Nat) (tag : Word) (args : List Word) (s : State) : Host.Outcome State Fault Refusal :=
  .next (runCommand 0x02 q tag args (renderStart args) s)

/-- POWER_REQ. -/
def execPowerReq (q : Nat) (tag : Word) (args : List Word) (s : State) : Host.Outcome State Fault Refusal :=
  .next (runCommand 0x03 q tag args (powerCmd args) s)

/-- ABORT. -/
def execAbort (q : Nat) (tag : Word) (args : List Word) (s : State) : Host.Outcome State Fault Refusal :=
  .next (runCommand 0x05 q tag args (abortCmd q tag args) s)

/-- FOLIO_LOAD. -/
def execFolioLoad (q : Nat) (tag : Word) (args : List Word) (s : State) : Host.Outcome State Fault Refusal :=
  .next (runCommand 0x06 q tag args (folioLoad args) s)

/-- MRAM_WRITE. -/
def execMramWrite (q : Nat) (tag : Word) (args : List Word) (s : State) : Host.Outcome State Fault Refusal :=
  .next (runCommand 0x07 q tag args (mramWrite args) s)

/-- MRAM_COMMIT. -/
def execMramCommit (q : Nat) (tag : Word) (args : List Word) (s : State) : Host.Outcome State Fault Refusal :=
  .next (runCommand 0x08 q tag args (mramCommit args) s)

/-- DMA_COPY. -/
def execDmaCopy (q : Nat) (tag : Word) (args : List Word) (s : State) : Host.Outcome State Fault Refusal :=
  .next (runCommand 0x09 q tag args (dmaCopy q tag args) s)

/-- HIF_ABORT_WRITE (R532, R533). -/
def execHifAbortWrite (_m : Master) (v : Word) (s : State) : Host.Outcome State Fault Refusal := .next (abortWrite v s)

/-- ABORT_COMPLETE (R533). -/
def execAbortComplete (unit : Nat) (s : State) : Host.Outcome State Fault Refusal := .next (abortDone unit s)

/-- DMA_TRANSFER_COMPLETE (R534). -/
def execDmaTransferComplete (ch : Nat) (s : State) (own : List (Nat × PortOp) := []) : Host.Outcome State Fault Refusal := .next (dmaDone ch own s)

/-- PCIE_LINK_LOSS (R522). -/
def execPcieLinkLoss (s : State) : Host.Outcome State Fault Refusal := .next (linkLoss s)

/-- PCIE_LINK_UP (R522, R541). -/
def execPcieLinkUp (s : State) : Host.Outcome State Fault Refusal := .next (linkTrained s)

/-- HIF_DRAM_WIN_WRITE (R520). -/
def execHifDramWinWrite (_m : Master) (v : Word) (s : State) : Host.Outcome State Fault Refusal := .next (dramWinWrite v s)

/-- HOST_BOOT_DOORBELL (R541). -/
def execHostBootDoorbell (_m : Master) (v : Word) (s : State) : Host.Outcome State Fault Refusal := .next (bootDoorbell v s)

/-- BOOT_STAGE_COMPLETE (R539 to R541). -/
def execBootStageComplete (s : State) : Host.Outcome State Fault Refusal := .next (stageDone' s)

/-- MSIX_MESSAGE (R547). -/
def execMsixMessage (vec : Nat) (s : State) : Host.Outcome State Fault Refusal := .next (msixSend vec s)

end Sys2Proof.Machine
end

