-- ==== Sys2Proof/Machine/TwinWire.lean ====
section
/-! DEFINITION. What twin messages hold (R455 to R460, R468): staged items, the BLOCK record, and the BULK_SYNC image. Field
places that the spec leaves open are the model's (log entry 15). -/

namespace Sys2Proof.Machine

/-- The words of a 64-bit number, low half first. -/
def words64 (n : Nat) : List Word := [toW n, toW (n / 2 ^ 32)]

/-- The words of a position. -/
def vecWords (p : Vec3) : List Word := [intW p.x, intW p.y, intW p.z]

/-- A staged item as tag and words: a register as offset and value, a command by its opcode. -/
def itemWords (s : State) : Item → Nat × List Word
  | .reg off _ v => (0x00, [toW off, toW v])
  | .spawn o ws => (0x10, toW o :: ws ++ vecWords (s.obj o).hold)
  | .objSet o sets => (0x11, toW o :: toW (sets.foldl (fun a p => a ||| 2 ^ p.1) 0) :: sets.map (fun p => p.2))
  | .release o => (0x12, [toW o])
  | .spk n ws => (0x18, toW n :: ws)
  | .zone n ws => (0x1A, toW n :: ws)
  | .maskSet n b => (0x1C, toW n :: (List.range 32).map (fun w => b.extractLsb' (32 * w) 32))
  | .vbap n ws => (0x1D, toW n :: ws)
  | .partition w => (0x1E, [toW (b2n w)])
  | .route n e => (0x20, toW n :: words64 e.toNat)
  | .handover => (0x24, [])
  | .anchor o => (0xFF, words64 (uns 64 o))

/-- Items as they stand in a COMMIT message. -/
def itemsWords (s : State) (is : List Item) : List Word :=
  is.flatMap (fun i => toW ((itemWords s i).1 * 2 ^ 16 + (itemWords s i).2.length) :: (itemWords s i).2)

/-- One item from its tag and words, with the held position of a spawned object. -/
def itemOf (tag : Nat) (ws : List Word) : Option (Item × Vec3) :=
  let n (i : Nat) : Nat := (nth 0 ws i).toNat
  let v (i : Nat) : Vec3 := ⟨(nth 0 ws i).toInt, (nth 0 ws (i + 1)).toInt, (nth 0 ws (i + 2)).toInt⟩
  match tag with
  | 0x00 => some (.reg (n 0) (rweMask (n 0)) (n 1), v 9)
  | 0x10 => some (.spawn (n 0) ((ws.drop 1).take 6), v 7)
  | 0x11 => some (.objSet (n 0) (((List.range 16).filter (fun b => bitOf (n 1) b)).zip (ws.drop 2)), v 9)
  | 0x12 => some (.release (n 0), v 9)
  | 0x18 => some (.spk (n 0) (ws.drop 1), v 9)
  | 0x1A => some (.zone (n 0) (ws.drop 1), v 9)
  | 0x1C => some (.maskSet (n 0) (maskBits (ws.drop 1)), v 9)
  | 0x1D => some (.vbap (n 0) (ws.drop 1), v 9)
  | 0x1E => some (.partition (n 0 == 1), v 9)
  | 0x20 => some (.route (n 0) (BitVec.ofNat 64 (n 1 + n 2 * 2 ^ 32)), v 9)
  | 0x24 => some (.handover, v 9)
  | 0xFF => some (.anchor (sgn 64 (n 0 + n 1 * 2 ^ 32)), v 9)
  | _ => none

/-- Items of a COMMIT message; the first number bounds them. -/
def itemsOf : Nat → List Word → List (Item × Vec3)
  | 0, _ => []
  | _ + 1, [] => []
  | k + 1, h :: ws =>
    let n := h.toNat % 2 ^ 16
    match itemOf (h.toNat / 2 ^ 16) (ws.take n) with
    | some i => i :: itemsOf k (ws.drop n)
    | none => itemsOf k (ws.drop n)

/-- The words of a string of bytes. -/
def bytesWords : Nat → List Byte → List Word
  | 0, _ => []
  | n + 1, bs => if bs.isEmpty then [] else toW (leNat (bs.take 4)) :: bytesWords n (bs.drop 4)

/-- R266, R269, R272, R273: the bytes that reads of the words from an aligned address on give. -/
def memBytes (a n : Nat) (s : State) : List Byte :=
  (wordBytes ((List.range ((n + 3) / 4)).map (fun i => (fabRead (a + 4 * i) s).1.1))).take n

/-- R269, R272: what those reads leave: failing and refused ones are counted. -/
def touchWords (a n : Nat) (s : State) : State := (List.range ((n + 3) / 4)).foldl (fun s i => (fabRead (a + 4 * i) s).2) s

/-- R459: CRC-32C over the history words of a block of an object, as stored; 0 for a FREE object. -/
def inputChk (s : State) (o : Nat) : Nat :=
  if (s.obj o).st = .free || s.bn = 0 then 0
  else crc32c ((List.range s.blockLen).flatMap (fun i => memBytes (histAddr s.scene.wideR o ((s.bn - 1) * s.blockLen + i)) 4 s))

/-- R459: CRC-32C over an output's egress words of block i − 2. -/
def outputChk (s : State) (n : Nat) : Nat :=
  if capOuts s.variant ≤ n || s.bn < 2 then 0
  else crc32c ((List.range s.blockLen).flatMap (fun i => memBytes (egressAddr s (s.bn - 2) n i) 4 s))

/-- R138, R458: an object's entry: STATE, SEG_HEAD, SEG_COUNT, the blocks of the group that come before block i − 1, release count,
and the held position. -/
def objEntry (s : State) (o : Nat) : List Byte :=
  let x := s.obj o
  let q := if x.alive then s.bn - 1 - (s.xp o).curStart else 0
  let k := if x.st = .releasing then s.bn - x.relF else 0
  if x.st = .free then List.replicate 16 0
  else leBytes 4 (x.st.code + x.segHead * 4 + x.segs.length * 16 + q % 256 * 256 + k % 65536 * 65536)
    ++ leBytes 4 (uns 32 x.hold.x) ++ leBytes 4 (uns 32 x.hold.y) ++ leBytes 4 (uns 32 x.hold.z)

/-- R458: pending commits in sealing order. -/
def commitEntries (s : State) : List Byte :=
  ((s.sched.commits.filter (fun (c : Commit) => c.peer == followsPeer s)).flatMap (fun (c : Commit) =>
    leBytes 4 c.cid ++ leBytes 8 c.target ++ ([BitVec.ofNat 8 c.defers, 0, 0, 0] : List Byte)) ++ List.replicate 128 0).take 128

/-- R458: TIME. -/
def timeEntry (s : State) : List Byte :=
  leBytes 8 (uns 64 s.time.o) ++ leBytes 8 (uns 64 s.time.oReq) ++ [BitVec.ofNat 8 s.time.servo] ++ leBytes 4 (s.rd Reg.TIME_FREQ)
    ++ List.replicate 43 0

/-- R458: an output's entry. -/
def outEntry (s : State) (n : Nat) : List Byte :=
  if capOuts s.variant ≤ n then List.replicate 8 0
  else
    let x := Tab.get (fun _ => OutSt.reset) s.out.outs n
    leBytes 4 x.fm ++ leBytes 4 x.gainPrev

/-- R458: a limiter zone's entry. -/
def zoneEntry (s : State) (z : Nat) : List Byte :=
  let x := Tab.get (fun _ => LimZone.reset) s.out.zones z
  leBytes 4 x.gr ++ leBytes 4 x.lgNew ++ [BitVec.ofNat 8 (b2n x.guardBit)] ++ leBytes 4 x.peak ++ [0, 0, 0]

/-- R458: a receive stream's entry. -/
def strmEntry (s : State) (n : Nat) : List Byte :=
  if rxLive s n then [BitVec.ofNat 8 (s.srx n).miss, BitVec.ofNat 8 (s.srx n).fin, BitVec.ofNat 8 (b2n (gateOpen s n)), 0]
  else [0, 0, 0, 0]

/-- R458: words 0x0F00 to 0x0F0F of a core's own bank. -/
def quillEntry (s : State) (k : Nat) : List Byte :=
  if k < capTiles s.variant then memBytes (0x100000000 + k * 0x40000 + 4 * 0xF00) 64 s else List.replicate 64 0

/-- R458: the record of the present interval without HEADER and COMMANDS. -/
def recordBody (s : State) : List Byte :=
  commitEntries s ++ timeEntry s ++ (List.range 2048).flatMap (objEntry s)
    ++ (List.range 2048).flatMap (fun o => leBytes 4 (inputChk s o))
    ++ (List.range 1024).flatMap (fun n => leBytes 4 (outputChk s n)) ++ (List.range 1024).flatMap (outEntry s)
    ++ (List.range 64).flatMap (zoneEntry s) ++ (List.range 1024).flatMap (strmEntry s) ++ (List.range 64).flatMap (quillEntry s)

/-- R458, R459: the reads of the banks that a record takes. -/
def touchRecord (s : State) : State :=
  let words (n : Nat) (at' : Nat → Nat) (s : State) : State := (List.range n).foldl (fun s i => touchWords (at' i) 4 s) s
  let s := (List.range 2048).foldl (fun s o =>
    if (s.obj o).st = .free || s.bn = 0 then s else words s.blockLen (fun i => histAddr s.scene.wideR o ((s.bn - 1) * s.blockLen + i)) s) s
  let s := if s.bn < 2 then s else
    (List.range (capOuts s.variant)).foldl (fun s n => words s.blockLen (fun i => egressAddr s (s.bn - 2) n i) s) s
  (List.range (capTiles s.variant)).foldl (fun s k => touchWords (0x100000000 + k * 0x40000 + 4 * 0xF00) 64 s) s

/-- R457, R458: a held item in COMMANDS; an RCC_LOAD carries its profile image, a push its queue (log entry 15). -/
def heldBytes (s : State) (h : TwHeld) : List Byte :=
  let rcc := h.kind = 0 && nth 0 h.words 0 == 0x21
  let a := addrOf h.words 2
  let parts := getF (leNat (memBytes a 4 s)) 8 0
  let body := (if h.kind = 1 then leBytes 4 h.q else []) ++ wordBytes h.words ++ (if rcc then memBytes a (imgLen s.is48 parts) s else [])
  leBytes 4 ((if rcc then 2 else h.kind) * 2 ^ 24 + body.length / 4) ++ leBytes 4 h.cseq ++ body

/-- R458: the held items that fit in COMMANDS, in CSEQ order, and their bytes; `room` bytes are left. -/
def fitHeld (s : State) : Nat → List TwHeld → List Nat × List Byte
  | _, [] => ([], [])
  | room, h :: hs =>
    let b := heldBytes s h
    if room < b.length then ([], [])
    else
      let r := fitHeld s (room - b.length) hs
      (h.cseq :: r.1, b ++ r.2)

/-- R458: HEADER. -/
def recordHeader (bn : Nat) (cs : List Nat) (len : Nat) : List Byte :=
  leBytes 8 bn ++ leBytes 4 (cs.headD 0) ++ leBytes 4 (cs.getLastD 0) ++ leBytes 4 len ++ List.replicate 44 0

/-- The items of COMMANDS; the first number bounds them. -/
def heldOf : Nat → List Byte → List TwHeld
  | 0, _ => []
  | k + 1, bs =>
    if bs.length < 8 then []
    else
      let h := leNat (bs.take 4)
      let n := h % 2 ^ 24
      let ws := bytesWords n (slice bs 8 (4 * n))
      let push := h / 2 ^ 24 = 1
      ⟨leNat (slice bs 4 4), h / 2 ^ 24, if push then (nth 0 ws 0).toNat else 0, 0, if push then ws.drop 1 else ws, none, none⟩
        :: heldOf k (bs.drop (8 + 4 * n))

/-- Every distance that a register's instances take. -/
def dimOffs : List (Nat × Nat) → List Nat
  | [] => [0]
  | (st, n) :: ds => (List.range n).flatMap (fun i => (dimOffs ds).map (fun d => i * st + d))

/-- A field that software may write and that a register image carries (R468). -/
def imaged (f : Fld) : Bool := f.acc == .rw || f.acc == .rwe

/-- R468: every RW and RWE register of the variant. -/
def imageOffs (v : Variant) : List Nat :=
  let us : List Unit' := [.glb, .hif, .sec, .pwr, .clk, .time, .net, .mgmt, .strm, .tdm, .cond, .queue, .memc, .ddr, .rule, .nib, .out, .rcc,
    .qcore, .twin, .stat, .evt, .dbg]
  us.flatMap (fun u => (unitTable u).flatMap (fun r =>
    if r.fields.any imaged then ((dimOffs r.dims).map (fun d => r.base + d)).filter (present v) else []))

/-- R468: the register image: offsets and live values. -/
def regImage (s : State) : List Byte :=
  (imageOffs s.variant).flatMap (fun o => leBytes 4 o ++ leBytes 4 (s.rd o &&& maskOf o imaged))

/-- A segment as words. -/
def segWords (g : Seg) : List Word := vecWords g.p0 ++ vecWords g.p1 ++ vecWords g.v0 ++ vecWords g.v1 ++ words64 g.tStart ++ words64 g.tEnd

/-- R468: an object of the scene tables, as 96 words. -/
def objImage (s : State) (o : Nat) : List Word :=
  let x := s.obj o
  let p := s.xp o
  let l := x.lastPos.getD ⟨0, 0, 0⟩
  [toW (x.st.code + x.segHead * 4 + x.segs.length * 16 + x.relRate * 256), toW x.relN] ++ (x.words ++ List.replicate 6 0).take 6
    ++ words64 x.armBN ++ vecWords x.hold ++ words64 x.relF ++ [toW (b2n x.lastPos.isSome)] ++ vecWords l ++ words64 p.phase ++ [toW p.n]
    ++ words64 p.curStart ++ [toW p.curLen, toW x.armCid, 0, 0]
    ++ ((x.segs.flatMap segWords) ++ List.replicate 64 0).take 64 ++ [0, 0, 0, 0]

/-- A segment from words. -/
def segOfWords (ws : List Word) : Seg := segOf (0 :: ws)

/-- The code of STATE, read back. -/
def stOf (n : Nat) : ObjSt := if n = 0 then .free else if n = 1 then .armed else if n = 2 then .live else .releasing

/-- An object from 96 words. -/
def objOfImage (ws : List Word) : Obj :=
  let n (i : Nat) : Nat := (nth 0 ws i).toNat
  let v (i : Nat) : Vec3 := ⟨(nth 0 ws i).toInt, (nth 0 ws (i + 1)).toInt, (nth 0 ws (i + 2)).toInt⟩
  { st := stOf (n 0 % 4), words := (ws.drop 2).take 6, armBN := n 8 + n 9 * 2 ^ 32, armCid := n 25, hold := v 10
    segs := (chop 16 (n 0 / 16 % 8) (ws.drop 28)).map segOfWords, segHead := n 0 / 4 % 4, after := none
    lastPos := if n 15 = 1 then some (v 16) else none, relF := n 13 + n 14 * 2 ^ 32, relN := n 1, relRate := n 0 / 256 }

/-- Bytes cut into pieces of `k`; `n` bounds their number. -/
def cut (k : Nat) : Nat → List Byte → List (List Byte)
  | 0, _ => []
  | n + 1, bs => if bs.isEmpty then [] else bs.take k :: cut k n (bs.drop k)

/-- R452, R468: a region as IMAGE messages of at most 1 MiB: address and data. -/
def region (a : Nat) (bs : List Byte) : List (Nat × List Byte) :=
  let ps := cut 1048576 (bs.length / 1048576 + 1) bs
  ((List.range ps.length).zip ps).map (fun ip => (a + 1048576 * ip.1, ip.2))

/-- A core's program memory, as bytes. -/
def pmBytes (c : QCore) : List Byte := (List.range 4096).flatMap (fun b => leBytes 8 (Tab.get (fun _ => (0 : Bundle)) c.pm b).toNat)

/-- R468, R474: a DRAM range. -/
def syncRange (s : State) (r : Nat) : Nat × Nat :=
  (s.fget (Reg.TWIN_SYNC_BASE_LO r) 31 10 * 1024 + s.fget (Reg.TWIN_SYNC_BASE_HI r) 3 0 * 2 ^ 32, s.fget (Reg.TWIN_SYNC_LEN r) 25 10 * 1024)

/-- R468: the memory of the image: filled profile slots, Quill banks, Commons, DRAM ranges; addresses and bytes. -/
def imageRcc (s : State) : List (Nat × Nat) :=
  (List.range 256).flatMap (fun p => if (s.slotSt p).st = 2 then [(rccBase + p * slotSize s.is48, slotSize s.is48)] else [])

/-- R468. -/
def imageMem (s : State) : List (Nat × Nat) :=
  imageRcc s ++ (List.range (capTiles s.variant)).map (fun k => (0x100000000 + k * 0x40000, 0x40000)) ++ [(0x107800000, 5242880)]
    ++ (List.range 8).map (syncRange s)

/-- R468: the image without its register image. -/
def imageMsgs (s : State) : List (Nat × List Byte) :=
  let v := s.variant
  region 0x200000000 ((List.range (2 * capObjs v)).flatMap (fun o => wordBytes (objImage s o)))
    ++ region 0x200100000 ((List.range 1024).flatMap (fun n => wordBytes (spkRecord n s)))
    ++ region 0x200180000 ((List.range 64).flatMap (fun n => leBytes 4 (uns 32 (s.zone n).temp) ++ leBytes 4 (s.zone n).dRef ++ leBytes 8 (s.zone n).spm))
    ++ region 0x2001A0000 ((List.range 64).flatMap (fun n => leBytes 128 (s.maskSet n).toNat))
    ++ region 0x2001C0000 ((List.range 2048).flatMap (fun n => wordBytes ((s.vbap n ++ List.replicate 12 0).take 12)))
    ++ region 0x2001E0000 ((List.range 256).flatMap (fun p => leBytes 4 ((s.slotSt p).st * 2 ^ 16 + (s.slotSt p).parts + b2n (s.slotSt p).rate48 * 2 ^ 20)))
    ++ (imageRcc s).flatMap (fun m => region m.1 (memBytes m.1 m.2 s))
    ++ (List.range (capTiles v)).flatMap (fun k => region (0x108000000 + k * 0x8000) (pmBytes (s.core k))
        ++ region (0x100000000 + k * 0x40000) (memBytes (0x100000000 + k * 0x40000) 0x40000 s))
    ++ region 0x107800000 (memBytes 0x107800000 5242880 s)
    ++ (List.range 8).flatMap (fun r => region (syncRange s r).1 (memBytes (syncRange s r).1 (syncRange s r).2 s))

end Sys2Proof.Machine
end

