-- ==== Sys2Proof/Machine/Twin.lean ====
section
/-! DEFINITION. Twin messages (R448 to R473): reception and acceptance, commits and verdicts, state records, repair, BULK_SYNC,
roles and health. -/

namespace Sys2Proof.Machine

/-- The partner follows this module: it is STANDBY or SYNCING (R456, R457). -/
def peerFollows (s : State) : Bool := transmits s && twinEn s && (s.twin.peerSt == 2 || s.twin.peerSt == 4) && linkUp s

/-- This module follows its partner. -/
def follower (s : State) : Bool := twinEn s && followsPeer s

/-- R458: the snapshot of the interval, taken in the verdict slot; the last four are kept (R459). -/
def takeSnap (s : State) : State :=
  if s.sched.rendering && !s.sched.verdictDone && (peerFollows s || follower s) then
    (touchRecord s).tw (fun t => { t with snaps := ((s.bn, recordBody s) :: t.snaps).take 4 })
  else s

/-- R194, R458: the verdict slot: the snapshot, then the verdict. -/
def verdictSlot (s : State) : State := doVerdict (takeSnap s)

/-- R448: fields of a fragment. -/
def fragOf (b : List Byte) : TwRx :=
  ⟨leNat (slice b 8 8), (nth 0 b 0).toNat % 16, (nth 0 b 1).toNat, leNat (slice b 16 2), leNat (slice b 18 2), slice b 20 (leNat (slice b 2 2))⟩

/-- R448: a fragment is valid. -/
def fragOk (b : List Byte) : Bool :=
  let n := leNat (slice b 2 2)
  let body := b.take (b.length - 4)
  (nth 0 b 0).toNat / 16 == 1 && decide (1 ≤ n) && decide (n ≤ 1024) && decide ((fragOf b).index ≤ (fragOf b).last)
    && b.length == 24 + (n + 3) / 4 * 4 && leNat (b.drop (b.length - 4)) == crc32c body

/-- R449, R453: ACK_FSEQ moves over every FSEQ received in a row; the first number bounds the moves. -/
def ackOver : Nat → Nat → List Nat → Nat × List Nat
  | 0, a, l => (a, l)
  | n + 1, a, l =>
    let x := (a + 1) % 2 ^ 32
    if l.contains x then ackOver n x (l.filter (fun f => f != x)) else (a, l)

/-- A fragment sequence number lies after another, modulo 2³². -/
def seqAfter (a b : Nat) : Bool := a != b && decide ((a + 2 ^ 32 - b) % 2 ^ 32 < 2 ^ 31)

/-- R448: a fragment arrives. -/
def fragmentIn (b : List Byte) (s : State) : State :=
  if hasTwin s && linkUp s then
    if fragOk b then
      let f := leNat (slice b 4 4)
      let x := fragOf b
      s.tw (fun t =>
        let sack := if seqAfter f t.rxAck && !t.rxSack.contains f then insNat t.rxSack f else t.rxSack
        let r := ackOver sack.length t.rxAck sack
        { t with rxAck := r.1, rxSack := r.2
                 rx := if t.rx.any (fun y => y.mseq == x.mseq && y.index == x.index) then t.rx else t.rx ++ [x] })
    else s.count Reg.TWIN_CRC_CNT 1
  else s

/-- R455: the partner's values are staged as given. -/
def stagePeer (cid t : Nat) (items : List (Item × Vec3)) (s : State) : State :=
  let is := items.map (fun p => p.1)
  let offs := is.flatMap (fun i => match i with | .reg off _ _ => [off] | _ => [])
  let s := is.foldl (fun s i => match i with
    | .reg off m v => s.wr (shadowOf off) (s.shadowWord off - (s.shadowWord off &&& m) + (v &&& m))
    | _ => s) s
  let s := if s.sched.commits.any (fun c => c.peer && c.cid == cid) then
      s.setCommits (s.sched.commits.map (fun c => if c.peer && c.cid = cid then c.join s.variant is offs false else c))
    else s.setCommits (s.sched.commits ++ [{ newCommit s.variant cid t is offs false (withholding s) with peer := true }])
  let s := items.foldl (fun s p => match p.1 with
    | .spawn o ws => s.spawnObj o { Obj.reset with st := .armed, words := ws, armBN := t, armCid := cid, hold := p.2 }
    | _ => s) s
  s.tw (fun x => { x with toAck := x.toAck ++ [cid] })

/-- COMMIT accepted: CID, target, items (R452, R455). -/
def commitIn (b : List Byte) (s : State) : State :=
  if twinEn s && (s.twin.st == 2 || s.twin.st == 3 || s.twin.st == 4) then
    stagePeer (leNat (b.take 4)) (leNat (slice b 4 8)) (itemsOf b.length (bytesWords b.length (b.drop 12))) s
  else s

/-- COMMIT_ACK accepted: the TWIN participant arms once every acknowledgement due has come (R201, R455). -/
def commitAckIn (b : List Byte) (s : State) : State :=
  let cid := leNat (b.take 4)
  s.setCommits (s.sched.commits.map (fun c =>
    if c.cid = cid && !c.peer && c.acksDue ≠ 0 then
      { c with acksDue := c.acksDue - 1, armed := if c.acksDue = 1 then c.armed ||| 0x800 else c.armed }
    else c))

/-- R455: the next values to be forwarded go out. -/
def forwardCommit (s : State) : State :=
  match s.twin.toForward with
  | [] => s
  | (cid, t, is) :: rest =>
    let s' := s.tw (fun x => { x with toForward := rest })
    if twinEn s && transmits s && s.twin.peerSt ≠ 5 then
      enqueue 2 1 (leBytes 4 cid ++ leBytes 8 t ++ wordBytes (itemsWords s is)) s'
    else s'

/-- R455: the participants of a forwarded commit have armed. -/
def ackCommit (s : State) : State :=
  match s.twin.toAck with
  | [] => s
  | cid :: rest =>
    if withholding s = 0 then enqueue 2 2 (leBytes 4 cid) (s.tw (fun x => { x with toAck := rest })) else s

/-- R457: every fragment up to FSEQ `f` has been acknowledged. -/
def ackedTo (t : TwinSt) (f : Nat) : Bool := t.unacked.all (fun u => seqAfter u.fseq f)

/-- R457: the held items that the next VERDICT releases: the first ones whose records are acknowledged whole. -/
def releasable (t : TwinSt) : List TwHeld := t.heldItems.takeWhile (fun h => match h.fseq with
  | some f => ackedTo t f
  | none => false)

/-- R457: a released command completes with its CSEQ. -/
def completeHeld (h : TwHeld) (s : State) : State :=
  match s.hif.waitingCmds.find? (fun w => h.kind == 0 && w.q == h.q && w.tag == h.tag && heldOpcode w.opcode && w.arg == h.cseq) with
  | some w => release w .ok [toW h.cseq] s
  | none => s

/-- R457: items are released for boundary `x`, with their completions. -/
def releaseItems (x : Nat) (hs : List TwHeld) (s : State) : State :=
  let s := hs.foldl (fun s h => completeHeld h s) s
  s.tw (fun t => { t with heldItems := t.heldItems.drop hs.length, released := t.released ++ hs.map (fun h => (x, h))
                          relCseq := hs.foldl (fun a h => Nat.max a h.cseq) t.relCseq })

/-- R456: the body of a VERDICT. -/
def verdictBody (x rel : Nat) (outs : List (Nat × Nat)) : List Byte :=
  leBytes 8 x ++ leBytes 4 rel ++ [BitVec.ofNat 8 outs.length, 0, 0, 0]
    ++ outs.flatMap (fun o => leBytes 4 o.1 ++ [BitVec.ofNat 8 o.2, 0, 0, 0])

/-- R456, R457: the VERDICT for the next boundary. -/
def sendVerdict (s : State) : State :=
  if peerFollows s && s.sched.verdictDone && s.twin.verdictSent ≠ s.bn + 1 then
    let s := releaseItems (s.bn + 1) (releasable s.twin) s
    enqueue 2 3 (verdictBody (s.bn + 1) s.twin.relCseq (s.twin.outcomes.take 8)) (s.tw (fun t => { t with verdictSent := s.bn + 1 }))
  else s

/-- R456: the entries of a VERDICT. -/
def verdictOf (b : List Byte) : TwVerdict :=
  ⟨leNat (b.take 8), leNat (slice b 8 4),
    (List.range (nth 0 b 12).toNat).map (fun i => (leNat (slice b (16 + 8 * i) 4), (nth 0 b (20 + 8 * i)).toNat))⟩

/-- VERDICT accepted (R456). One for the next boundary that comes after the masks were handed over gives the bit-clock domains the
masks of the commits that it lets go (R199, R377). -/
def verdictIn (b : List Byte) (s : State) : State :=
  if follower s then
    let s := s.tw (fun t => { t with verdicts := t.verdicts ++ [verdictOf b] })
    if s.cond.handed && (verdictOf b).bn == s.bn + 1 then handMasks { s with cond := { s.cond with handed := false } } else s
  else s

/-- R449: a message of `n` body bytes fits in the window. -/
def windowRoom (n : Nat) (s : State) : Bool := decide (s.twin.unacked.length + (n + 16 + 1023) / 1024 ≤ 4096)

/-- R449, R457, R458: the BLOCK record of the interval, with the held items that fit; it waits where the window is full. -/
def sendBlock (s : State) : State :=
  match Tab.find s.twin.snaps s.bn with
  | none => s
  | some body =>
    if peerFollows s && s.sched.verdictDone && s.twin.recMade ≠ s.bn then
      let r := fitHeld s 35584 (s.twin.heldItems.filter (fun h => h.inRec.isNone))
      let msg := recordHeader s.bn r.1 r.2.length ++ body ++ r.2
      enqueue 2 0 msg (s.tw (fun t => { t with recMade := s.bn, heldItems := t.heldItems.map (fun h =>
        if r.1.contains h.cseq then { h with inRec := some s.bn } else h) }))
    else s

/-- BLOCK accepted: a record, in the one buffer that receives, and the items it carries (R457, R459). -/
def blockIn (b : List Byte) (s : State) : State :=
  if follower s then
    let n := leNat (slice b 16 4)
    let hs := heldOf (n / 8 + 1) (slice b 62720 n)
    s.tw (fun t => { t with records := [(leNat (b.take 8), slice b 64 62656)]
                            heldItems := t.heldItems ++ hs.filter (fun h => !t.heldItems.any (fun g => g.cseq == h.cseq)) })
  else s

/-- Bytes `i` to `j − 1` of two strings agree. -/
def sameSpan (a b : List Byte) (i j : Nat) : Bool := slice a i (j - i) == slice b i (j - i)

/-- R459: objects whose INPUT_CHK differ. -/
def diffObjs (a b : List Byte) : List Nat :=
  (List.range 2048).filter (fun o => !sameSpan a b (0x80C0 + 4 * o) (0x80C4 + 4 * o))

/-- R459, R469: a record is compared with the module's own snapshot. Offsets are less by the 64 bytes of HEADER. -/
def applyRecord (bn : Nat) (rec own : List Byte) (s : State) : State :=
  let run := s.twin.lastApplied == some (bn - 1) && bn ≠ 0
  let s := s.tw (fun t => { t with lastApplied := some bn, applied := (bn :: t.applied).take 64 })
  let structural := !sameSpan rec own 0 0x80C0
  let outs := sameSpan rec own 0xA0C0 0xB0C0
  let objs := diffObjs rec own
  let s := if objs.isEmpty || bn = 0 then s else enqueue 3 0 (leBytes 8 (bn - 1) ++ objs.flatMap (leBytes 2)) s
  let s := if sameSpan rec own 0xA0C0 0xF4C0 then s else noteHealth 0x20 (s.count Reg.TWIN_DIFF_CNT 1)
  if s.twin.st = 2 then (if structural then fire 0x40 0 (twinGo 3 s) else s)
  else
    let s := s.tw (fun t => { t with matched := if structural || !outs then 0 else if run then t.matched + 1 else 1 })
    if 64 ≤ s.twin.matched && !s.twin.due.any (fun d => d.2 == 6) then twinAt (s.bn + 1) 6 s else s

/-- R459: the oldest complete record is applied against the snapshot of its interval. -/
def recordApply (s : State) : State :=
  match s.twin.records with
  | [] => s
  | (bn, rec) :: rest =>
    if follower s then
      match Tab.find s.twin.snaps bn with
      | some own => applyRecord bn rec own (s.tw (fun t => { t with records := rest }))
      | none => s
    else s

/-- R459: a record of an interval since the entry to STANDBY has not been applied by the third boundary after its own. -/
def missingRecord (s : State) : Bool :=
  (List.range 16).any (fun k => decide (s.twin.standBn + k + 3 ≤ s.bn) && !s.twin.applied.contains (s.bn - 3 - k))

/-- R459: the module that lacks a record in time goes STALE. -/
def recordLate (s : State) : State :=
  if twinEn s && s.twin.st == 2 && missingRecord s then
    (twinGo 3 s).count Reg.TWIN_RECORD_LATE_CNT 1
  else s

/-- R460: the DATA entry of an object. -/
def repairEntry (s : State) (b o : Nat) : List Byte :=
  leBytes 4 o ++ (List.range s.blockLen).flatMap (fun i => memBytes (histAddr s.scene.wideR o (b * s.blockLen + i)) 4 s)

/-- R269: what reading that entry leaves. -/
def touchRepair (b o : Nat) (s : State) : State :=
  (List.range s.blockLen).foldl (fun s i => touchWords (histAddr s.scene.wideR o (b * s.blockLen + i)) 4 s) s

/-- R460: requested objects are served, one message each, while the interval's 131,072 payload bytes last. -/
def serveRepairs : Nat → State → State
  | 0, s => s
  | n + 1, s =>
    match s.twin.repairs with
    | [] => s
    | (b, o) :: rest =>
      let body := leBytes 8 b ++ repairEntry s b o
      if 131072 < s.twin.repairSent + body.length + 16 then s
      else serveRepairs n (enqueue 3 1 body ((touchRepair b o s).tw (fun t => { t with repairs := rest, repairSent := t.repairSent + body.length + 16 })))

/-- REPAIR REQUEST accepted (R460). -/
def repairRequestIn (b : Nat) (objs : List Nat) (s : State) : State :=
  if transmits s && twinEn s then
    let s := s.tw (fun t => { t with repairs := t.repairs ++ (objs.filter (fun o => decide (o < 2048))).map (fun o => (b, o)) })
    serveRepairs s.twin.repairs.length s
  else s

/-- R129: block `b` is still held in the windows. -/
def blockHeld (s : State) (b : Nat) : Bool :=
  decide (b + 1 ≤ s.bn) && decide (s.bn * s.blockLen ≤ b * s.blockLen + winLen s.scene.wideR)

/-- R460: one object's block is repaired, or the repair is abandoned. -/
def repairObj (b o : Nat) (ws : List Word) (s : State) : State :=
  if blockHeld s b then
    (((List.range s.blockLen).zip ws).foldl (fun s iw => storeWord (histAddr s.scene.wideR o (b * s.blockLen + iw.1)) iw.2 false s) s).count
      Reg.TWIN_REPAIR_CNT 1
  else if s.twin.st = 2 || s.twin.st = 4 then twinGo 3 s else s

/-- REPAIR DATA accepted (R460): the words are written in the guard slot of the interval. -/
def repairDataIn (b : Nat) (es : List (Nat × List Word)) (s : State) : State :=
  if follower s then
    s.tw (fun t => { t with repairIn := t.repairIn ++ (es.filter (fun e => decide (e.1 < 2 * capObjs s.variant))).map (fun e => (b, e.1, e.2)) })
  else s

/-- R460: the guard slot writes the repairs that have arrived in the interval. -/
def writeRepairs (s : State) : State :=
  s.twin.repairIn.foldl (fun s r => repairObj r.1 r.2.1 r.2.2 s) (s.tw (fun t => { t with repairIn := [] }))

/-- The entries of a REPAIR DATA body. -/
def repairEntries (bl : Nat) : Nat → List Byte → List (Nat × List Word)
  | 0, _ => []
  | n + 1, bs =>
    if bs.length < 4 + 4 * bl then []
    else (leNat (bs.take 4), bytesWords bl (slice bs 4 (4 * bl))) :: repairEntries bl n (bs.drop (4 + 4 * bl))

/-- R448: a CRC-32C in hand goes on over further bytes. -/
def crcRun (c : Nat) (bs : List Byte) : Nat := bs.foldl (crcByte 0x82F63B78) c

/-- R468: the transmitting module streams the image without its register image, which waits for the guard slot. -/
def streamImage (s : State) : State :=
  let ms := imageMsgs s
  let all := ms.flatMap (fun m => m.2)
  let s := (imageMem s).foldl (fun s m => touchWords m.1 m.2 s) s
  let s := ms.foldl (fun s m => enqueue 4 1 (leBytes 8 m.1 ++ m.2) s) s
  s.tw (fun t => { t with imageRun := some (crcRun 0xFFFFFFFF all, all.length) })

/-- R468: the guard slot: once the rest of the image has been sent, the register image is captured, and END follows in the same
interval if the window takes both. -/
def imageEnd (s : State) : State :=
  match s.twin.imageRun with
  | none => s
  | some (c, n) =>
    if !(transmits s && twinEn s && linkUp s) then s.tw (fun t => { t with imageRun := none })
    else
      let r := regImage s
      if s.twin.txq.any (fun m => m.ty == 4) || !windowRoom (r.length + 1100) s then s
      else
        let s := (region 0x10000000 r).foldl (fun s m => enqueue 4 1 (leBytes 8 m.1 ++ m.2) s) s
        enqueue 4 2 (leBytes 4 (crcRun c r ^^^ 0xFFFFFFFF) ++ leBytes 8 (n + r.length)) (s.tw (fun t => { t with imageRun := none }))

/-- R468: a STALE module with the link UP requests the image; the transmitting module streams it. -/
def bulkSync (s : State) : State :=
  if !twinEn s || !linkUp s then s
  else if s.twin.st = 3 && !s.twin.hello then enqueue 4 0 [] s
  else if transmits s then streamImage s
  else s

/-- R468: objects of the scene tables arrive, the first of number `o`. -/
def imageObj (o : Nat) (ws : List Word) (s : State) : State :=
  let n (i : Nat) : Nat := (nth 0 ws i).toNat
  let x := objOfImage ws
  let cur := n 22 + n 23 * 2 ^ 32
  let m := s.maskSet (x.field 0 15 10)
  (s.setObj o x).setXp o ⟨n 19 + n 20 * 2 ^ 32, n 21, cur, n 24, cur, n 24, true, m, m⟩

/-- Entries of `k` words are handed one by one to `f`, numbered from `i` on. -/
def eachEntry (k i : Nat) (f : Nat → List Word → State → State) (ws : List Word) (s : State) : State :=
  let es := chop k (ws.length / k) ws
  ((List.range es.length).zip es).foldl (fun s ie => f (i + ie.1) ie.2 s) s

/-- R468: a slot's state arrives. -/
def imageSlot (p : Nat) (ws : List Word) (s : State) : State :=
  let w := (nth 0 ws 0).toNat
  setSlot p ⟨w / 2 ^ 16 % 4, w % 2 ^ 16, bitOf w 20⟩ s

/-- Change the scene. -/
def State.scn (s : State) (f : Scene → Scene) : State := { s with scene := f s.scene }

/-- R269: a row of the Ruling tables that is written whole passes its checks again. -/
def mendRow (r : TblRow) (c : Scene) : Scene := { c with tblBad := c.tblBad.filter (fun q => q != r) }

/-- R468: a speaker record arrives. -/
def imageSpk (n : Nat) (w : List Word) (s : State) : State :=
  s.scn (fun c => mendRow (.spk n) { c with spkR := Tab.put (fun _ => Spk.reset) c.spkR n ⟨w⟩, spkO := Tab.put (fun _ => Spk.reset) c.spkO n ⟨w⟩ })

/-- R468: a zone record arrives. -/
def imageZone (n : Nat) (w : List Word) (s : State) : State :=
  let z : Zone := ⟨(nth 0 w 0).toInt, (nth 0 w 1).toNat, (nth 0 w 2).toNat + (nth 0 w 3).toNat * 2 ^ 32⟩
  s.scn (fun c => mendRow (.zone n) { c with zones := Tab.put (fun _ => Zone.reset) c.zones n z })

/-- R468: a mask set arrives. -/
def imageMask (n : Nat) (w : List Word) (s : State) : State :=
  s.scn (fun c => mendRow (.mask n) { c with masks := Tab.put (fun _ => BitVec.allOnes 1024) c.masks n (maskBits w) })

/-- R468: a VBAP entry arrives. -/
def imageVbap (n : Nat) (w : List Word) (s : State) : State :=
  s.scn (fun c => mendRow (.vbap n) { c with vbap := Tab.put (fun _ => List.replicate 12 0) c.vbap n w })

/-- R468: an IMAGE is written as it arrives. -/
def imageStore (a : Nat) (bs : List Byte) (s : State) : State :=
  let ws := bytesWords (bs.length / 4 + 1) bs
  if 0x10000000 ≤ a && a < 0x11000000 then
    s.tw (fun t => { t with imageRegs := t.imageRegs ++ (chop 2 (ws.length / 2) ws).map (fun p => ((nth 0 p 0).toNat, nth 0 p 1)) })
  else if 0x200000000 ≤ a && a < 0x200100000 then eachEntry 96 ((a - 0x200000000) / 384) imageObj ws s
  else if 0x200100000 ≤ a && a < 0x200180000 then eachEntry 8 ((a - 0x200100000) / 32) imageSpk ws s
  else if 0x200180000 ≤ a && a < 0x2001A0000 then eachEntry 4 ((a - 0x200180000) / 16) imageZone ws s
  else if 0x2001A0000 ≤ a && a < 0x2001C0000 then eachEntry 32 ((a - 0x2001A0000) / 128) imageMask ws s
  else if 0x2001C0000 ≤ a && a < 0x2001E0000 then eachEntry 12 ((a - 0x2001C0000) / 48) imageVbap ws s
  else if 0x2001E0000 ≤ a && a < 0x200200000 then eachEntry 1 ((a - 0x2001E0000) / 4) imageSlot ws s
  else if 0x108000000 ≤ a && a < 0x108200000 then
    match pmTarget s.variant a with
    | some (k, b) => loadPm k b false bs s
    | none => s
  else fabBytes a bs s

/-- IMAGE accepted: the first one takes a STALE module to SYNCING (R445, R468). -/
def imageIn (a : Nat) (bs : List Byte) (s : State) : State :=
  if twinEn s && (s.twin.st == 3 || s.twin.st == 4) then imageStore a bs (twinGo 4 s) else s

/-- END accepted: the register values become live at the next boundary (R468). -/
def endIn (s : State) : State := if twinEn s && s.twin.st == 4 then twinAt (s.bn + 1) 7 s else s

/-- R445, R471: this module yields at boundary `x`. -/
def yieldAt (x : Nat) (s : State) : State := if transmits s && twinEn s then twinAt (Nat.max x (s.bn + 1)) 3 s else s

/-- R470: a module STALE at enable acts on the first HELLO it accepts. -/
def helloStale (role st : Nat) (s : State) : State :=
  let same := role == b2n (roleAlt s)
  let done := s.tw (fun t => { t with hello := false, waiting := 0 })
  if st ≤ 1 then bulkSync done
  else if st = 3 then
    if same then fire 0x42 0 done
    else if roleAlt s then bulkSync done
    else twinAt (s.bn + 1) 2 done
  else s

/-- R471: both modules transmit: the one that began later yields; on equal boundaries the ALTERNATE; the other
answers with its HELLO. -/
def helloBoth (since : Nat) (s : State) : State :=
  let own := s.twin.txSince.getD 0
  if since < own || (since = own && roleAlt s) then yieldAt (s.bn + 1) (enqueue 5 2 (leBytes 8 (s.bn + 1)) s)
  else sendHello s

/-- HELLO accepted (R470, R471). -/
def helloIn (role st since : Nat) (s : State) : State :=
  if !twinEn s then s
  else if s.twin.st = 3 && s.twin.hello then helloStale role st (if st = 3 then sendHello s else s)
  else if transmits s && st ≤ 1 then helloBoth since s
  else if st = 3 then sendHello s
  else s

/-- TAKEOVER accepted (R462). -/
def takeoverIn (x : Nat) (s : State) : State := yieldAt x s

/-- FAIL accepted: a module that does not transmit takes over at `x` (R462). -/
def failIn (x : Nat) (s : State) : State :=
  if twinEn s && s.twin.st == 2 then twinAt (Nat.max x (s.bn + 1)) 9 s
  else if twinEn s && s.twin.st == 3 then twinAt (Nat.max x (s.bn + 1)) 8 s
  else s

/-- R467: the transmitting module answers with a handover commit. -/
def revertIn (s : State) : State :=
  if twinEn s && transmits s && s.twin.peerSt == 2 && s.bget Reg.TWIN_CFG 30 && !(refusals (s.bn + 16) s).any then
    (stage (s.bn + 16) [.handover] [] s).2
  else s

/-- R467: a PREFERRED standby healthy for HOLDOFF_S asks back; the transmitting module seals the handover. -/
def revertReq (s : State) : State :=
  if twinEn s && s.twin.st == 2 then
    if !roleAlt s && s.bget Reg.TWIN_CFG 30 && decide (s.fget Reg.TWIN_CFG 15 0 ≤ s.twin.hClean) then enqueue 5 3 [] (s.tw (fun t => { t with hClean := 0 }))
    else s
  else revertIn s

/-- R473: conditions that hold now, as bits of the health word. -/
def healthNow (s : State) : Nat :=
  (if s.time.servo ≠ 1 || !s.bget Reg.CLK_MEDIA_STATUS 31 then 0x800 else 0)
    ||| (if feedState s 0 ≠ 0 || feedState s 1 ≠ 0 then 0x100 else 0) ||| (if s.twin.lanes ≠ 3 then 0x80 else 0)
    ||| (if (List.range 2).any (fun c => present s.variant (Reg.DDR_CTL c) && !s.bget (Reg.DDR_STATUS c) 28) then 0x2 else 0)
    ||| (if (List.range 64).any (fun t => s.bget (Reg.NIB_TILE_BIST_STATUS t) 31) then 0x1 else 0)

/-- R472, R473: once per second, the health word with the eyes of lanes 0 and 1 in 1/64 UI. -/
def healthTick (eye0 eye1 : Nat) (s : State) : State :=
  if hasTwin s && decide (s.twin.hAt + 1000000000 ≤ s.sched.up) then
    let min := s.fget Reg.TWIN_EYE 29 24
    let bits := s.twin.hBits ||| healthNow s ||| (if eye0 < min || eye1 < min then 0x40 else 0)
    let w := s.twin.hSeq % 256 * 2 ^ 24 + bits % 4096
    let s := ((s.fset Reg.TWIN_EYE 5 0 (Nat.min eye0 63)).fset Reg.TWIN_EYE 13 8 (Nat.min eye1 63)).wr Reg.TWIN_HEALTH w
    let s := s.tw (fun t => { t with hSeq := t.hSeq + 1, hBits := healthNow s, hAt := s.sched.up, hClean := if t.st = 2 && bits % 4096 = 0 then t.hClean + b2n (decide (t.standAt ≤ t.hAt)) else 0 })
    if twinEn s then enqueue 6 0 (leBytes 4 w ++ leBytes 2 eye0 ++ leBytes 2 eye1) s else s
  else s

/-- R449: what a heartbeat's ACK_FSEQ and SACK cover is dropped; older fragments that they miss are to be resent. -/
def ackFrags (j ack : Nat) (sack : List Byte) (t : TwinSt) : TwinSt :=
  let covered (f : Nat) : Bool :=
    !seqAfter f ack || (let k := (f + 2 ^ 32 - ack - 1) % 2 ^ 32; decide (k < 256) && bitOf (nth 0 sack (k / 8)).toNat (k % 8))
  { t with unacked := (t.unacked.filter (fun u => !covered u.fseq)).map (fun u => if u.sent + 2 ≤ j then { u with marked := true } else u) }

/-- R457: items held for a partner that no longer follows, or whose link is DOWN, are executed at once: at boundary `x`. -/
def dropHolding (x : Nat) (s : State) : State :=
  if transmits s && !peerFollows s && !s.twin.heldItems.isEmpty then releaseItems x s.twin.heldItems s
  else s

/-- HEARTBEAT accepted (R449, R450, R453, R454): of each BN the first one counts. As every one has an MSEQ of its own, those of the
last 65,537 messages are enough to tell. -/
def heartbeatIn (b : List Byte) (s : State) : State :=
  let j := leNat (b.take 8)
  if s.twin.hbSeen.contains j then s
  else
    let s := s.tw (fun t => ackFrags j (leNat (slice b 12 4)) (slice b 16 32)
      { t with hbSeen := (j :: t.hbSeen).take 65537, lastHb := Nat.max t.lastHb j
               peerSt := if t.lastHb ≤ j then (nth 0 b 8).toNat % 8 else t.peerSt })
    flushTx s.twin.txq.length (dropHolding (s.bn + 1) s)

/-- R452: the words in which a ROLE or HEALTH message stands in queues 20 and 21: TYPE, SUB, the length and the first five body bytes
in the first one, and seven more bytes in each further one (DESIGN CHOICE, log entry 195). -/
def msgWords (ty sub : Nat) (b : List Byte) : List (BitVec 60) :=
  BitVec.ofNat 60 (ty * 2 ^ 56 + sub * 2 ^ 52 + b.length % 256 * 2 ^ 40 + leNat (b.take 5))
    :: (cut 7 (b.length / 7 + 1) (b.drop 5)).map (fun p => BitVec.ofNat 60 (leNat p))

/-- R452: a ROLE or HEALTH message reaches the firmware through queue 20, once the firmware has enabled it. -/
def toFirmware (ty sub : Nat) (b : List Byte) (s : State) : State :=
  if s.qEnabled 20 then (msgWords ty sub b).foldl (fun s w => pushBy 0x4C 20 w s) s else s

/-- R452: an accepted message: the twin controller handles it, or hands it to the firmware. -/
def actOnCore (ty sub : Nat) (b : List Byte) (s : State) : State :=
  match ty, sub with
  | 1, 0 => heartbeatIn b s
  | 2, 0 => blockIn b s
  | 2, 1 => commitIn b s
  | 2, 2 => commitAckIn b s
  | 2, 3 => verdictIn b s
  | 3, 0 => repairRequestIn (leNat (b.take 8)) ((List.range ((b.length - 8) / 2)).map (fun i => leNat (slice b (8 + 2 * i) 2))) s
  | 3, 1 => repairDataIn (leNat (b.take 8)) (repairEntries s.blockLen b.length (b.drop 8)) s
  | 4, 0 => if transmits s && twinEn s then streamImage s else s
  | 4, 1 => imageIn (leNat (b.take 8)) (b.drop 8) s
  | 4, 2 => endIn s
  | 5, 0 => helloIn (nth 0 b 0).toNat (nth 0 b 1).toNat (leNat (slice b 4 8)) s
  | 5, 1 => takeoverIn (leNat (b.take 8)) s
  | 5, 3 => revertIn s
  | 5, 4 => failIn (leNat (b.take 8)) s
  | 6, 0 => s.wr Reg.TWIN_HEALTH_PEER (leNat (b.take 4))
  | _, _ => s

/-- R452: an accepted message is acted on; ROLE and HEALTH messages stand in queue 20 as well. -/
def actOn (ty sub : Nat) (b : List Byte) (s : State) : State :=
  actOnCore ty sub b (if ty = 5 || ty = 6 then toFirmware ty sub b s else s)

/-- R452: the words of queue 21 are messages of the firmware: `ws` are those that follow. -/
def fromFirmware : Nat → List (BitVec 60) → State → State
  | 0, _, s => s
  | _ + 1, [], s => s
  | n + 1, w :: ws, s =>
    let len := getF w.toNat 47 40
    let k := if len ≤ 5 then 0 else (len - 5 + 6) / 7
    let b := (leBytes 5 w.toNat ++ (ws.take k).flatMap (fun x => leBytes 7 x.toNat)).take len
    let ty := getF w.toNat 59 56
    fromFirmware n (ws.drop k) (if twinEn s && (ty == 5 || ty == 6) then enqueue ty (getF w.toNat 55 52) b s else s)

/-- R450: every fragment of a message is held. -/
def wholeMsg (rx : List TwRx) (x : TwRx) : Bool :=
  (List.range (x.last + 1)).all (fun i => rx.any (fun y => y.mseq == x.mseq && y.index == i))

/-- The payload of a message. -/
def msgPayload (rx : List TwRx) (x : TwRx) : List Byte :=
  (List.range (x.last + 1)).flatMap (fun i => match rx.find? (fun y => y.mseq == x.mseq && y.index == i) with
    | some y => y.payload
    | none => [])

/-- R450, R451: the oldest whole message is judged, and acted on if it is accepted. -/
def acceptMsg (s : State) : State :=
  if !hasTwin s then s else
  match s.twin.rx.find? (wholeMsg s.twin.rx) with
  | none => s
  | some x =>
    let p := msgPayload s.twin.rx x
    let body := p.take (p.length - 16)
    let s := s.tw (fun t => { t with rx := t.rx.filter (fun y => y.mseq != x.mseq) })
    if p.length < 16 || p.drop (p.length - 16) ≠ msgMac s x.ty x.sub x.mseq body then
      fire 0x3E 0 (s.count Reg.TWIN_AUTH_CNT 1)
    else if s.twin.mseqSeen.contains x.mseq || x.mseq + 65536 < s.twin.mseqHi then s
    else
      actOn x.ty x.sub body (s.tw (fun t =>
        let hi := Nat.max t.mseqHi x.mseq
        { t with mseqHi := hi, mseqSeen := (x.mseq :: t.mseqSeen).filter (fun m => decide (hi ≤ m + 65536)) }))

/-- COMMIT_VERDICT (R194 to R198, R458). -/
def execCommitVerdict (s : State) : Host.Outcome State Fault Refusal := .next (verdictSlot s)

/-- FRAGMENT_RECEIVE (R448). -/
def execFragmentReceive (bytes : List Byte) (s : State) : Host.Outcome State Fault Refusal := .next (fragmentIn bytes s)

/-- MESSAGE_ACCEPT (R450, R451). -/
def execMessageAccept (s : State) : Host.Outcome State Fault Refusal := .next (acceptMsg s)

/-- COMMIT (R455). -/
def execCommit (s : State) : Host.Outcome State Fault Refusal := .next (forwardCommit s)

/-- COMMIT_ACK (R455). -/
def execCommitAck (s : State) : Host.Outcome State Fault Refusal := .next (ackCommit s)

/-- VERDICT (R456, R457). -/
def execVerdict (s : State) : Host.Outcome State Fault Refusal := .next (sendVerdict s)

/-- BLOCK (R457, R458). -/
def execBlock (s : State) : Host.Outcome State Fault Refusal := .next (sendBlock s)

/-- RECORD_APPLY (R459). -/
def execRecordApply (s : State) : Host.Outcome State Fault Refusal := .next (recordApply s)

/-- RECORD_LATE (R459). -/
def execRecordLate (s : State) : Host.Outcome State Fault Refusal := .next (recordLate s)

/-- REPAIR_REQUEST (R460). -/
def execRepairRequest (block : Nat) (objs : List Nat) (s : State) : Host.Outcome State Fault Refusal := .next (repairRequestIn block objs s)

/-- REPAIR_DATA (R460). -/
def execRepairData (block : Nat) (entries : List (Nat × List Word)) (s : State) : Host.Outcome State Fault Refusal :=
  .next (repairDataIn block entries s)

/-- BULK_SYNC_REQUEST (R468). -/
def execBulkSyncRequest (s : State) : Host.Outcome State Fault Refusal := .next (bulkSync s)

/-- IMAGE (R468). -/
def execImage (addr : Nat) (bytes : List Byte) (s : State) : Host.Outcome State Fault Refusal := .next (imageIn addr bytes s)

/-- END (R468): the image's CRC-32C and length, which no rule makes the receiver judge. -/
def execEndMsg (_crc _len : Nat) (s : State) : Host.Outcome State Fault Refusal := .next (endIn s)

/-- HELLO (R470, R471). -/
def execHello (role state since : Nat) (s : State) : Host.Outcome State Fault Refusal := .next (helloIn role state since s)

/-- TAKEOVER (R462). -/
def execTakeover (x : Nat) (s : State) : Host.Outcome State Fault Refusal := .next (takeoverIn x s)

/-- YIELD (R471): the module that yields stops at `x`. -/
def execYield (x : Nat) (s : State) : Host.Outcome State Fault Refusal := .next (yieldAt x s)

/-- FAIL (R462). -/
def execFail (x : Nat) (s : State) : Host.Outcome State Fault Refusal := .next (failIn x s)

/-- REVERT_REQ (R467). -/
def execRevertReq (s : State) : Host.Outcome State Fault Refusal := .next (revertReq s)

/-- HEALTH (R472, R473). -/
def execHealth (eye0 eye1 : Nat) (s : State) : Host.Outcome State Fault Refusal := .next (healthTick eye0 eye1 s)

end Sys2Proof.Machine
end

