-- ==== Sys2Proof/Machine/Stat.lean ====
section
/-! DEFINITION. Statistics snapshots (R550 to R553) and the trace port (R554 to R556). -/

namespace Sys2Proof.Machine

/-- Change statistics and trace. -/
def State.stt (s : State) (f : Stat → Stat) : State := { s with stat := f s.stat }

/-- R550, R552: a write of STAT_SNAP: a request while BUSY joins the pending snapshot. -/
def snapWrite (v : Word) (s : State) : State :=
  if s.served Reg.STAT_SNAP && bitOf v.toNat 0 then
    s.stt (fun t => { t with snapArmed := true, snapClear := (t.snapArmed && t.snapClear) || bitOf v.toNat 1 })
  else s

/-- The bits of a register's RC fields. -/
def rcMask (off : Nat) : Nat := maskOf off (fun f => f.acc == .rc)

/-- R550: the RC fields of a live register become 0. -/
def clearRC (s : State) (off : Nat) : State := s.wr off (s.rd off - (s.rd off &&& rcMask off))

/-- The registers whose RC field does not reset to 0: a clear must write them although no value of theirs is held. -/
def rcHeld : List Nat := (List.range 32).map Reg.COND_DET_MAX

/-- R550, R551: at boundary `x`, before its own counts, each RC register is latched, and cleared if the request asked for it. -/
def snapBoundary (x : Nat) (s : State) : State :=
  if s.stat.snapArmed && !s.stat.latched then
    let rc := s.regs.filter (fun p => hasRC p.1 && present s.variant p.1)
    let s := s.stt (fun t => { t with latched := true, taken := true, snapAt := x, shadow := rc })
    if s.stat.snapClear then rcHeld.foldl clearRC (rc.foldl (fun s p => clearRC s p.1) s) else s
  else s

/-- R552: every domain has latched. -/
def snapDone (s : State) : State :=
  if s.stat.snapArmed && s.stat.latched then
    let s := s.stt (fun t => { t with snapArmed := false, snapClear := false, latched := false })
    fire 0x4C 0 ((s.wr64 Reg.STAT_SNAP_BN_LO s.stat.snapAt).count Reg.STAT_SNAP_CNT 1)
  else s

/-- R553: the shadow of the register at an offset. -/
def shdWord (s : State) (off : Nat) : Word :=
  if s.stat.snapArmed || !s.stat.taken || !hasRC off || !present s.variant off then 0 else Tab.get resetWord s.stat.shadow off

/-- R553: a read of STAT_SHD_DATA. -/
def shdRead (s : State) : State :=
  if s.served Reg.STAT_SHD_DATA then
    let a := s.rd Reg.STAT_SHD_ADDR
    (s.wr Reg.STAT_SHD_ADDR ((a + 4) % 2 ^ 24)).answer (shdWord s a)
  else s.answer 0

/-- R510, R554: trace is selected and allowed. -/
def traceOn (s : State) : Bool := s.coreOn && s.bget Reg.DBG_TRACE_CTL 31 && s.level == 2

/-- R555: the Scribe cores that are traced. -/
def tracedCores (s : State) : List Nat := (List.range 4).filter (fun c => s.bget Reg.DBG_TRACE_CTL c)

/-- Bytes that wait in the trace buffer. -/
def traceBytes (t : Stat) : Nat := t.traceBuf.foldl (fun n p => n + p.length) 0

/-- R555: a header byte. -/
def traceHead (ty core : Nat) : Byte := BitVec.ofNat 8 (ty * 16 + core * 4)

/-- R556: a packet waits in the 4 KiB buffer, or is lost whole. -/
def tracePut (p : List Byte) (s : State) : State :=
  s.stt (fun t => if traceBytes t + p.length ≤ 4096 then { t with traceBuf := t.traceBuf ++ [p], traceCount := t.traceCount + 1 }
                  else { t with traceLost := t.traceLost + 1 })

/-- Free bytes, one for each asked. -/
def freeBytes : Nat → State → List Byte × State
  | 0, s => ([], s)
  | n + 1, s => let r := s.freeW; let t := freeBytes n r.2; (BitVec.ofNat 8 r.1.toNat :: t.1, t.2)

/-- R555: one SYNC packet for each traced core. The PCs are those of the Scribe cores, which the model draws (log entry 20). -/
def traceSyncs (s : State) : State :=
  (tracedCores s).foldl (fun s c => let r := freeBytes 5 s; tracePut (traceHead 1 c :: r.1) r.2) s

/-- R555: packets go to the buffer, and SYNC follows when a 4,096th is among them, whatever its type. -/
def synced (f : State → State) (s : State) : State :=
  if (f s).stat.traceCount / 4096 ≠ s.stat.traceCount / 4096 then traceSyncs (f s) else f s

/-- R555: SYNC for each traced core. -/
def traceSync (s : State) : State := synced traceSyncs s

/-- R555: a packet, and SYNC after every 4,096. -/
def traceAdd (p : List Byte) (s : State) : State := synced (tracePut p) s

/-- R555: a TIME packet at each boundary. -/
def traceTime (s : State) : State :=
  if traceOn s then traceAdd (traceHead 4 0 :: leBytes 4 s.bn ++ leBytes 3 s.sched.cycle) s else s

/-- R555, R556: a write of DBG_TRACE_CTL, while it is not locked. -/
def traceCtlWrite (v : Word) (s : State) : State :=
  if s.served Reg.DBG_TRACE_CTL && !rwlLocked s then
    let was := s.bget Reg.DBG_TRACE_CTL 31
    let s := s.wr Reg.DBG_TRACE_CTL (v.toNat &&& 0x8000000F)
    if bitOf v.toNat 31 then (if was || !traceOn s then s else traceSync s) else traceStop s
  else s

/-- R556: space has freed: OVERFLOW, then SYNC for every traced core. -/
def traceRecover (s : State) : State :=
  if s.stat.traceLost ≠ 0 && traceBytes s.stat + 3 ≤ 4096 then
    traceSync (tracePut (traceHead 5 0 :: leBytes 2 (Nat.min s.stat.traceLost 65535)) (s.stt (fun t => { t with traceLost := 0 })))
  else s

/-- R555: `n` FLOW or TRAP packets of a core outside the model, as free values decide (log entry 175). -/
def flowPackets : Nat → Nat → State → State
  | 0, _, s => s
  | n + 1, core, s =>
    let k := s.freeW
    let ty := if bitOf k.1.toNat 0 then 2 else 3
    let r := freeBytes (if ty = 2 then 7 else 6) k.2
    flowPackets n core (traceAdd (traceHead ty core :: r.1) r.2)

/-- R555: what a traced Scribe core has branched and trapped since the port's last packet: a free number of packets up to 4, and at
least the one that the port then sends (log entry 175). -/
def traceFlow (core : Nat) (s : State) : State :=
  if (tracedCores s).contains core then
    let k := s.freeW
    flowPackets (if s.stat.traceBuf.isEmpty then 1 + k.1.toNat % 4 else k.1.toNat % 5) core k.2
  else s

/-- R554: what TRACE_D carries for bytes: the low nibble of each on the rising edge of TRACE_CLK and the high nibble on the falling. -/
def traceD (bs : List Byte) : List (Nat × Nat) := bs.map (fun b => (b.toNat % 16, b.toNat / 16))

/-- R554, R555: the trace port sends the oldest packet of its buffer, or the idle byte; trace that is not allowed discards it. -/
def traceSend (core : Nat) (s : State) : State :=
  if traceOn s then
    let s := traceFlow core s
    match s.stat.traceBuf with
    | [] => s.stt (fun t => { t with traceOut := [0x00] })
    | p :: ps => traceRecover (s.stt (fun t => { t with traceBuf := ps, traceOut := p }))
  else traceStop s

/-- SNAP_REQUEST (R550, R552). -/
def execSnapRequest (_m : Master) (v : Word) (s : State) : Host.Outcome State Fault Refusal := .next (snapWrite v s)

/-- SNAP_DONE (R552). -/
def execSnapDone (s : State) : Host.Outcome State Fault Refusal := .next (snapDone s)

/-- STAT_SHD_DATA_READ (R553). -/
def execStatShdDataRead (_m : Master) (s : State) : Host.Outcome State Fault Refusal := .next (shdRead s)

/-- TRACE_PACKET (R555, R556). -/
def execTracePacket (core : Nat) (s : State) : Host.Outcome State Fault Refusal := .next (traceSend core s)

end Sys2Proof.Machine
end

