-- ==== Sys2Proof/Machine/Deadline.lean ====
section
/-! DEFINITION. The Quill deadline (R34), and what an interval still owes when its boundary comes: work that no command has
brought is brought by the deadline of its unit (log entry 21). -/

namespace Sys2Proof.Machine

/-- R125: Quill-fed objects whose block in ingress has not been submitted whole. -/
def unsubmitted (s : State) : List Nat :=
  if s.bn = 0 then []
  else (s.scene.objs.filter (fun p => p.2.alive && p.2.kind == 4
    && (Tab.get (fun _ => (0 : BitVec 32)) s.scene.submitted p.1).toNat != 2 ^ s.blockLen - 1)).map (fun p => p.1)

/-- R34: the write path fills an object's block with zero words tagged BLOT. -/
def fillBlot (s : State) (o : Nat) : State :=
  (List.range s.blockLen).foldl (fun s i => storeWord (histAddr s.scene.wideR o ((s.bn - 1) * s.blockLen + i)) 0x80 false s) s

/-- R34: the Quill deadline of the interval. -/
def doQuillDeadline (s : State) : State :=
  if s.sched.rendering && !s.sched.quillClosed then
    let s := s.reach (quillDeadline s)
    let late := unsubmitted s
    let s := late.foldl fillBlot { s with sched := { s.sched with quillClosed := true } }
    if late.isEmpty then s else setOverrun 1 { s with sched := { s.sched with finQuill := quillDeadline s / 16 } }
  else s

/-- Free words as one number, 32 bits each. -/
def drawNumber : Nat → State → Nat × State
  | 0, s => (0, s)
  | n + 1, s =>
    let r := s.freeW
    let t := drawNumber n r.2
    (r.1.toNat + t.1 * 2 ^ 32, t.2)

/-- The bits of the delta-sigma inputs of a block whose COND_BLOCK_OUTPUT has not come: the model draws those of the enabled
decimators (log entry 2). -/
def drawBits (s : State) : List Nat × State :=
  (List.range 16).foldl (fun (a : List Nat × State) (d : Nat) =>
    if bitOf (condPrev a.2 (Reg.COND_DEC_CTL d)) 31 then
      let r := drawNumber 64 a.2
      (a.1 ++ [r.1], r.2)
    else (a.1 ++ [0], a.2)) ([], s)

/-- R389, R399, R407, R123: the chain and the write path, where no command has brought them. -/
def owedIngress (s : State) : State :=
  let s := if s.cond.done then s else
    let b := drawBits s
    condBlock b.1 b.2
  let s := (List.range 32).foldl (fun s p => rsBlock p true (rsBlock p false s)) s
  copyNow (detectors s)

/-- R28, R33 to R36, R116: the deadlines of the engines in their order, where they have not finished, and the reductions and the merge
while their slots last. -/
def owedRender (s : State) : State :=
  let s := (List.range 8).foldl (fun s g => doReduce g s) (doNibDeadline [] s)
  let s := doMerge (doRuleDeadline 0 s)
  doQuillDeadline (doOutDeadline 0 s)

/-- R591: firmware pops every word that stands in queues 18, 19 and 20, and in queue 17 while it is that queue's consumer; the
model's firmware does so at each interval's end (log entry 23). -/
def firmwarePops (s : State) : State :=
  if s.booted && s.coreOn then
    [17, 18, 19, 20].foldl (fun s q =>
      if s.qEnabled q && s.fget (Reg.QUEUE_CFG q) 15 8 == 0x40 then popN (s.queue q).items.length q s else s) s
  else s

/-- `n` words popped from queue `q`, those that are valid. -/
def popWords : Nat → Nat → State → List (BitVec 60) × State
  | 0, _, s => ([], s)
  | n + 1, q, s =>
    let r := pop q s
    let rest := popWords n q r.2
    (if r.1 < 2 ^ 60 then BitVec.ofNat 60 r.1 :: rest.1 else rest.1, rest.2)

/-- R452, R591: the twin controller consumes queue 21 and sends the firmware's messages; the model's does so at each interval's end
(log entry 82). -/
def twinPops (s : State) : State :=
  if capLig s.variant && s.coreOn && s.qEnabled 21 then
    let r := popWords (s.queue 21).items.length 21 s
    fromFirmware r.1.length r.1 r.2
  else s

/-- Everything that an interval still owes at its end. -/
def finishInterval (s : State) : State :=
  let s := arriveAll s
  let s := if s.sched.rendering then owedRender (owedIngress s) else s
  let s := handMasks (verdictSlot (doFinalise s))
  imageEnd (twinPops (firmwarePops (writeRepairs (applyPause 1 (applyPause 0 s)))))

/-- QUILL_DEADLINE (R34). -/
def execQuillDeadline (s : State) : Host.Outcome State Fault Refusal := .next (doQuillDeadline s)

end Sys2Proof.Machine
end

