-- ==== Sys2Proof/Machine/Takes.lean ====
section
/-! DEFINITION. What each stage takes of an applied commit, boundary by boundary (R38, R39, R57 to R60, R75, R110, R126, R150 to
R152, R179, R185, R359, R363, R395, R466, R487). -/

namespace Sys2Proof.Machine

/-- R38: the stage, as blocks after the epoch, at which a register's unit takes its values. -/
def regStage (off : Nat) : Nat :=
  match unitOf off with
  | some .rule => 1
  | some .nib => 2
  | some .out => if Reg.OUT_TAP_BASE_LO 0 ≤ off && off < Reg.OUT_MUTE 0 then 3 else 2
  | some .strm => if Reg.STRM_TX_CTL 0 ≤ off then 3 else 0
  | some .tdm => if off % 0x800 = 0xC then 3 else 0
  | _ => 0

/-- R149: a commit of NIB_PARTITION's shadow is a switch of the partition. -/
def Item.asTaken : Item → Item
  | .reg off m v => if off = Reg.NIB_PARTITION then .partition (bitOf v 0) else .reg off m v
  | i => i

/-- R38, R75, R151, R183, R315, R466: the stages of an item. -/
def Item.stages : Item → List Nat
  | .reg off _ _ => [regStage off]
  | .spawn _ _ => [1]
  | .objSet _ _ => [1, 2]
  | .release _ => [1]
  | .spk _ _ => [1, 2]
  | .zone _ _ => [1]
  | .maskSet _ _ => [1]
  | .vbap _ _ => [1]
  | .partition _ => [1, 2]
  | .route _ _ => [2, 3]
  | .handover => [3]
  | .anchor _ => [0]

/-- R39: what the units hold of a commit that applies at boundary `e`. -/
def takesOf (e : Nat) (c : Commit) : List Take :=
  c.items.flatMap (fun i => i.asTaken.stages.map (fun k => ⟨e + k, e, k, i.asTaken⟩))

/-- R60: N′. -/
def releaseLen (blocks n : Nat) : Nat := (blocks + n - 1) / n * n

/-- R110: a change of control rate starts a new group of every object that is not RELEASING. -/
def takeRate (e : Nat) (s : State) : State :=
  let n := 2 ^ s.fget Reg.RULE_CTL 1 0
  if n = s.scene.rate then s
  else
    let s := s.scn (fun c => { c with rate := n, rateAt := e })
    (s.scene.objs.filter (fun p => p.2.st == .live)).foldl (fun s p => s.setXp p.1 { s.xp p.1 with phase := e, n := n }) s

/-- TAPS as the tile of an object uses them. -/
def takeTaps (o code : Nat) (s : State) : State :=
  s.scn (fun c => { c with tapsN := Tab.put (fun _ => 1) c.tapsN o code })

/-- R57, R59, R126: an ARMED object goes live; its TAPS are those of the record it goes live with, for block E is the first that
its tile renders. ARM_BN keeps the epoch at which the spawn applied (R56 is silent; DESIGN CHOICE, log entry 141). -/
def takeSpawn (e o : Nat) (s : State) : State :=
  if (s.obj o).st = .armed then
    let s := takeTaps o ((s.obj o).field 0 9 8) s
    let s := (s.setObj o { s.obj o with st := .live }).setXp o { s.xp o with phase := e, n := s.scene.rate, fresh := true }
    s.scn (fun c => { c with floors := Tab.put (fun _ => c.floorAll) c.floors o e, clearing := c.clearing.filter (fun p => p != o) })
  else s

/-- R57, R60: a LIVE object begins its release. -/
def takeRelease (e o : Nat) (s : State) : State :=
  let x := s.obj o
  if x.st = .live then
    let n := s.scene.rate
    (s.setObj o { x with st := .releasing, relF := e, relN := releaseLen (x.field 4 31 16) n, relRate := n }).setXp o
      { s.xp o with phase := e, n := n }
  else s

/-- R151: every record of every tile is inactive and every SETSEL bit 0. -/
def clearRecords (s : State) : State :=
  (List.range 64).foldl (fun s t => s.wr (Reg.NIB_TILE_SETSEL t) 0) (clearRecordBanks s)

/-- R126, R151, R152: the tiles take a switch of the partition of epoch `e`. -/
def switchTiles (e : Nat) (wide : Bool) (s : State) : State :=
  let s := clearRecords (s.bset Reg.NIB_PARTITION 0 wide)
  s.scn (fun c => { c with wideN := wide, floorAll := e, floors := [], xp := [], clearing := [], flips := [], xpWrites := []
                           mutes := c.mutes.filter (fun m => decide (e < m.2)) ++ [(e, e + winLen wide / s.blockLen)] })

/-- R466: the handover at boundary E + 3. -/
def takeHandover (s : State) : State :=
  if transmits s then
    if peerStands s then twinGo 2 s else s.count Reg.TWIN_HANDOVER_FAIL_CNT 1
  else if s.twin.st = 2 then twinGo (txState s) s
  else s.count Reg.TWIN_HANDOVER_FAIL_CNT 1

/-- A register's RWE fields take their values, with what follows from them at once (R179, R185, R487). -/
def takeReg (e off m v : Nat) (s : State) : State :=
  let old := s.rd off
  let new := old - (old &&& m) + (v &&& m)
  let s := s.wr off new
  if off = Reg.RULE_CTL then takeRate e s
  else if off = Reg.PWR_CLK then s.bset Reg.GLB_RENDER_CFG 1 (bitOf new 0)
  else if Reg.OUT_MUTE 0 ≤ off && off < Reg.OUT_MUTE 1024 then startFade ((off - Reg.OUT_MUTE 0) / 4) (bitOf new 8) (getF new 7 0) s
  else if Reg.OUT_TAP_BASE_LO 0 ≤ off && off < Reg.OUT_TAP_BASE_LO 16 && new ≠ old then
    s.wr (Reg.OUT_TAP_WPTR ((off - Reg.OUT_TAP_BASE_LO 0) / 32)) 0
  else s

/-- One stage takes one item. An OBJ_SET that is still pending when its object has become FREE does nothing, and one whose
object has been spawned again lies over the new record (R58 is silent; DESIGN CHOICE, log entry 143). -/
def takeItem (k : Take) (s : State) : State :=
  match k.item with
  | .reg off m v => takeReg k.epoch off m v s
  | .spawn o _ => takeSpawn k.epoch o s
  | .objSet o sets =>
    if k.stage = 1 then
      let x := s.obj o
      if x.st = .free then s else s.setObj o { x with words := layOver sets x.words }
    else match Tab.find sets 0 with
      | some w => takeTaps o (getF w.toNat 9 8) s
      | none => s
  | .release o => takeRelease k.epoch o s
  | .spk n ws =>
    if k.stage = 1 then s.scn (fun c => mendRow (.spk n) { c with spkR := Tab.put (fun _ => Spk.reset) c.spkR n ⟨ws⟩ })
    else s.scn (fun c => { c with spkO := Tab.put (fun _ => Spk.reset) c.spkO n ⟨ws⟩ })
  | .zone n ws =>
    let t := sgn 16 (nth 0 ws 0).toNat
    let z : Zone := ⟨t, (nth 0 ws 1).toNat, Fx.spm s.fs t⟩
    s.scn (fun c => mendRow (.zone n) { c with zones := Tab.put (fun _ => Zone.reset) c.zones n z })
  | .maskSet n b => s.scn (fun c => mendRow (.mask n) { c with masks := Tab.put (fun _ => BitVec.allOnes 1024) c.masks n b })
  | .vbap n ws => s.scn (fun c => mendRow (.vbap n) { c with vbap := Tab.put (fun _ => List.replicate 12 0) c.vbap n ws })
  | .partition w =>
    if k.stage = 1 then s.scn (fun c => { c with wideR := w })
    else if w = s.scene.wideN then s else switchTiles k.epoch w s
  | .route n e =>
    if k.stage = 2 then { s with out := { s.out with routes := Tab.put (fun _ => (0 : BitVec 64)) s.out.routes n e } }
    else { s with out := { s.out with routesEg := Tab.put (fun _ => (0 : BitVec 64)) s.out.routesEg n e } }
  | .handover => takeHandover s
  | .anchor o => { s with time := { s.time with o := o } }

/-- The order of an item within the takes of boundary E + 1: the control rate first, then fields, then the objects that go live,
then the releases, which so meet what their epoch gives (R58, R60). -/
def Item.rank : Item → Nat
  | .reg off _ _ => if off = Reg.RULE_CTL then 0 else 1
  | .spawn _ _ => 2
  | .release _ => 3
  | _ => 1

/-- Two takes of one boundary and stage take one field. -/
def Take.same (j k : Take) : Bool := j.bn == k.bn && j.stage == k.stage && j.item.same k.item

/-- R189, R197: hold one more take: of one field at one boundary and stage only the last value is taken. -/
def addTake (ks : List Take) (k : Take) : List Take :=
  match ks.find? (fun j => j.same k) with
  | some j => ks.filter (fun i => !i.same k) ++ [{ k with item := j.item.over k.item }]
  | none => ks ++ [k]

/-- R60: takes of a boundary in the order in which they are made: later stages first. -/
def takeOrder (ks : List Take) : List Take :=
  let at' (n : Nat) : List Take := ks.filter (fun k => k.stage == n)
  at' 3 ++ at' 2 ++ (List.range 4).flatMap (fun r => (at' 1).filter (fun k => k.item.rank == r)) ++ at' 0

/-- Offsets of the registers that a list of takes writes. -/
def takenRegs (ks : List Take) : List Nat := ks.flatMap (fun k => match k.item with | .reg off _ _ => [off] | _ => [])

/-- R359: receive entries that the takes of boundary `x` start, restart or stop; `s0` is the state before them. -/
def rxTouched (offs : List Nat) (s0 s : State) : List Nat :=
  let mine := offs.filter (fun o => decide (Reg.STRM_RX_CTL 0 ≤ o) && decide (o < Reg.STRM_RX_CTL 1024))
  let hit (o : Nat) : Bool :=
    let n := (o - Reg.STRM_RX_CTL 0) / 32
    let r := (o - Reg.STRM_RX_CTL 0) % 32
    if rxLive s0 n then (r == 0 || r == 4 || r == 8 || r == 0x1C) && s0.rd o != s.rd o else r == 0
  (mine.filter hit).foldl (fun l o => insNat l ((o - Reg.STRM_RX_CTL 0) / 32)) []

/-- R360, R363: transmit entries that the takes start or stop. -/
def txTouched (offs : List Nat) (s0 s : State) : List Nat :=
  let mine := offs.filter (fun o => decide (Reg.STRM_TX_CTL 0 ≤ o) && decide (o < Reg.STRM_TX_CTL 1024))
  let hit (o : Nat) : Bool :=
    let n := (o - Reg.STRM_TX_CTL 0) / 32
    let r := (o - Reg.STRM_TX_CTL 0) % 32
    if txLive s0 n then r == 0 && !s.bget (Reg.STRM_TX_CTL n) 31 else r == 0
  (mine.filter hit).foldl (fun l o => insNat l ((o - Reg.STRM_TX_CTL 0) / 32)) []

/-- R360: a change of FRAMES of a live entry: packets are cut anew from the block of the change on. -/
def txReframe (x : Nat) (s0 : State) (s : State) (n : Nat) : State :=
  let f := s.fget (Reg.STRM_TX_PKT n) 24 16
  if txLive s0 n && txLive s n && f ≠ s0.fget (Reg.STRM_TX_PKT n) 24 16 && f ≠ 0 then
    s.setStx n { s.stx n with first := (x * s.blockLen + f - 1) / f * f, frames := [] }
  else s

/-- R395: decimators that boundary resets. -/
def decResets (s0 s : State) : List Nat :=
  (List.range 16).filter (fun d =>
    (s0.rd (Reg.COND_DEC_CTL d) &&& 0x8003010F) != (s.rd (Reg.COND_DEC_CTL d) &&& 0x8003010F)
      || s0.rd Reg.COND_DS_CLK != s.rd Reg.COND_DS_CLK || s.bget Reg.COND_SYNC_DEC d)

/-- R401: the groups of one direction that have a channel among `bits` are reset. -/
def syncGroups (tx : Bool) (bits : Nat) (s : State) : State :=
  if bits = 0 then s else
  (List.range 32).foldl (fun s p =>
    if tdmOn s p && tdmMode s p == 2 && (rsChannels s p tx).any (fun x => bitOf bits x.2) then resetGroup p tx s else s) s

/-- R38, R395, R401: COND_SYNC_RS resets transmit groups, and marks receive groups, whose block before it is computed in the
interval that begins; both registers act once. -/
def syncResets (s : State) : State :=
  let bits := s.rd64 Reg.COND_SYNC_RS_LO
  let s := syncGroups true bits (syncGroups false s.cond.syncNow s)
  let s := { s with cond := { s.cond with syncNow := bits } }
  (s.wr64 Reg.COND_SYNC_RS_LO 0).wr Reg.COND_SYNC_DEC 0

/-- The register lies among the live COND registers. -/
def condLive (off : Nat) : Bool := decide (0x120000 ≤ off) && decide (off < 0x128000)

/-- R38, R39: every unit takes what is due at boundary `x`. While render is halted no stream entry goes live (R483, step 4): a
register whose stage comes after the halt only takes its value (DESIGN CHOICE, log entry 180). -/
def takeDue (x : Nat) (s0 : State) : State :=
  let ks := takeOrder (s0.sched.takes.filter (fun k => decide (k.bn ≤ x)))
  let s := { s0 with sched := { s0.sched with takes := s0.sched.takes.filter (fun k => decide (x < k.bn)) } }
  let s := ks.foldl (fun s k => takeItem k s) s
  let offs := takenRegs ks
  let s := if s.sched.rendering then
      (txTouched offs s0 s).foldl (fun s n => txRestart n x s) ((rxTouched offs s0 s).foldl (fun s n => rxRestart n x s) s)
    else s
  let s := ((offs.filter (fun o => decide (Reg.STRM_TX_PKT 0 ≤ o) && o % 32 == 4 && decide (o < Reg.STRM_TX_CTL 1024))).map
    (fun o => (o - Reg.STRM_TX_CTL 0) / 32)).foldl (txReframe x s0) s
  let s := { s with cond := { s.cond with prev := s0.regs.filter (fun p => condLive p.1), resetPrev := s.cond.resetNow, resetNow := decResets s0 s } }
  syncResets s

end Sys2Proof.Machine
end

