-- ==== Sys2Proof/Machine/Boundary.lean ====
section
/-! DEFINITION. The boundary (R42 to R47, R133, R174, R185, R456, R457, R531) and the sample edge (R308): commits apply, stages
take, sets and halves swap, held items execute, render starts and halts. -/

namespace Sys2Proof.Machine

/-- R195: forget the objects that a commit would have spawned. -/
def unspawn (c : Commit) (s : State) : State :=
  c.items.foldl (fun s i => match i with
    | .spawn o _ => if (s.obj o).st = .armed && (s.obj o).armCid = c.cid then freeObj o s else s
    | _ => s) s

/-- A commit leaves the list of pending ones. -/
def dropCommit (c : Commit) (s : State) : State :=
  s.setCommits (s.sched.commits.filter (fun d => !(d.cid == c.cid && d.peer == c.peer)))

/-- R38, R39, R203: a commit applies at boundary `x`: every stage holds what it takes. -/
def applyCommit (x : Nat) (c : Commit) (s : State) : State :=
  let s := dropCommit c s
  let s := { s with sched := { s.sched with takes := (takesOf x c).foldl addTake s.sched.takes } }
  (s.wr64 Reg.GLB_COMMIT_LAST_LO x).count Reg.GLB_COMMIT_APPLY_CNT 1

/-- R195: the participants that have not armed for a commit. -/
def unarmedOf (s : State) (c : Commit) : Nat := lower allParts (armedBy s c)

/-- R194, R197: the module's own commits due at boundary `x`, in sealing order; one that has no GO defers. -/
def ownCommits (x : Nat) (s : State) : State :=
  (dueCommits x s).foldl (fun s c => if goesAt x c s then applyCommit x c s else deferCommit x (unarmedOf s c) c s) s

/-- R456: one entry of the partner's VERDICT. -/
def peerEntry (x : Nat) (s : State) (e : Nat × Nat) : State :=
  match s.sched.commits.find? (fun c => c.peer && c.cid == e.1) with
  | none => s
  | some c => if e.2 = 0 then applyCommit x c s else if e.2 = 1 then deferCommit x (unarmedOf s c) c s else failCommit c s

/-- R202, R456: the partner's VERDICT for boundary `x`; a STANDBY module that has none, or one without the verdict for a commit
that it holds for `x`, applies nothing and goes STALE. A module that does not follow its partner discards forwarded commits whose
target has come, with no count and no event, and their shadows keep the latest value (R202 is silent; DESIGN CHOICE, log entry
181). At the boundary at which this module halts its render no commit applies, whatever the partner's verdict (R483). -/
def peerCommits (x : Nat) (s : State) : State :=
  if s.sched.quietAt = some x then s
  else if followsPeer s then
    match s.twin.verdicts.find? (fun v => v.bn == x) with
    | some v =>
      if s.twin.st = 2 && s.sched.commits.any (fun c => c.peer && c.target == x && !v.outs.any (fun o => o.1 == c.cid)) then twinGo 3 s
      else v.outs.foldl (peerEntry x) s
    | none => if s.twin.st = 2 && s.sched.rendering then twinGo 3 s else s
  else (s.sched.commits.filter (fun c => c.peer && decide (c.target ≤ x))).foldl (fun s c => dropCommit c (unspawn c s)) s

/-- R457: a released item executes. -/
def runHeld (follow : Bool) (s : State) (h : TwHeld) : State :=
  let s := (s.wr Reg.TWIN_CSEQ h.cseq).tw (fun t => { t with nextCseq := Nat.max t.nextCseq (h.cseq + 1) })
  if h.kind = 1 then pushBy (Master.key .host) h.q (BitVec.ofNat 60 ((nth 0 h.words 0).toNat + (nth 0 h.words 1).toNat * 2 ^ 32)) s
  else
    let op := nth 0 h.words 0
    let args := h.words.drop 1
    if op = 0x14 then (trajPush args s).st
    else if op = 0x15 then (trajFlush args s).st
    else if op = 0x22 then (rccClear args s).st
    else if op = 0x21 then
      let s := if follow then fabBytes (addrOf args 1) (wordBytes (args.drop 3)) s else s
      let r := (rccLoad h.q h.tag (args.take 3) s).st
      { r with hif := { r.hif with waitingCmds := s.hif.waitingCmds } }
    else s

/-- R457: the items released for boundary `x`, in CSEQ order, those of a partner marked; they leave the lists. -/
def releasedAt (x : Nat) (s : State) : List (Bool × TwHeld) × State :=
  let own := (s.twin.released.filter (fun p => decide (p.1 ≤ x))).map (fun p => p.2)
  let rel := match s.twin.verdicts.find? (fun v => v.bn == x) with
    | some v => if follower s then v.rel else 0
    | none => 0
  let theirs := if follower s then s.twin.heldItems.filter (fun h => decide (h.cseq ≤ rel)) else []
  (own.map (fun h => (false, h)) ++ theirs.map (fun h => (true, h)),
    s.tw (fun t => { t with released := t.released.filter (fun p => decide (x < p.1))
                            heldItems := t.heldItems.filter (fun h => !theirs.contains h)
                            verdicts := t.verdicts.filter (fun v => decide (x < v.bn)) }))

/-- R457: both modules execute released items. -/
def runReleased (hs : List (Bool × TwHeld)) (s : State) : State := hs.foldl (fun s h => runHeld h.1 s h.2) s

/-- R64: trajectory commands take effect, in the order in which they completed. A flush empties the queue from its tail, so
SEG_HEAD stays where it is (R63 is silent; DESIGN CHOICE, log entry 142). A command that waits while its object's spawn fails and the
object is spawned again acts on the new life (R64 is silent; DESIGN CHOICE, log entry 182). -/
def takeTraj (s : State) : State :=
  let s' := s.scn (fun c => { c with trajOps := [] })
  s.scene.trajOps.foldl (fun s t =>
    let x := s.obj t.obj
    if x.st = .free then s
    else match t.seg with
      | some g => s.setObj t.obj { x with segs := x.segs ++ [g] }
      | none => s.setObj t.obj { x with segs := [], hold := x.lastPos.getD x.hold }) s'

/-- R53, R66: what the interval's evaluation left of an object's queue and held position shows. -/
def showAfter (p : Nat × Obj) : Nat × Obj :=
  match p.2.after with
  | some (h, g, k) => (p.1, { p.2 with hold := h, segs := g, segHead := k, after := none })
  | none => p

/-- R60: the boundary at which a RELEASING object is FREE. -/
def Obj.fadeEnd (x : Obj) : Nat := x.relF + x.relN + 1

/-- R57, R83: a faded object becomes FREE; the next pass makes its records inactive. -/
def endFade (s : State) (o : Nat) : State :=
  if (s.obj o).st = .releasing && (s.obj o).fadeEnd ≤ s.bn then
    (freeObj o s).scn (fun c => { c with clearing := insNat c.clearing o, trajOps := c.trajOps.filter (fun t => t.obj != o) })
  else s

/-- R133: the tile flips an object's SETSEL bit and renders from the group just computed. -/
def flipSet (s : State) (o : Nat) : State :=
  let wide := s.scene.wideN
  let b := o % perBank wide
  let a := Reg.NIB_TILE_SETSEL (tileOf wide o)
  let x := s.xp o
  (s.bset a b (!s.bget a b)).setXp o { x with nibStart := x.curStart, nibLen := x.curLen, maskN := x.mask }

/-- R28, R53, R57, R133: cycle 0 in the scene: evaluated positions show, faded objects are FREE, record sets swap. -/
def swapScene (s : State) : State :=
  let s := flushXp true s
  let s := s.scn (fun c => { c with objs := c.objs.map showAfter })
  let s := s.scene.flips.foldl flipSet s
  let s := s.scn (fun c => { c with flips := [], stuck := c.stuckNext, stuckNext := [] })
  (s.scene.objs.map (fun p => p.1)).foldl endFade s

/-- R46, R47, R144, R153, R170, R187, R235: the registers that report the interval that has ended; `was` tells that it rendered. -/
def reportInterval (was : Bool) (s : State) : State :=
  let d := s.sched
  let v (n : Nat) : Nat := if was then n else 0
  let s := (((s.finish Reg.GLB_FINISH_RULE (v d.finRule)).finish Reg.GLB_FINISH_QUILL (v d.finQuill)).finish Reg.GLB_FINISH_NIB
    (v d.finNib)).finish Reg.GLB_FINISH_OUT (v d.finOut)
  let s := (List.range (capTiles s.variant)).foldl (fun s t =>
    ((s.wr (Reg.NIB_TILE_XP t) (v (Tab.get (fun _ => 0) s.scene.tileXp t))).finish (Reg.NIB_TILE_FINISH t)
      (v (Tab.get (fun _ => 0) s.scene.tileFin t))).finish (Reg.QCORE_SUBMIT t) (v (s.core t).submit)) s
  let s := s.wr Reg.NIB_SAT_OUT (match s.scene.satOut with | some o => 2 ^ 31 + o | none => 0)
  (s.fset Reg.RCC_STATUS 10 0 s.out.xfades).wr Reg.RCC_MACS s.out.macs

/-- R42 to R44: the copies of BN in the other domains; a copy that is not the one before plus one is a skew. -/
def copyBN (x : Nat) (s : State) : State :=
  let d := s.sched
  let n := ([d.bn, d.bnPtp, d.bnDram, d.bnAon].filter (fun y => y + 1 != x)).length
  let s := { s with sched := { d with bn := x, bnMedia := x, bnPtp := x, bnDram := x, bnAon := x } }
  (List.range n).foldl (fun s _ => fire 0x01 0 (s.count Reg.GLB_BN_SKEW_CNT 1)) s

/-- A port's marks at a boundary: its ring events may fire again. -/
def netBoundary (s : State) : State :=
  { s with net := s.net.map (fun (p : Nat × NetSt) => (p.1, { p.2 with ringEv := [] })) }

/-- A TDM port's marks: its frame counts at the boundary (R399). -/
def tdmMark (p : Nat × TdmSt) : Nat × TdmSt := (p.1, { p.2 with rxBnd := p.2.rxCount, txBnd := p.2.txCount })

/-- A new interval begins: cycle 0, nothing done yet, and the work of the block in render starts empty. -/
def freshInterval (was : Bool) (s : State) : State :=
  { s with
      sched := { s.sched with cycle := 0, copyDone := false, ruleDone := false, mergeDone := false, quillClosed := false, nibClosed := false
                              outClosed := false, verdictDone := false, overrun := false, finRule := 0, finQuill := 0, finNib := 0
                              finOut := 0, parityBlock := false }
      scene := { s.scene with parts := [], ys := [], tileDone := [], tileXp := [], tileFin := [], sumDone := 0, satOut := none
                              bistBlock := [], submitted := [] }
      out := { s.out with done := 0, ceilZone := none, rccParity := none, xfades := 0, macs := 0 }
      cores := s.cores.map (fun (p : Nat × QCore) => (p.1, { p.2 with submit := 0 }))
      time := { s.time with oPrev := s.time.o }
      strm := { s.strm with done := false }
      ddr := s.ddr.map (fun (p : Nat × DdrSt) => (p.1, { p.2 with ueBlock := false }))
      cond := { s.cond with handed := false, done := false, judged := false, ports := s.cond.ports.map tdmMark
                            groups := s.cond.groups.map (fun (p : Nat × RsGroup) => (p.1, { p.2 with done := false })) }
      twin := { s.twin with outDone := was, hbDone := false, outcomes := [], laneOut := [], lane66 := [], repairSent := 0
                            floating := false, sel := decide (s.twin.st ≤ 1) && s.twin.st != 5 } }

/-- R433: the pause of a delay load has ended. -/
def endPauses (s : State) : State :=
  (List.range 2).foldl (fun s c => if s.bget (Reg.DDR_STATUS c) 26 then s.bset (Reg.DDR_STATUS c) 26 false else s) s

/-- R468: the register values of an image become live: RW fields are stored, RWE fields are taken, and shadows follow. ROLE
stays while EN = 1; the control rate and the partition come with the scene of the image. -/
def imageLive (x : Nat) (s : State) : State :=
  let one (s : State) (p : Nat × Word) : State :=
    let m := maskOf p.1 imaged - (if p.1 = Reg.TWIN_CFG then 2 ^ 31 else 0)
    let s := if hasRWE p.1 then s.wr (shadowOf p.1) (p.2.toNat &&& rweMask p.1) else s
    if p.1 = Reg.RULE_CTL then (s.wr p.1 (p.2.toNat &&& m)).scn (fun c => { c with rate := 2 ^ (p.2.toNat % 4) })
    else if p.1 = Reg.NIB_PARTITION then
      (s.wr p.1 (p.2.toNat &&& m)).scn (fun c => { c with wideR := bitOf p.2.toNat 0, wideN := bitOf p.2.toNat 0 })
    else { s with sched := { s.sched with takes := addTake s.sched.takes ⟨x, x, regStage p.1, .reg p.1 m p.2.toNat⟩ } }
  s.twin.imageRegs.foldl one (s.tw (fun t => { t with imageRegs := [] }))

/-- R470: STALE at enable: HELLO in each block, and the wait for the partner. -/
def staleAtEnable (s : State) : State :=
  twinGo 3 (s.tw (fun t => { t with hello := true, waiting := 2, waitAt := s.sched.up, peerFrames := false }))

/-- R445: a change of twin state that falls due at this boundary. -/
def twinDueOne (x : Nat) (s : State) (code : Nat) : State :=
  let st := s.twin.st
  match code with
  | 0 => releaseItems x s.twin.heldItems (twinGo 0 (s.tw (fun t => { t with hello := false, waiting := 0 })))
  | 1 => if st = 0 && twinEn s then staleAtEnable s else s
  | 2 => if st = 3 then twinGo (txState s) s else s
  | 3 => if transmits s && twinEn s then twinGo 3 s else s
  | 4 => if st = 5 then s else enterFault s
  | 5 => if st = 5 then twinGo 3 s else s
  | 6 => if st = 4 then twinGo 2 s else s
  | 7 => if st = 4 then imageLive x s else s
  | 8 => if st = 2 || st = 3 then takeOver true s else s
  | _ => if st = 2 then takeOver false s else if st = 3 then takeOver true s else s

/-- R445: the changes due at boundary `x`. -/
def twinDue (x : Nat) (s : State) : State :=
  let due := (s.twin.due.filter (fun d => decide (d.1 ≤ x))).map (fun d => d.2)
  due.foldl (twinDueOne x) (s.tw (fun t => { t with due := t.due.filter (fun d => decide (x < d.1)) }))

/-- R460, R470: what the twin controller sends at a boundary. -/
def twinSends (s : State) : State :=
  let s := serveRepairs s.twin.repairs.length s
  let s := if s.twin.hello && s.twin.st == 3 && linkUp s then sendHello s else s
  flushTx s.twin.txq.length s

/-- R468: stream entries whose image came while render was halted go live with the start (log entry 180). -/
def imageStreams (x : Nat) (s : State) : State :=
  (List.range 1024).foldl (fun s n =>
    let s := if s.bget (Reg.STRM_RX_CTL n) 31 then rxRestart n x s else s
    if s.bget (Reg.STRM_TX_CTL n) 31 then txRestart n x s else s) s

/-- R182, R272, R531: render starts at boundary `x`. -/
def startRender (x : Nat) (s : State) : State :=
  let s := { s with sched := { s.sched with rendering := true, startAt := none }
                    strm := { s.strm with spillBase := s.rd64 Reg.STRM_SPILL_BASE_LO }
                    cond := { s.cond with outBase := s.fget Reg.COND_OUT_RING 20 0, from' := x, resetNow := List.range 16 }
                    scene := { s.scene with rate := 2 ^ s.fget Reg.RULE_CTL 1 0, rateAt := x } }
  let s := clearBank 287 0x107D80000 0x107DC0000 s
  outStart x (if s.twin.st = 4 then imageStreams x s else s)

/-- R483, R531: render halts or starts at boundary `x`. -/
def haltOrStart (x : Nat) (s : State) : State :=
  let s := match s.sched.quietAt with
    | some q => if q ≤ x then quietNow s else s
    | none => s
  match s.sched.startAt with
  | some y => if y ≤ x && !s.sched.rendering then startRender x s else s
  | none => s

/-- R174, R185, R360: what the output side does at cycle 0 of an interval that renders. -/
def cycleZero (s : State) : State :=
  if s.sched.rendering then
    let s := limBoundary s
    if 3 ≤ s.bn then ((List.range 1024).filter (txLive s)).foldl (fun s n => gatherTx n s) (tapBlock (s.bn - 3) s) else s
  else s

/-- R320: a change of MODE takes effect at the boundary. -/
def wclkBoundary (s : State) : State :=
  let mode := s.fget Reg.CLK_WCLK_OUT 1 0
  let high := mode == 1 || (mode == 2 && decide (s.time.mst % s.blockLen < s.blockLen / 2))
  { s with time := { s.time with wclkMode := mode, wclkOut := high } }

/-- R53: the fields that the module maintains read as they stand at the boundary. -/
def seeScene (s : State) : State := s.scn (fun c => { c with seen := c.objs })

/-- R547: HOLDOFF counts boundaries since the last message of each vector. -/
def msixBoundary (s : State) : State :=
  { s with hif := { s.hif with msixSent := s.hif.msixSent.map (fun p => (p.1, Nat.min 255 (p.2 + 1))) } }

/-- R43: everything that happens at a boundary. -/
def boundary (s : State) : State :=
  let s := finishInterval s
  let was := s.sched.rendering
  let x := s.sched.bnMedia + 1
  let s := snapBoundary x s
  let s := freshInterval was (copyBN x (reportInterval was s))
  let s := swapScene (endPauses (msixBoundary (netBoundary s)))
  let s := dropHolding x (withdrawMasks x (peerCommits x (ownCommits x s)))
  let before := releasedAt x s
  let after := releasedAt x (twinDue x before.2)
  let s := haltOrStart x (takeDue x after.2)
  let s := takeTraj (runReleased (before.1 ++ after.1) s)
  let s := twinSends (fillWaiting (cycleZero s))
  seeScene (traceTime (anchorBoundary was (wclkBoundary s)))

/-- R42: MST has reached the next multiple of B. -/
def boundaryDue (s : State) : Bool := s.mediaRun && s.time.mst == (s.sched.bnMedia + 1) * s.blockLen

/-- BOUNDARY_PULSE (R20, R21, R40): every stage hands its block to the next. -/
def doBoundary (s : State) : State := if boundaryDue s then boundary s else s

/-- R308: a sample edge, at the rate that the media clock's loop gives: `dev` sixteenths of a ppb off nominal (log entry 25). -/
def doEdge (dev : Int) (s : State) : State :=
  if s.mediaRun then
    let s := doUnlock (doLock (doBoundary s))
    edge dev (if s.time.first then s else (List.range 32).foldl (fun s p => tdmEdge s.time.mst s p) s)
  else s

/-- R152: the mutes of switches whose last muted block has been rendered end. -/
def endMute (s : State) : State :=
  s.scn (fun c => { c with mutes := c.mutes.filter (fun m => decide (s.bn < m.2 + 2)) })

/-- BOUNDARY_PULSE (R43). -/
def execBoundaryPulse (s : State) : Host.Outcome State Fault Refusal := .next (doBoundary s)

/-- RELEASE_FADE_COMPLETE (R60): the boundary brings it too (log entry 22). -/
def execReleaseFadeComplete (obj : Nat) (s : State) : Host.Outcome State Fault Refusal := .next (endFade s obj)

/-- PARTITION_MUTE_END (R152). -/
def execPartitionMuteEnd (s : State) : Host.Outcome State Fault Refusal := .next (endMute s)

/-- SAMPLE_EDGE (R308, R311). -/
def execSampleEdge (dev : Int) (s : State) : Host.Outcome State Fault Refusal := .next (doEdge dev s)

end Sys2Proof.Machine
end

