-- ==== Sys2Proof/Machine/NetRx.lean ====
section
/-! DEFINITION. The network ports' receive side (R328 to R335, R340, R341): judging, filtering, delivery and PAUSE. -/

namespace Sys2Proof.Machine

/-- R329: what a received frame is found to be, the first row that applies. -/
inductive RxVerdict where
  | runt | oversize | fcs | reasm | control | filtered | deliver
  deriving DecidableEq, Repr

/-- R331: a PTP frame: EtherType 0x88F7, or UDP destination port 319 or 320. -/
def isPtp (f : List Byte) : Bool :=
  let e := etherOf f
  let udp4 := beNat (slice e.2 9 1) == 17
  let d4 := beNat (slice e.2 (beNat (slice e.2 0 1) % 16 * 4 + 2) 2)
  let udp6 := beNat (slice e.2 6 1) == 17
  let d6 := beNat (slice e.2 42 2)
  e.1 == 0x88F7 || (e.1 == 0x0800 && udp4 && (d4 == 319 || d4 == 320)) || (e.1 == 0x86DD && udp6 && (d6 == 319 || d6 == 320))

/-- R331, R348: the live receive stream and path that a frame matches. -/
def streamOf (s : State) (p : Nat) (f : List Byte) : Option (Nat × Bool × AudioPkt) :=
  if p = 16 then none
  else match parseAudio s.is48 f with
    | some k => (matchStream s p k 1024 0).map (fun m => (m.1, m.2, k))
    | none => none

/-- R330: the destination filter. -/
def passesFilter (s : State) (p : Nat) (f : List Byte) : Bool :=
  let da := slice f 0 6
  let hash := getF (crc32 da) 31 26
  let mcast := bitOf (beNat (slice f 0 1)) 0
  s.bget (netReg p 0) 3 || decide (da = portMac s p) || decide (da = List.replicate 6 0xFF)
    || (mcast && bitOf (s.rd64 (netReg p 0x18)) hash)
    || (mcast && p != 16 && (isPtp f || (streamOf s p f).isSome))

/-- R329: the verdict on a frame given with its FCS. -/
def judgeFrame (s : State) (p : Nat) (bytes : List Byte) (codeErr reasmErr : Bool) : RxVerdict :=
  let f := bytes.take (bytes.length - 4)
  if bytes.length < 64 then .runt
  else if netMaxLen s p < bytes.length then .oversize
  else if codeErr then .fcs
  else if bytes.drop (bytes.length - 4) ≠ leBytes 4 (crc32 f) then .fcs
  else if reasmErr && p ≠ 16 then .reasm
  else if beNat (slice f 12 2) = 0x8808 then .control
  else if passesFilter s p f then .deliver
  else .filtered

/-- R337: the SMD of a preemptable frame's start and of its continuation fragments for each frame count, and the codes of the fragment
count (log entry 196). -/
def smdStart : List Nat := [0xE6, 0x4C, 0x7F, 0xB3]
def smdCont : List Nat := [0x61, 0x52, 0x9E, 0x2A]
def fragCode : List Nat := [0xE6, 0x4C, 0x7F, 0xB3]

/-- R337: the mCRC that ends a fragment when `bs` of the frame have been carried: the FCS with its last two octets inverted (log
entry 196). -/
def mCrc (bs : List Byte) : List Byte := leBytes 4 (crc32 bs ^^^ 0xFFFF0000)

/-- R337: reassembly of a preemptable frame: `held` bytes end in the latest fragment's check, fragment `k` is expected next. The Bool
tells that no SMD sequence, fragment count or mCRC error arose. -/
def joinFrags (smd : Nat) : Nat → List Byte → List RxFrag → List Byte × Bool
  | _, held, [] => (held, true)
  | k, held, f :: fs =>
    let body := held.take (held.length - 4)
    let r := joinFrags smd (k + 1) (body ++ f.bytes) fs
    (r.1, r.2 && f.smd == smd && f.count == nth 0 fragCode (k % 4) && decide (held.drop (held.length - 4) = mCrc body))

/-- R337: the frame that the first fragment and its continuations make; one that came whole has none. -/
def reassemble (smd : Nat) (bytes : List Byte) (more : List RxFrag) : List Byte × Bool :=
  if more.isEmpty then (bytes, true)
  else
    let k := smdStart.findIdx (· == smd)
    let r := joinFrags (nth 0 smdCont k) 0 bytes more
    (r.1, r.2 && decide (k < 4))

/-- R340, R341: a PAUSE frame. -/
def rxPause (p quanta : Nat) (s : State) : State :=
  if s.bget (netReg p 4) 26 then s.count (netReg p 0x420) 1
  else
    let s := s.count (netReg p 0x41C) 1
    if s.bget (netReg p 0) 2 then
      let s := settleCredit p s
      let x := s.netSt p
      let unbroken := x.pauseQ ≠ 0 && !pauseOver s p
      (s.setNet p { x with pauseQ := quanta, pauseAt := s.sched.up, heldFrom := if unbroken then x.heldFrom else s.sched.up }).bset
        (netReg p 4) 27 (decide (quanta ≠ 0))
    else s

/-- R333: the receive timestamp words 3 to 5 of a FIRST descriptor. -/
def stampWords (t : Nat) : Nat × Nat × Nat :=
  let ns := t / 16
  (ns % 10 ^ 9, ns / 10 ^ 9 % 2 ^ 32, t % 16 * 2 ^ 16 + ns / 10 ^ 9 / 2 ^ 32 % 2 ^ 16)

/-- R334: fill owned descriptors from HEAD on with the rest of a frame of `len` bytes; the Bool tells that all of it was. -/
def fillRing (p r len t : Nat) (first : Bool) : Nat → List Byte → State → State × Bool
  | 0, _, s => (s, false)
  | n + 1, rest, s =>
    let a := descAddr s p false r (s.rd (ringReg p false r 0x10))
    let d := fabWords 2 a s
    let buf := (nth 0 d.1.1 0).toNat / 64 * 64 + (nth 0 d.1.1 1).toNat % 16 * 2 ^ 32
    let size := s.rd (ringReg p false r 0xC)
    let chunk := rest.take size
    let more := rest.drop size
    let s := advanceHead p false r (fabBytes buf chunk d.2)
    let dry := !ringOwned s p false r
    let last := more.isEmpty || dry
    let done := len - more.length
    let w2 := b2n first * 2 ^ 31 + b2n last * 2 ^ 30 + b2n (last && !more.isEmpty) * 2 ^ 29 + b2n (first && p != 16) * 2 ^ 28
      + (if last then done * 2 ^ 14 else 0) + chunk.length
    let ts := stampWords t
    let s := fabWrite (a + 8) (toW w2) false s
    let s := if first && p ≠ 16 then
        fabWrite (a + 20) (toW ts.2.2) false (fabWrite (a + 16) (toW ts.2.1) false (fabWrite (a + 12) (toW ts.1) false s))
      else s
    if last then (s, more.isEmpty) else fillRing p r len t false n more s

/-- A whole frame is counted with its octets (R344). -/
def rxOk (p octets : Nat) (s : State) : State :=
  let s := s.count (netReg p 0x400) 1
  s.wr64 (netReg p 0x440) (s.rd64 (netReg p 0x440) + octets)

/-- R302: a receive timestamp: the capture of the first bit after the start frame delimiter, less the port's receive latency. -/
def rxStamp (p ago sub : Nat) (s : State) : Nat :=
  wrap16 (captured ago sub s - ((if p = 16 then 0 else s.fget (Reg.TIME_LAT p (s.fget (netReg p 0) 17 16)) 31 16 : Nat) : Int))

/-- R331, R334: a frame goes to a receive ring with its timestamp. -/
def toRing (p r t : Nat) (f : List Byte) (s : State) : State :=
  if !ringOwned s p false r then s.count (netReg p 0x418) 1
  else
    let x := fillRing p r f.length t true 4096 f s
    if x.2 then rxOk p (f.length + 4) x.1 else x.1.count (netReg p 0x418) 1

/-- R331: where a delivered frame goes. -/
def deliverFrame (p t : Nat) (f : List Byte) (s : State) : State :=
  if p ≠ 16 && isPtp f then toRing p 0 t f s
  else match streamOf s p f with
    | some (n, sec, k) => streamIn n sec k (rxOk p (f.length + 4) s)
    | none => toRing p (if s.rd (ringReg p false 1 8) ≠ 0 then 1 else 0) t f s

/-- R461: a frame whose source address is TWIN_PEER_MAC has been received whole on a media port. -/
def notePeer (p : Nat) (f : List Byte) (s : State) : State :=
  if p ≠ 16 && decide (slice f 6 6 = macBytes (s.rd Reg.TWIN_PEER_MAC_HI % 65536) (s.rd Reg.TWIN_PEER_MAC_LO)) then
    { s with twin := { s.twin with peerFrames := true } }
  else s

/-- R329: a received frame is judged, counted and handled. -/
def rxFrame (p : Nat) (bytes : List Byte) (codeErr reasmErr : Bool) (ago sub : Nat) (s : State) : State :=
  if !(netPresent s p && netEnabled s p && netLinkUp s p) then s
  else
    let f := bytes.take (bytes.length - 4)
    match judgeFrame s p bytes codeErr reasmErr with
    | .runt => s.count (netReg p 0x404) 1
    | .oversize => s.count (netReg p 0x408) 1
    | .fcs => s.count (netReg p 0x40C) 1
    | .reasm => s.count (netReg p 0x410) 1
    | .control => if beNat (slice f 14 2) = 1 then rxPause p (beNat (slice f 16 2)) (notePeer p f s)
        else (notePeer p f s).count (netReg p 0x414) 1
    | .filtered => (notePeer p f s).count (netReg p 0x414) 1
    | .deliver => deliverFrame p (rxStamp p ago sub s) f (notePeer p f s)

/-- RX_FRAME (R329): the bytes of the frame, FCS included, the errors the PCS found and a fragment sequence broken off before this
frame, and how many PTP cycles ago and how many sixteenths into that cycle its timestamp was captured (R302). A preempted frame comes
as its first fragment with its SMD, and its continuation fragments (R337). -/
def execRxFrame (port : Nat) (bytes : List Byte) (codeErr reasmErr : Bool) (s : State) (ago : Nat := 0) (sub : Nat := 0) (smd : Nat := 0xD5)
    (more : List RxFrag := []) : Host.Outcome State Fault Refusal :=
  let w := reassemble smd bytes more
  .next (rxFrame port w.1 codeErr (reasmErr || !w.2) ago sub s)

end Sys2Proof.Machine
end

