-- ==== Sys2Proof/Machine/QuillOps.lean ====
section
/-! DEFINITION. The commands of the Quill instruction set (R236 to R252): the core issues the bundle whose one slot the command
names and whose other slot its companion operation fills. -/

namespace Sys2Proof.Machine

/-- QUILL_NOP. -/
def execQuillNop (core : Nat) (x : XOp) (y : YOp) (s : State) : Host.Outcome State Fault Refusal :=
  .next (if x = .nop || y = .nop then issue core x y s else s)

/-- MAC. -/
def execMac (core : Nat) (aca : Nat) (da1 : Nat) (da2 : Nat) (acb : Nat) (db1 : Nat) (db2 : Nat) (opa : Nat) (opb : Nat) (y : YOp) (s : State) : Host.Outcome State Fault Refusal :=
  .next (issue core (.mac aca da1 da2 acb db1 db2 opa opb) y s)

/-- ADD. -/
def execAdd (core : Nat) (dd : Nat) (ds : Nat) (dt : Nat) (y : YOp) (s : State) : Host.Outcome State Fault Refusal :=
  .next (issue core (.alu .add dd ds dt) y s)

/-- SUB. -/
def execSub (core : Nat) (dd : Nat) (ds : Nat) (dt : Nat) (y : YOp) (s : State) : Host.Outcome State Fault Refusal :=
  .next (issue core (.alu .sub dd ds dt) y s)

/-- ADDS. -/
def execAdds (core : Nat) (dd : Nat) (ds : Nat) (dt : Nat) (y : YOp) (s : State) : Host.Outcome State Fault Refusal :=
  .next (issue core (.alu .adds dd ds dt) y s)

/-- SUBS. -/
def execSubs (core : Nat) (dd : Nat) (ds : Nat) (dt : Nat) (y : YOp) (s : State) : Host.Outcome State Fault Refusal :=
  .next (issue core (.alu .subs dd ds dt) y s)

/-- AND. -/
def execAnd (core : Nat) (dd : Nat) (ds : Nat) (dt : Nat) (y : YOp) (s : State) : Host.Outcome State Fault Refusal :=
  .next (issue core (.alu .and dd ds dt) y s)

/-- OR. -/
def execOr (core : Nat) (dd : Nat) (ds : Nat) (dt : Nat) (y : YOp) (s : State) : Host.Outcome State Fault Refusal :=
  .next (issue core (.alu .or dd ds dt) y s)

/-- XOR. -/
def execXor (core : Nat) (dd : Nat) (ds : Nat) (dt : Nat) (y : YOp) (s : State) : Host.Outcome State Fault Refusal :=
  .next (issue core (.alu .xor dd ds dt) y s)

/-- MIN. -/
def execMin (core : Nat) (dd : Nat) (ds : Nat) (dt : Nat) (y : YOp) (s : State) : Host.Outcome State Fault Refusal :=
  .next (issue core (.alu .min dd ds dt) y s)

/-- MAX. -/
def execMax (core : Nat) (dd : Nat) (ds : Nat) (dt : Nat) (y : YOp) (s : State) : Host.Outcome State Fault Refusal :=
  .next (issue core (.alu .max dd ds dt) y s)

/-- ASR. -/
def execAsr (core : Nat) (dd : Nat) (ds : Nat) (dt : Nat) (y : YOp) (s : State) : Host.Outcome State Fault Refusal :=
  .next (issue core (.alu .asr dd ds dt) y s)

/-- LSL. -/
def execLsl (core : Nat) (dd : Nat) (ds : Nat) (dt : Nat) (y : YOp) (s : State) : Host.Outcome State Fault Refusal :=
  .next (issue core (.alu .lsl dd ds dt) y s)

/-- LSR. -/
def execLsr (core : Nat) (dd : Nat) (ds : Nat) (dt : Nat) (y : YOp) (s : State) : Host.Outcome State Fault Refusal :=
  .next (issue core (.alu .lsr dd ds dt) y s)

/-- CMP. -/
def execCmp (core : Nat) (ds : Nat) (dt : Nat) (y : YOp) (s : State) : Host.Outcome State Fault Refusal :=
  .next (issue core (.cmp ds dt) y s)

/-- NEG. -/
def execNeg (core : Nat) (dd : Nat) (ds : Nat) (y : YOp) (s : State) : Host.Outcome State Fault Refusal :=
  .next (issue core (.neg dd ds) y s)

/-- ABS. -/
def execAbs (core : Nat) (dd : Nat) (ds : Nat) (y : YOp) (s : State) : Host.Outcome State Fault Refusal :=
  .next (issue core (.abs dd ds) y s)

/-- NOT. -/
def execNot (core : Nat) (dd : Nat) (ds : Nat) (y : YOp) (s : State) : Host.Outcome State Fault Refusal :=
  .next (issue core (.not dd ds) y s)

/-- ADDI. -/
def execAddi (core : Nat) (dd : Nat) (ds : Nat) (imm : BitVec 18) (y : YOp) (s : State) : Host.Outcome State Fault Refusal :=
  .next (issue core (.addi dd ds imm) y s)

/-- CMPI. -/
def execCmpi (core : Nat) (ds : Nat) (imm : BitVec 18) (y : YOp) (s : State) : Host.Outcome State Fault Refusal :=
  .next (issue core (.cmpi ds imm) y s)

/-- ASRI. -/
def execAsri (core : Nat) (dd : Nat) (ds : Nat) (k : Nat) (y : YOp) (s : State) : Host.Outcome State Fault Refusal :=
  .next (issue core (.asri dd ds k) y s)

/-- LSLI. -/
def execLsli (core : Nat) (dd : Nat) (ds : Nat) (k : Nat) (y : YOp) (s : State) : Host.Outcome State Fault Refusal :=
  .next (issue core (.lsli dd ds k) y s)

/-- LSRI. -/
def execLsri (core : Nat) (dd : Nat) (ds : Nat) (k : Nat) (y : YOp) (s : State) : Host.Outcome State Fault Refusal :=
  .next (issue core (.lsri dd ds k) y s)

/-- ACLR. -/
def execAclr (core : Nat) (acd : Nat) (y : YOp) (s : State) : Host.Outcome State Fault Refusal :=
  .next (issue core (.aclr acd) y s)

/-- ACMOV. -/
def execAcmov (core : Nat) (acd : Nat) (acs : Nat) (y : YOp) (s : State) : Host.Outcome State Fault Refusal :=
  .next (issue core (.acmov acd acs) y s)

/-- ACADD. -/
def execAcadd (core : Nat) (acd : Nat) (acs : Nat) (y : YOp) (s : State) : Host.Outcome State Fault Refusal :=
  .next (issue core (.acadd acd acs) y s)

/-- ACSUB. -/
def execAcsub (core : Nat) (acd : Nat) (acs : Nat) (y : YOp) (s : State) : Host.Outcome State Fault Refusal :=
  .next (issue core (.acsub acd acs) y s)

/-- ACSH. -/
def execAcsh (core : Nat) (acd : Nat) (sh : BitVec 6) (y : YOp) (s : State) : Host.Outcome State Fault Refusal :=
  .next (issue core (.acsh acd sh) y s)

/-- ACLD. -/
def execAcld (core : Nat) (acd : Nat) (ds : Nat) (y : YOp) (s : State) : Host.Outcome State Fault Refusal :=
  .next (issue core (.acld acd ds) y s)

/-- ACNEG. -/
def execAcneg (core : Nat) (acd : Nat) (y : YOp) (s : State) : Host.Outcome State Fault Refusal :=
  .next (issue core (.acneg acd) y s)

/-- LD. -/
def execLd (core : Nat) (r : Nat) (an : Nat) (mm : Nat) (pm : Bool) (x : XOp) (s : State) : Host.Outcome State Fault Refusal :=
  .next (issue core x (.ld r an mm pm) s)

/-- ST. -/
def execSt (core : Nat) (r : Nat) (an : Nat) (mm : Nat) (pm : Bool) (x : XOp) (s : State) : Host.Outcome State Fault Refusal :=
  .next (issue core x (.st r an mm pm) s)

/-- STAC. -/
def execStac (core : Nat) (ac : Nat) (an : Nat) (mm : Nat) (pm : Bool) (x : XOp) (s : State) : Host.Outcome State Fault Refusal :=
  .next (issue core x (.stac ac an mm pm) s)

/-- LDS. -/
def execLds (core : Nat) (r : Nat) (a : Nat) (x : XOp) (s : State) : Host.Outcome State Fault Refusal :=
  .next (issue core x (.lds r a) s)

/-- STS. -/
def execSts (core : Nat) (r : Nat) (a : Nat) (x : XOp) (s : State) : Host.Outcome State Fault Refusal :=
  .next (issue core x (.sts r a) s)

/-- STACS. -/
def execStacs (core : Nat) (ac : Nat) (a : Nat) (x : XOp) (s : State) : Host.Outcome State Fault Refusal :=
  .next (issue core x (.stacs ac a) s)

/-- MVAC. -/
def execMvac (core : Nat) (d : Nat) (ac : Nat) (x : XOp) (s : State) : Host.Outcome State Fault Refusal :=
  .next (issue core x (.mvac d ac) s)

/-- MOV. -/
def execMov (core : Nat) (dst : Nat) (src : Nat) (x : XOp) (s : State) : Host.Outcome State Fault Refusal :=
  .next (issue core x (.mov dst src) s)

/-- LDI. -/
def execLdi (core : Nat) (dd : Nat) (imm : BitVec 16) (x : XOp) (s : State) : Host.Outcome State Fault Refusal :=
  .next (issue core x (.ldi dd imm) s)

/-- LDIH. -/
def execLdih (core : Nat) (dd : Nat) (imm : BitVec 16) (x : XOp) (s : State) : Host.Outcome State Fault Refusal :=
  .next (issue core x (.ldih dd imm) s)

/-- RDAC. -/
def execRdac (core : Nat) (d : Nat) (ac : Nat) (p : Nat) (x : XOp) (s : State) : Host.Outcome State Fault Refusal :=
  .next (issue core x (.rdac d ac p) s)

/-- LIA. -/
def execLia (core : Nat) (an : Nat) (imm : BitVec 24) (x : XOp) (s : State) : Host.Outcome State Fault Refusal :=
  .next (issue core x (.lia an imm) s)

/-- LIM. -/
def execLim (core : Nat) (mn : Nat) (imm : BitVec 23) (x : XOp) (s : State) : Host.Outcome State Fault Refusal :=
  .next (issue core x (.lim mn imm) s)

/-- WRAC. -/
def execWrac (core : Nat) (d : Nat) (ac : Nat) (p : Nat) (x : XOp) (s : State) : Host.Outcome State Fault Refusal :=
  .next (issue core x (.wrac d ac p) s)

/-- ADDA. -/
def execAdda (core : Nat) (an : Nat) (mm : Nat) (x : XOp) (s : State) : Host.Outcome State Fault Refusal :=
  .next (issue core x (.adda an mm) s)

/-- ADDAI. -/
def execAddai (core : Nat) (an : Nat) (imm : BitVec 23) (x : XOp) (s : State) : Host.Outcome State Fault Refusal :=
  .next (issue core x (.addai an imm) s)

/-- FOLD. -/
def execFold (core : Nat) (an : Nat) (x : XOp) (s : State) : Host.Outcome State Fault Refusal :=
  .next (issue core x (.fold an) s)

/-- SETB. -/
def execSetb (core : Nat) (bit : Nat) (v : Bool) (x : XOp) (s : State) : Host.Outcome State Fault Refusal :=
  .next (issue core x (.setb bit v) s)

/-- SSCL. -/
def execSscl (core : Nat) (sc : BitVec 5) (x : XOp) (s : State) : Host.Outcome State Fault Refusal :=
  .next (issue core x (.sscl sc) s)

/-- BR. -/
def execBr (core : Nat) (t : Nat) (x : XOp) (s : State) : Host.Outcome State Fault Refusal :=
  .next (issue core x (.br t) s)

/-- BCC. -/
def execBcc (core : Nat) (c : Nat) (t : Nat) (x : XOp) (s : State) : Host.Outcome State Fault Refusal :=
  .next (issue core x (.bcc c t) s)

/-- CALL. -/
def execCall (core : Nat) (t : Nat) (x : XOp) (s : State) : Host.Outcome State Fault Refusal :=
  .next (issue core x (.call t) s)

/-- BRA. -/
def execBra (core : Nat) (an : Nat) (x : XOp) (s : State) : Host.Outcome State Fault Refusal :=
  .next (issue core x (.bra an) s)

/-- RTI. -/
def execRti (core : Nat) (x : XOp) (s : State) : Host.Outcome State Fault Refusal :=
  .next (issue core x (.rti) s)

/-- LOOP. -/
def execLoop (core : Nat) (d : Nat) (t : Nat) (x : XOp) (s : State) : Host.Outcome State Fault Refusal :=
  .next (issue core x (.loop d t) s)

/-- REPI. -/
def execRepi (core : Nat) (count : Nat) (t : Nat) (x : XOp) (s : State) : Host.Outcome State Fault Refusal :=
  .next (issue core x (.repi count t) s)

/-- REPD. -/
def execRepd (core : Nat) (d : Nat) (t : Nat) (x : XOp) (s : State) : Host.Outcome State Fault Refusal :=
  .next (issue core x (.repd d t) s)

/-- WAIT. -/
def execWait (core : Nat) (x : XOp) (s : State) : Host.Outcome State Fault Refusal :=
  .next (issue core x (.wait) s)

/-- BRK. -/
def execBrk (core : Nat) (x : XOp) (s : State) : Host.Outcome State Fault Refusal :=
  .next (issue core x (.brk) s)

end Sys2Proof.Machine
end

