-- ==== Sys2Proof/Machine/RegRead.lean ====
section
/-! DEFINITION. Reads of BAR0 (R12 to R19, R560 to R565): the word a register shows, clearing reads, and latching reads. -/

namespace Sys2Proof.Machine

/-- R12, R521: a BAR0 access that is not an aligned 32-bit access is counted and recorded. -/
def misaligned (off : Nat) (s : State) : State :=
  if s.served Reg.HIF_BAD_ACCESS_CNT then
    (s.count Reg.HIF_BAD_ACCESS_CNT 1).wr Reg.HIF_BAD_ACCESS_LAST (2 ^ 31 + off % 2 ^ 24)
  else s

/-- Word `i` of a 64-bit number. -/
def half (v i : Nat) : Nat := v / 2 ^ (32 * i) % 2 ^ 32

/-- R203: GLB_COMMIT_STATUS as it reads. -/
def commitStatus (s : State) : Nat :=
  let d := match s.sched.commits with
    | [] => 0
    | c :: _ => c.defers
  s.rd Reg.GLB_COMMIT_STATUS / 2 ^ 28 * 2 ^ 28 + b2n (!s.sched.openShadows.isEmpty) * 2 ^ 16 + d % 16 * 2 ^ 8 + s.sched.commits.length % 16

/-- R203: the current target of the oldest pending commit; 0, the reset value, while none is pending (the table is silent; DESIGN
CHOICE, log entry 184). -/
def commitNext (s : State) : Nat :=
  match s.sched.commits with
  | [] => 0
  | c :: _ => c.target

/-- GLB registers whose word is not stored (R2, R46, R203, R566). -/
def glbWord (s : State) (b : Nat) : Option Nat :=
  if b = Reg.GLB_STATUS then some (b2n s.sched.rendering * 2 ^ 31 + b2n (transmits s && s.sched.rendering) * 2 ^ 30 + s.hif.stage)
  else if b = Reg.GLB_CAP0 then some (capWord s.variant 0)
  else if b = Reg.GLB_CAP1 then some (capWord s.variant 1)
  else if b = Reg.GLB_CAP2 then some (capWord s.variant 2)
  else if b = Reg.GLB_CAP3 then some (capWord s.variant 3)
  else if b = Reg.GLB_BN_LO then some (half s.bn 0)
  else if b = Reg.GLB_BN_HI then some (half s.bn 1)
  else if b = Reg.GLB_COMMIT_STATUS then some (commitStatus s)
  else if b = Reg.GLB_COMMIT_NEXT_LO then some (half (commitNext s) 0)
  else if b = Reg.GLB_COMMIT_NEXT_HI then some (half (commitNext s) 1)
  else none

/-- HIF registers whose word is not stored (R523, R533, R542). -/
def hifWord (s : State) (b : Nat) : Option Nat :=
  if b = Reg.HIF_BOOT then some (setF (setF (s.rd b) 31 28 s.hif.stage) 27 27 (b2n s.hif.bootSrc))
  else if b = Reg.HIF_ABORT then some (b2n s.hif.abortBusy * 2 ^ 31)
  else if b = Reg.HIF_MSIX_PBA_LO then some (half s.hif.msixPend.toNat 0)
  else if b = Reg.HIF_MSIX_PBA_HI then some (half s.hif.msixPend.toNat 1)
  else none

/-- SEC and DBG registers whose word is not stored (R516, R517). -/
def secWord (s : State) (b i j : Nat) : Option Nat :=
  if b = Reg.SEC_STATUS then some (secStatus s)
  else if b = Reg.SEC_UID_LO then some (half s.sec.uid.toNat 0)
  else if b = Reg.SEC_UID_HI then some (half s.sec.uid.toNat 1)
  else if b = Reg.SEC_ROOT_HASH 0 0 then some (rootHashWord s i j).toNat
  else if b = Reg.SEC_TWIN_KEY_CTL then some (twinKeyWord s + b2n (s.bget b 30) * 2 ^ 30)
  else if b = Reg.DBG_AUTH_STATUS then some (authStatus s)
  else none

/-- R322: TIME_STATUS as it reads. -/
def timeStatus (s : State) : Nat :=
  s.time.servo * 2 ^ 30 + b2n (s.time.o != s.time.oReq) * 2 ^ 8 + s.rd Reg.TIME_STATUS % 4

/-- R324: the deviation of the sample rate in ppb, rounded to the nearest with a tie upward (log entry 25). -/
def mediaPpb (s : State) : Int := fdiv (s.time.dev + 8) 16

/-- CLK and TIME registers whose word is not stored (R322 to R324). -/
def timeWord (s : State) (b : Nat) : Option Nat :=
  let now := timeWords s.now16
  if b = Reg.CLK_MST_LO then some (half s.time.mst 0)
  else if b = Reg.CLK_MST_HI then some (half s.time.mst 1)
  else if b = Reg.TIME_STATUS then some (timeStatus s)
  else if b = Reg.CLK_MEDIA_PPB then some (uns 32 (mediaPpb s))
  else if b = Reg.TIME_NOW_SUB then some (nth 0 now 0)
  else if b = Reg.TIME_NOW_NS then some (nth 0 now 1)
  else if b = Reg.TIME_NOW_SEC_LO then some (nth 0 now 2)
  else if b = Reg.TIME_NOW_SEC_HI then some (nth 0 now 3)
  else if b = Reg.TIME_MEDIA_OFS_LO then some (half (uns 64 s.time.o) 0)
  else if b = Reg.TIME_MEDIA_OFS_HI then some (half (uns 64 s.time.o) 1)
  else if b = Reg.TIME_MEDIA_REQ_LO then some (half (uns 64 s.time.oReq) 0)
  else if b = Reg.TIME_MEDIA_REQ_HI then some (half (uns 64 s.time.oReq) 1)
  else none

/-- Live streams of the receive (false) or transmit (true) table. -/
def liveStreams (s : State) (tx : Bool) : Nat :=
  ((List.range 1024).filter (fun n => s.bget (if tx then Reg.STRM_TX_STATUS n else Reg.STRM_RX_STATUS n) 31)).length

/-- R365: MEMBERS, the live members of a group. -/
def groupMembers (s : State) (g : Nat) : Nat :=
  ((List.range 1024).filter (fun n => s.bget (Reg.STRM_RX_STATUS n) 31 && s.fget (Reg.STRM_RX_CTL n) 25 20 == g)).length

/-- R411: COND_FIR_DATA: a coefficient beyond the preset's length reads 0. -/
def firData (s : State) : Nat :=
  let w := s.rd Reg.COND_FIR_IDX
  if getF w 7 0 < presetLen (getF w 17 16) && getF w 13 12 < 3 then
    uns 32 (nth 0 (firTable (getF w 17 16) (getF w 13 12)) (getF w 7 0))
  else 0

/-- R411: COND_WT_DATA: an unused section or coefficient reads 0. -/
def wtData (s : State) : Nat :=
  let w := s.rd Reg.COND_WT_IDX
  if getF w 5 4 < (if bitOf w 8 then 2 else 3) && getF w 2 0 < 5 then
    uns 32 (wtTable s.is48 (getF w 8 8) (getF w 5 4) (getF w 2 0))
  else 0

/-- STRM and COND registers whose word is not stored (R365, R411). -/
def strmWord (s : State) (b i : Nat) : Option Nat :=
  if b = Reg.STRM_STATUS then some (liveStreams s true * 2 ^ 16 + liveStreams s false)
  else if b = Reg.STRM_GROUP_STATUS 1 then some (b2n (s.bget (Reg.STRM_GROUP_STATUS (i + 1)) 31) * 2 ^ 31 + groupMembers s (i + 1))
  else if b = Reg.COND_FIR_DATA then some (firData s)
  else if b = Reg.COND_WT_DATA then some (wtData s)
  else none

/-- R296: QUEUE_STATUS as it reads. -/
def queueStatus (s : State) (q : Nat) : Nat :=
  let x := s.queue q
  let tail := match x.items.getLast? with
    | some e => e.gap
    | none => false
  let w := s.rd (Reg.QUEUE_STATUS q)
  getF w 31 31 * 2 ^ 31 + b2n x.armed * 2 ^ 30 + getF w 29 29 * 2 ^ 29 + b2n tail * 2 ^ 28 + x.items.length

/-- R116, R119: RULE_OVR_HOLD as it reads. -/
def ovrHold (s : State) : Nat :=
  match s.scene.held with
  | some (o, _, t, _) => 2 ^ 31 + o * 2 ^ 20 + t
  | none => 0

/-- R150, R152, R154: NIB_ARRAY_STATUS as it reads. -/
def arrayStatus (s : State) : Nat :=
  let i := s.bn
  let left := if s.sched.rendering then s.scene.mutes.foldl (fun a m => if m.1 + 2 ≤ i ∧ i < m.2 + 2 then Nat.max a (m.2 + 2 - i) else a) 0 else 0
  left % 1024 * 2 ^ 16 + b2n (s.bget Reg.NIB_ARRAY_STATUS 2) * 4
    + b2n (s.shadowWord Reg.NIB_PARTITION % 2 != s.rd Reg.NIB_PARTITION % 2) * 2 + b2n (left != 0)

/-- R154: NIB_BIST_FAIL_MAP. -/
def failMap (s : State) : Nat :=
  (List.range 64).foldl (fun a t => if decide (t < capTiles s.variant) && s.bget (Reg.NIB_TILE_BIST_STATUS t) 31 then a + 2 ^ t else a) 0

/-- R153: NIB_TILE_COEF_DATA. -/
def coefData (s : State) (t : Nat) : Nat :=
  let w := s.rd (Reg.NIB_TILE_COEF_IDX t)
  let taps := tapsOf (getF w 13 12)
  if getF w 13 12 = 3 || taps ≤ getF w 3 0 then 0 else uns 32 (coefAt taps (getF w 11 4) (getF w 3 0))

/-- RULE and NIB registers whose word is not stored (R119, R153, R154). -/
def nibWord (s : State) (b i : Nat) : Option Nat :=
  if b = Reg.RULE_OVR_HOLD then some (ovrHold s)
  else if b = Reg.NIB_ARRAY_STATUS then some (arrayStatus s)
  else if b = Reg.NIB_BIST_FAIL_MAP_LO then some (half (failMap s) 0)
  else if b = Reg.NIB_BIST_FAIL_MAP_HI then some (half (failMap s) 1)
  else if b = Reg.NIB_TILE_COEF_DATA 0 then some (coefData s i)
  else none

/-- R229, R235: STATE as a code. -/
def QSt.code : QSt → Nat
  | .idle => 0 | .running => 1 | .halted => 2 | .fault => 3

/-- R235: QCORE_STATUS as it reads. -/
def coreStatus (s : State) (k : Nat) : Nat :=
  let c := s.core k
  let w := s.rd (Reg.QCORE_STATUS k)
  c.st.code * 2 ^ 30 + c.cause % 16 * 2 ^ 24 + getF w 18 17 * 2 ^ 17 + (if c.st == .halted || c.st == .fault then c.pc else c.lastPc) % 4096

/-- QCORE registers whose word is not stored (R234, R235, R510). -/
def coreWord (s : State) (b k : Nat) : Option Nat :=
  if b = Reg.QCORE_STATUS 0 then some (coreStatus s k)
  else if b = Reg.QCORE_PM_LO 0 then some (if pmReadable s k then ((pmBundle s k).extractLsb' 0 32).toNat else 0)
  else if b = Reg.QCORE_PM_HI 0 then some (if pmReadable s k then ((pmBundle s k).extractLsb' 32 32).toNat else 0)
  else if b = Reg.QCORE_DBG_DATA 0 then
    some (if (s.core k).st == .halted && s.quillDebug k then (dbgReg (s.core k) (s.rd (Reg.QCORE_DBG_SEL k))).toNat else 0)
  else if b = Reg.QCORE_DBG_SEL 0 || b = Reg.QCORE_BRK 0 0 then (if s.quillDebug k then none else some 0)
  else none

/-- R443, R474: TWIN_STATUS as it reads; packets are handed over only while render runs (DEDUCED, log entry 193). -/
def twinStatus (s : State) : Nat :=
  let t := s.twin
  t.st * 2 ^ 29 + t.peerSt * 2 ^ 26 + b2n (transmits s && s.sched.rendering) * 2 ^ 25 + b2n t.sel * 2 ^ 24 + b2n (linkUp s) * 2 ^ 23
    + t.lanes % 4 * 2 ^ 21 + b2n t.peerAlive * 2 ^ 20 + b2n t.peerFrames * 2 ^ 19 + b2n (s.bget Reg.TWIN_STATUS 18) * 2 ^ 18

/-- R187: RCC_SLOT as it reads: REFS counts the outputs whose live or shadow RCC_PROFILE names the slot. -/
def rccSlotWord (s : State) (p : Nat) : Nat :=
  let names (n : Nat) (i : Item) : Bool := match i with
    | .spk k ws => k == n && namesSlot p ⟨ws⟩
    | _ => false
  let refs := (List.range (capOuts s.variant)).filter (fun n => namesSlot p (s.spkO n) || namesSlot p (s.spkR n)
    || s.sched.commits.any (fun c => c.items.any (names n)) || s.sched.takes.any (fun k => names n k.item))
  setF (s.rd (Reg.RCC_SLOT p)) 26 16 refs.length

/-- The word of a register that the model computes, where it does not store it: the row's first offset and instance indices. -/
def computed (s : State) (b i j : Nat) : Option Nat :=
  match unitOf b with
  | some .glb => glbWord s b
  | some .hif => hifWord s b
  | some .sec => secWord s b i j
  | some .dbg => secWord s b i j
  | some .clk => timeWord s b
  | some .time => timeWord s b
  | some .strm => strmWord s b i
  | some .cond => strmWord s b i
  | some .queue => if b = Reg.QUEUE_STATUS 0 then some (queueStatus s i) else none
  | some .ddr => if b = Reg.DDR_TRN_DATA 0 then some (trnRead i s)
      else if b = Reg.DDR_STATUS 0 then some (ddrStatusWord i s)
      else none
  | some .rule => nibWord s b i
  | some .nib => nibWord s b i
  | some .qcore => coreWord s b i
  | some .rcc => if b = Reg.RCC_SLOT 0 then some (rccSlotWord s i)
    else if b = Reg.RCC_STATUS then some (setF (s.rd Reg.RCC_STATUS) 24 16 (partsMax s.is48)) else none
  | some .twin => if b = Reg.TWIN_STATUS then some (twinStatus s) else none
  | some .stat => if b = Reg.STAT_SNAP then some (b2n s.stat.snapArmed * 2 ^ 31) else none
  | _ => none

/-- R14: bits that read 0: write-only fields, and the fuse data (R516). -/
def hiddenMask (off : Nat) : Nat :=
  if Reg.SEC_FUSE_DATA 0 ≤ off && off ≤ Reg.SEC_FUSE_DATA 11 then 0xFFFFFFFF else maskOf off (fun f => f.acc == .wo)

/-- R13, R19: the word that the register or shadow at an offset shows. -/
def regWord (s : State) (off : Nat) : Nat :=
  match descOf off with
  | some (r, is) =>
    match computed s r.base (nth 0 is 0) (nth 0 is 1) with
    | some w => w
    | none => s.rd off - (s.rd off &&& hiddenMask off)
  | none => s.rd off

/-- R18: rows whose first word, read, latches the word that follows it: the low halves of 64-bit quantities. -/
def pairRows : List Nat :=
  [Reg.GLB_BN_LO, Reg.GLB_COMMIT_EPOCH_LO, Reg.GLB_COMMIT_NEXT_LO, Reg.GLB_COMMIT_LAST_LO, Reg.GLB_COMMIT_FAIL_LO,
   Reg.HIF_MSIX_PBA_LO, Reg.SEC_UID_LO, Reg.CLK_MST_LO, Reg.CLK_WCLK_IN_RATE_LO, Reg.TIME_OFS_LO, Reg.TIME_GM_ID_LO,
   Reg.TIME_MEDIA_OFS_LO, Reg.TIME_MEDIA_REQ_LO, Reg.NET_MCAST_HASH_LO 0, Reg.MGMT_MCAST_HASH_LO, Reg.STRM_RX_ID_LO 0,
   Reg.STRM_TX_ID_LO 0, Reg.TDM_RATE_LO 0, Reg.COND_GUARD_LO, Reg.COND_SYNC_RS_LO, Reg.COND_RS_RATIO_LO 0, Reg.COND_RS_NOW_LO 0,
   Reg.COND_DET_ZONES_LO 0, Reg.DDR_ERR_LAST_LO 0, Reg.NIB_BIST_FAIL_MAP_LO, Reg.OUT_LIMIT_MAP_LO, Reg.OUT_GUARD_MAP_LO,
   Reg.STAT_SNAP_BN_LO]

/-- R344: rows of the octet counters. -/
def octetRows : List Nat := [Reg.NET_RX_OCTETS_LO 0, Reg.NET_TX_OCTETS_LO 0, Reg.MGMT_RX_OCTETS_LO, Reg.MGMT_TX_OCTETS_LO]

/-- R14: the fields that a read clears return to 0 or to their restart value. -/
def restart (off : Nat) (s : State) : State :=
  match descOf off with
  | some (r, is) =>
    if r.base = Reg.QUEUE_PEAK 0 then s.wr off (s.queue (nth 0 is 0)).items.length
    else s.wr off (s.rd off - (s.rd off &&& rcMask off) + fieldsReset (r.fields.filter (fun f => f.acc == .rc)))
  | none => s

/-- R14, R18: the plain read of a served register: its word, with its partner latched and its RC fields cleared. -/
def plainRead (m : Master) (off : Nat) (s : State) : State :=
  match descOf off with
  | none => s.answer (toW (regWord s off))
  | some (r, _) =>
    let w := toW (regWord s off)
    let s' := if pairRows.contains r.base then s.latch m (off + 4) (toW (regWord s (off + 4))) else s
    if octetRows.contains r.base then
      (((s.latch m (off + 4) (toW (s.rd (off + 4)))).wr off 0).wr (off + 4) 0).answer w
    else if hasRC off then (restart off s').answer w
    else s'.answer w

/-- R323: a read of TIME_NOW_SUB latches the counter's other words. -/
def nowRead (m : Master) (s : State) : State :=
  let w := timeWords s.now16
  (latchWords m Reg.TIME_NOW_NS (w.drop 1) s).answer (toW (nth 0 w 0))

/-- R295: a read of QUEUE_POP_HI returns the latched half. -/
def popHiRead (m : Master) (q : Nat) (s : State) : State :=
  s.answer (Tab.get (fun _ => 0) s.qLatch (Master.key m * 256 + q))

/-- R235: a read of QCORE_PM_HI returns the latched or the live half, and moves QCORE_PM_IDX on. -/
def pmHiRead (m : Master) (k : Nat) (s : State) : State :=
  if pmReadable s k then
    let off := Reg.QCORE_PM_HI k
    let w := match s.latched m off with
      | some w => w
      | none => toW (regWord s off)
    bumpPmIdx k ((s.unlatch m off).answer w)
  else s.answer 0

/-- R542: HIF_DMA_STATUS: while a transfer runs, the words that remain are a free number, from 1 to what the last read showed. -/
def dmaStatusRead (c : Nat) (s : State) : State :=
  let ab := b2n (s.bget (Reg.HIF_DMA_STATUS c) 30) * 2 ^ 30
  match dmaFront c s with
  | some d =>
    let r := s.freeW
    let n := 1 + r.1.toNat % d.left
    let s := { r.2 with hif := { r.2.hif with dma := r.2.hif.dma.map (fun p => if p = (c, d) then (c, { d with left := n }) else p) } }
    s.answer (toW (2 ^ 31 + ab + Nat.min n 0xFFFFFF))
  | none => s.answer (toW ab)

/-- Reads with an effect of their own, by row; none for a plain read. -/
def specialRead (m : Master) (b i : Nat) (s : State) : Option State :=
  if b = Reg.QUEUE_POP_LO 0 then some (doPop m i s)
  else if b = Reg.QUEUE_POP_HI 0 then some (popHiRead m i s)
  else if b = Reg.TIME_TXTS_ID 0 then some (txtsRead m i s)
  else if b = Reg.TIME_PPSIN_SUB then some (ppsInRead m s)
  else if b = Reg.TIME_NOW_SUB then some (nowRead m s)
  else if b = Reg.STAT_SHD_DATA then some (shdRead s)
  else if b = Reg.QCORE_PM_LO 0 then some (doPmLoRead m i s)
  else if b = Reg.QCORE_PM_HI 0 then some (pmHiRead m i s)
  else if b = Reg.PWR_SENS_DATA then (let r := sensRead s; some (r.2.answer r.1))
  else if b = Reg.HIF_DMA_STATUS 0 then some (dmaStatusRead i s)
  else none

/-- R18, R563: an aligned read of a BAR0 offset: nothing there reads 0; a latched word is spent; else the register answers. -/
def alignedRead (m : Master) (off : Nat) (s : State) : State :=
  if !s.served off then s.answer 0
  else
    let special := match descOf off with
      | some (r, is) => specialRead m r.base (nth 0 is 0) s
      | none => none
    match special with
    | some s' => s'
    | none =>
      match s.latched m off with
      | some w => (s.unlatch m off).answer w
      | none => plainRead m off s

/-- R12: a read of a BAR0 offset. -/
def regRead (m : Master) (off : Nat) (s : State) : State :=
  if off % 4 = 0 then alignedRead m off s else (misaligned off s).answer 0

/-- RC_READ (R14, R15, R549): an increment in the same cycle is a later command: the read gives the value before it, and it counts from 0. -/
def execRcRead (m : Master) (off : Nat) (s : State) : Host.Outcome State Fault Refusal := .next (regRead m off s)

/-- LATCHING_READ (R18). -/
def execLatchingRead (m : Master) (off : Nat) (s : State) : Host.Outcome State Fault Refusal := .next (regRead m off s)

/-- MISALIGNED_ACCESS (R12, R521): the command's access is not an aligned 32-bit access. -/
def execMisalignedAccess (_m : Master) (off : Nat) (write : Bool) (s : State) : Host.Outcome State Fault Refusal :=
  .next (if write then misaligned off s else (misaligned off s).answer 0)

end Sys2Proof.Machine
end

