-- ==== Sys2Proof/Machine/RegWrite.lean ====
section
/-! DEFINITION. Writes of BAR0 (R12 to R19, R188, R560 to R565): access codes, ranges, shadows, the registers whose write acts, and
the two TAP instructions that reach registers. -/

namespace Sys2Proof.Machine

/-- R366, R411: a media port, or a conditioning channel, is present. -/
def mediaOk (s : State) (p : Nat) : Bool := decide (p < capMedia s.variant)

/-- R386: conditioning channel `c` is present. -/
def condOk (s : State) (c : Nat) : Bool := decide (c < 80) && (decide (c < 16) || decide (c - 16 < 2 * capTdm s.variant))

/-- R366: the stated ranges of a stream entry's fields, by the field's top bit; BLOCKS goes by the SPILL bit that the entry's
shadow holds (log entry 128). -/
def strmRange (s : State) (b off hi x : Nat) : Bool :=
  if b = Reg.STRM_RX_CTL 0 || b = Reg.STRM_TX_CTL 0 then
    (if hi = 29 then x != 3 else if hi = 19 || hi = 15 then mediaOk s x else if hi = 6 then decide (1 ≤ x) && decide (x ≤ 64) else true)
  else if b = Reg.STRM_RX_WIN 0 then
    (if hi = 27 then
      (if bitOf (s.shadowWord (off - 8)) 26 then decide (16 ≤ x) && decide (x ≤ 256) else decide (4 ≤ x) && decide (x ≤ 64))
    else true)
  else if b = Reg.STRM_TX_PKT 0 then (if hi = 24 then decide (1 ≤ x) && decide (x ≤ 256) else true)
  else true

/-- R411: the stated ranges of the conditioning registers' fields; resampler bits must name present channels. -/
def condRange (s : State) (b hi x : Nat) : Bool :=
  if b = Reg.COND_DEC_CTL 0 then (if hi = 3 then decide (3 ≤ x) && decide (x ≤ 10) else true)
  else if b = Reg.COND_DET_CTL 0 then (if hi = 25 || hi = 21 then x != 3 else if hi = 6 then condOk s x else true)
  else if b = Reg.COND_SYNC_RS_LO then decide (x < 2 ^ (Nat.min 32 (2 * capTdm s.variant)))
  else if b = Reg.COND_SYNC_RS_HI then decide (x < 2 ^ (2 * capTdm s.variant - 32))
  else if b = Reg.COND_RS_CTL 0 then
    (if hi = 20 then decide (8 ≤ x) && decide (x ≤ 20) else if hi = 9 then decide (16 ≤ x) else true)
  else true

/-- R119, R186: the stated ranges of the RULE and OUT registers' fields. -/
def outRange (b hi x : Nat) : Bool :=
  if b = Reg.RULE_CTL then x != 3
  else if b = Reg.OUT_LIM_THR 0 then (if hi = 15 then decide (-24576 ≤ sgn 16 x) && decide (sgn 16 x ≤ 0) else true)
  else if b = Reg.OUT_TAP_CTL 0 then (if hi = 22 then decide (1 ≤ x) && decide (x ≤ 64) else true)
  else true

/-- The stated ranges of plain RW fields, outside which a write leaves the field unchanged (R322 to R324, R344, R441, R474, R489). -/
def rwRange (b hi x : Nat) : Bool :=
  if b = Reg.TIME_PPS_CTL then (if hi = 9 then decide (1 ≤ x) && decide (x ≤ 999) else true)
  else if b = Reg.CLK_WCLK_OUT then x != 3
  else if b = Reg.PWR_THERM then (if hi = 31 then decide (sgn 16 x ≤ 28160) else true)
  else if b = Reg.DDR_MIG_RATE 0 then decide (1 ≤ x) && decide (x ≤ 400)
  else if b = Reg.DDR_SCRUB 0 then decide (1 ≤ x)
  else if b = Reg.TWIN_CFG then (if hi = 23 then decide (1 ≤ x) else true)
  else true

/-- The value `x` may be written into the field of row `b` whose top bit is `hi`, in the register at `off`. -/
def fieldOk (s : State) (b off hi x : Nat) : Bool :=
  match unitOf b with
  | some .strm => strmRange s b off hi x
  | some .cond => condRange s b hi x
  | some .rule => outRange b hi x
  | some .out => outRange b hi x
  | _ => rwRange b hi x

/-- R14: one field of a written word, in the live register. -/
def writeField (s : State) (b off v w : Nat) (f : Fld) : Nat :=
  let x := getF v f.hi f.lo
  let old := getF w f.hi f.lo
  match f.acc with
  | .rw => if fieldOk s b off f.hi x then setF w f.hi f.lo x else w
  | .rwl => if rwlLocked s then w else setF w f.hi f.lo x
  | .w1c => setF w f.hi f.lo (old - (old &&& x))
  | .w1s => setF w f.hi f.lo (old ||| x)
  | _ => w

/-- R188: one RWE field of a written word, in the shadow. -/
def writeShadow (s : State) (b off v w : Nat) (f : Fld) : Nat :=
  let x := getF v f.hi f.lo
  if f.acc == .rwe && fieldOk s b off f.hi x then setF w f.hi f.lo x else w

/-- An RWE field of the word takes its value. -/
def opensShadow (s : State) (b off v : Nat) (f : Fld) : Bool := f.acc == .rwe && fieldOk s b off f.hi (getF v f.hi f.lo)

/-- R14, R188: a write that acts as its fields' access codes give. -/
def plainWrite (r : Desc) (off : Nat) (v : Word) (s : State) : State :=
  let n := v.toNat
  let s' := s.wr off (r.fields.foldl (writeField s r.base off n) (s.rd off))
  if r.fields.any (opensShadow s r.base off n) then openShadow off (r.fields.foldl (writeShadow s r.base off n) (s.shadowWord off)) s' else s'

/-- R149: a direct write of NIB_PARTITION, ignored while any object is not FREE. -/
def partitionWrite (v : Word) (s : State) : State :=
  if s.served Reg.NIB_PARTITION then
    if s.scene.objs.any (fun p => p.2.st != .free) then s.bset Reg.NIB_ARRAY_STATUS 2 true
    else openShadow Reg.NIB_PARTITION (v.toNat % 2) s
  else s

/-- R333: a power of two from 16 to 4,096, or 0. -/
def ringSizeOk (n : Nat) : Bool := n == 0 || [16, 32, 64, 128, 256, 512, 1024, 2048, 4096].contains n

/-- R333, R344: a write of a ring register of port `p` at offset `rel` of its layout. -/
def ringWriteReg (m : Master) (p rel off : Nat) (r : Desc) (v : Word) (s : State) : State :=
  let tx := decide (0x200 ≤ rel)
  let ring := rel % 0x80 / 0x40
  let o := rel % 0x40
  if m == .host && ring == 0 then s
  else if o = 0x14 then ringTailWrite m off v s
  else if ringSize s p tx ring ≠ 0 then s
  else if o = 8 then (if ringSizeOk (v.toNat % 2 ^ 13) then s.wr off (v.toNat % 2 ^ 13) else s)
  else if o = 0xC then (if 4 ≤ getF v.toNat 14 6 && getF v.toNat 14 6 ≤ 256 then plainWrite r off v s else s)
  else plainWrite r off v s

/-- R344, R345: a write of a register of port `p` (16: the management port). -/
def netWrite (m : Master) (p off : Nat) (r : Desc) (v : Word) (s : State) : State :=
  let rel := off - netReg p 0
  let x := v.toNat
  if rel = 0 then netCtlWrite p v s
  else if rel = 8 then (if 1522 ≤ x % 2 ^ 14 && x % 2 ^ 14 ≤ 9216 then plainWrite r off v s else s)
  else if rel = 0x24 then preemptWrite p v s
  else if 0x30 ≤ rel && rel < 0x40 then slopeWrite p ((rel - 0x30) / 4) v s
  else if rel = 0x40 then mdioWrite v s
  else if 0x100 ≤ rel && rel < 0x280 then ringWriteReg m p rel off r v s
  else plainWrite r off v s

/-- R411: resampler channel `c` belongs to a port that is enabled. -/
def channelBusy (s : State) (c : Nat) : Bool :=
  (List.range 32).any (fun p => tdmOn s p && tdmMode s p == 2 && (rsUsed s p).contains c)

/-- R468: bytes that the image's other regions may take. -/
def syncOthers : Nat := 262144 + 1048576 + 4521984 + 18874368 + 5242880

/-- R468, R474: a length of a sync range that keeps the image within 64 MiB. -/
def syncLenOk (s : State) (i v : Nat) : Bool :=
  let sum := ((List.range 8).filter (fun j => j != i)).foldl (fun a j => a + s.rd (Reg.TWIN_SYNC_LEN j)) v
  decide (sum + syncOthers ≤ 67108864)

/-- Writes of GLB, HIF, SEC and DBG registers that act; none for a plain write. -/
def controlWrite (b i : Nat) (v : Word) (s : State) : Option State :=
  if b = Reg.GLB_COMMIT_EPOCH_HI then some (doSeal v s)
  else if b = Reg.GLB_COMMIT_ABANDON then some (doAbandon v s)
  else if b = Reg.HIF_DRAM_WIN then some (dramWinWrite v s)
  else if b = Reg.HIF_BOOT_DOORBELL then some (bootDoorbell v s)
  else if b = Reg.HIF_ABORT then some (abortWrite v s)
  else if b = Reg.SEC_CTL then some (svnWrite v s)
  else if b = Reg.SEC_FUSE_CTL then some (fuseCtlWrite v s)
  else if b = Reg.SEC_TWIN_KEY 0 then some (s.wr (Reg.SEC_TWIN_KEY i) v.toNat)
  else if b = Reg.SEC_TWIN_KEY_CTL then some (twinKeyWrite v s)
  else if b = Reg.DBG_CTL then some (dbgCtlWrite v s)
  else if b = Reg.DBG_AUTH_DATA 0 then some (s.wr (Reg.DBG_AUTH_DATA i) v.toNat)
  else if b = Reg.DBG_TRACE_CTL then some (traceCtlWrite v s)
  else if b = Reg.STAT_SNAP then some (snapWrite v s)
  else if b = Reg.EVT_ROUTE 0 then (if getF v.toNat 21 16 < capTiles s.variant then none else some s)
  else none

/-- Writes of PWR, CLK and TIME registers that act; none for a plain write. -/
def timeWrite (b : Nat) (v : Word) (s : State) : Option State :=
  let n := v.toNat
  if b = Reg.PWR_CTL then some (pwrCtlWrite v s)
  else if b = Reg.PWR_AVS then some (avsWrite v s)
  else if b = Reg.PWR_FEED_THR then (if n % 65536 < 9500 || 13800 < n / 65536 then some s else none)
  else if b = Reg.CLK_MEDIA_CTL then some (mediaCtlWrite v s)
  else if b = Reg.TIME_CTL then some (timeCtlWrite v s)
  else if b = Reg.TIME_FREQ then some (freqWrite v s)
  else if b = Reg.TIME_OFS_HI then some (ofsHiWrite v s)
  else if b = Reg.TIME_GM_ID_HI then some (gmIdWrite v s)
  else if b = Reg.TIME_NOW_SEC_HI then some (nowSecWrite v s)
  else if [Reg.TIME_OFS_LO, Reg.TIME_GM_ID_LO, Reg.TIME_NOW_SUB, Reg.TIME_NOW_NS, Reg.TIME_NOW_SEC_LO].contains b then some (s.holdWord b v)
  else none

/-- Writes of QUEUE, MEMC and DDR registers that act; none for a plain write. -/
def storeRegWrite (m : Master) (b i j : Nat) (v : Word) (s : State) : Option State :=
  let n := v.toNat
  if b = Reg.QUEUE_CFG 0 then some (doCfg m i v s)
  else if b = Reg.QUEUE_BASE 0 then (if hostBarred m i || s.qEnabled i then some s else none)
  else if b = Reg.QUEUE_WM 0 then some (doWm i v s)
  else if b = Reg.QUEUE_PUSH_LO 0 then some { s with qHold := Tab.put (fun _ => 0) s.qHold (Master.key m * 256 + i) v }
  else if b = Reg.QUEUE_PUSH_HI 0 then some (doPush m i v false s)
  else if b = Reg.QUEUE_FLUSH 0 then some (doFlush m i v s)
  else if b = Reg.MEMC_WIN_BASE 0 0 then some (if hasWindows i then s.holdWord (Reg.MEMC_WIN_BASE i j) (toW (n % 2 ^ 17)) else s)
  else if b = Reg.MEMC_WIN_LEN 0 0 then some (doWinLen i j v s)
  else if b = Reg.MEMC_BANK_PWR 0 then some (doBankPwr i v s)
  else if b = Reg.DDR_CTL 0 then some (ddrCtlWrite i v s)
  else if b = Reg.DDR_WQ 0 then (if getF n 21 16 ≤ getF n 5 0 || 56 < getF n 21 16 then some s else none)
  else if b = Reg.DDR_TRN_DATA 0 then some (trnWrite i v s)
  else if b = Reg.DDR_TEST_CTL 0 then some (testStart i v s)
  else none

/-- R234, R235, R510: writes of QCORE registers that act; none for a plain write. -/
def coreWrite (b k : Nat) (v : Word) (s : State) : Option State :=
  if b = Reg.QCORE_CTL 0 then some (doQcoreCtl k v.toNat s)
  else if b = Reg.QCORE_DOORBELL 0 then some (doDoorbell k v s)
  else if b = Reg.QCORE_PM_LO 0 then some (s.holdWord (Reg.QCORE_PM_LO k) v)
  else if b = Reg.QCORE_PM_HI 0 then some (doPmHi k v s)
  else if b = Reg.QCORE_BRK 0 0 || b = Reg.QCORE_DBG_SEL 0 then (if s.quillDebug k then none else some s)
  else if b = Reg.QCORE_DBG_DATA 0 then
    some (if (s.core k).st == .halted && s.quillDebug k then s.setCore k (dbgSet (s.core k) (s.rd (Reg.QCORE_DBG_SEL k)) v) else s)
  else none

/-- Writes of TDM, COND, NIB and TWIN registers that act; none for a plain write. -/
def unitWrite (b i : Nat) (v : Word) (s : State) : Option State :=
  let n := v.toNat
  if b = Reg.TDM_CTL 0 then some (tdmCtlWrite i v s)
  else if b = Reg.TDM_RX_RING 0 || b = Reg.TDM_TX_RING 0 || b = Reg.TDM_RS 0 then (if s.bget (Reg.TDM_CTL i) 31 then some s else none)
  else if b = Reg.COND_RS_CTL 0 || b = Reg.COND_RS_RATIO_LO 0 || b = Reg.COND_RS_RATIO_HI 0 then (if channelBusy s i then some s else none)
  else if b = Reg.NIB_PARTITION then some (partitionWrite v s)
  else if b = Reg.TWIN_CTL then some (twinCtlWrite v s)
  else if b = Reg.TWIN_CFG then
    (if s.bget Reg.TWIN_CTL 31 then
      some ((if 1 ≤ getF n 23 16 then s.fset b 23 16 (getF n 23 16) else s).bset b 30 (bitOf n 30) |>.fset b 15 0 (getF n 15 0))
     else none)
  else if b = Reg.TWIN_SYNC_LEN 0 then (if syncLenOk s i (n &&& 0x03FFFC00) then none else some s)
  else none

/-- Writes that act beyond their access code, by row; none for a plain write. -/
def specialWrite (m : Master) (r : Desc) (i j off : Nat) (v : Word) (s : State) : Option State :=
  match unitOf r.base with
  | some .glb => controlWrite r.base i v s
  | some .hif => controlWrite r.base i v s
  | some .sec => controlWrite r.base i v s
  | some .dbg => controlWrite r.base i v s
  | some .stat => controlWrite r.base i v s
  | some .evt => controlWrite r.base i v s
  | some .pwr => timeWrite r.base v s
  | some .clk => timeWrite r.base v s
  | some .time => timeWrite r.base v s
  | some .net => some (netWrite m i off r v s)
  | some .mgmt => some (netWrite m 16 off r v s)
  | some .queue => storeRegWrite m r.base i j v s
  | some .memc => storeRegWrite m r.base i j v s
  | some .ddr => storeRegWrite m r.base i j v s
  | some .qcore => coreWrite r.base i v s
  | some .tdm => unitWrite r.base i v s
  | some .cond => unitWrite r.base i v s
  | some .nib => unitWrite r.base i v s
  | some .twin => unitWrite r.base i v s
  | _ => none

/-- R563: an aligned write: nothing at an offset that no register holds, or whose unit or instance is absent (R7). -/
def alignedWrite (m : Master) (off : Nat) (v : Word) (s : State) : State :=
  if s.served off then
    match descOf off with
    | some (r, is) =>
      match specialWrite m r (nth 0 is 0) (nth 0 is 1) off v s with
      | some s' => s'
      | none => plainWrite r off v s
    | none => s
  else s

/-- R12: a write of a BAR0 offset. -/
def regWrite (m : Master) (off : Nat) (v : Word) (s : State) : State :=
  if off % 4 = 0 then alignedWrite m off v s else misaligned off s

/-- R509, R510: a TAP instruction that reaches registers is selected; a barred one selects BYPASS, and no access happens. -/
def tapAccess (code : Nat) (act : State → State) (s : State) : State :=
  if tapPowered s && tapAllows code s then act (s.sc (fun x => { x with ir := code })) else tapScan 0xFF [] s

/-- R509: SEC_AUTH reaches the DBG unit's registers. -/
def secAuthAccess (off : Nat) (write : Bool) (v : Word) (s : State) : State :=
  tapAccess 0x10 (fun s => if write then regWrite .dbg (0x300000 + off % 65536) v s else regRead .dbg (0x300000 + off % 65536) s) s

/-- R568, R569: a fabric read by DBG_ACCESS: MRAM, the program memory alias and unmapped addresses read 0. -/
def dbgRead (a : Nat) (s : State) : State :=
  if 0x10000000 ≤ a && a < 0x11000000 then regRead .dbg (a - 0x10000000) s
  else if inBanks a || (decide (0x800000000 ≤ a) && decide (a < hostBit)) then
    let r := fabRead a s
    r.2.answer r.1.1
  else s.answer 0

/-- R568, R569: a fabric write by DBG_ACCESS. -/
def dbgWrite (a : Nat) (v : Word) (own : PortOp) (s : State) : State :=
  if 0x10000000 ≤ a && a < 0x11000000 then regWrite .dbg (a - 0x10000000) v s
  else if a < hostBit then withOwner a own (fabWrite a v false) s
  else s

/-- SHADOW_WRITE (R188). -/
def execShadowWrite (m : Master) (off : Nat) (v : Word) (s : State) : Host.Outcome State Fault Refusal := .next (regWrite m off v s)

/-- REGISTER_WRITE (R14, R16): a W1C bit that hardware sets in the same cycle is set by a later command, and ends at 1. -/
def execRegisterWrite (m : Master) (off : Nat) (v : Word) (s : State) : Host.Outcome State Fault Refusal := .next (regWrite m off v s)

/-- PANIC_MUTE_WRITE (R181): a write of OUT_CTL. -/
def execPanicMuteWrite (m : Master) (v : Word) (s : State) : Host.Outcome State Fault Refusal := .next (regWrite m Reg.OUT_CTL v s)

/-- NIB_PARTITION_WRITE (R149). -/
def execNibPartitionWrite (_m : Master) (v : Word) (s : State) : Host.Outcome State Fault Refusal := .next (partitionWrite v s)

/-- SEC_AUTH (R509, R510): an access of the DBG unit's register at an offset of the unit. -/
def execSecAuth (off : Nat) (write : Bool) (v : Word) (s : State) : Host.Outcome State Fault Refusal := .next (secAuthAccess off write v s)

/-- DBG_ACCESS (R509, R560, R569): a 32-bit access of a fabric byte address. -/
def execDbgAccess (a : Nat) (write : Bool) (v : Word) (s : State) (own : PortOp := .idle) : Host.Outcome State Fault Refusal :=
  .next (tapAccess 0x11 (if write then dbgWrite a v own else dbgRead a) s)

end Sys2Proof.Machine
end

