-- ==== Sys2Proof/Machine/Dispatch.lean ====
section
/-! DEFINITION. The dispatch of a command to its meaning: one arm per constructor of Instr, one direct call each. -/

namespace Sys2Proof.Machine

/-- A command's effect on everything but the queue of waiting commands. -/
def exec (i : Instr) (s : State) : Host.Outcome State Fault Refusal :=
  match i with
  | .boundaryPulse => Sys2Proof.Machine.execBoundaryPulse s
  | .releaseFadeComplete obj => Sys2Proof.Machine.execReleaseFadeComplete obj s
  | .partitionMuteEnd => Sys2Proof.Machine.execPartitionMuteEnd s
  | .inkwellWritePathCopy => Sys2Proof.Machine.execInkwellWritePathCopy s
  | .rulingPass finish => Sys2Proof.Machine.execRulingPass finish s
  | .overrideMerge => Sys2Proof.Machine.execOverrideMerge s
  | .rulingDeadline reached => Sys2Proof.Machine.execRulingDeadline reached s
  | .quillDeadline => Sys2Proof.Machine.execQuillDeadline s
  | .nibGroupRender tile g finish => Sys2Proof.Machine.execNibGroupRender tile g finish s
  | .nibBistPass tile lane sigOk crcOk => Sys2Proof.Machine.execNibBistPass tile lane sigOk crcOk s
  | .nibDeadline part => Sys2Proof.Machine.execNibDeadline part s
  | .sumTreeReduce g => Sys2Proof.Machine.execSumTreeReduce g s
  | .outputGroupProcess g finish => Sys2Proof.Machine.execOutputGroupProcess g finish s
  | .outputStageDeadline written => Sys2Proof.Machine.execOutputStageDeadline s written
  | .commitVerdict => Sys2Proof.Machine.execCommitVerdict s
  | .commitSeal m v => Sys2Proof.Machine.execCommitSeal m v s
  | .commitAbandon m v => Sys2Proof.Machine.execCommitAbandon m v s
  | .armRaise cid p => Sys2Proof.Machine.execArmRaise cid p s
  | .shadowWrite m off v => Sys2Proof.Machine.execShadowWrite m off v s
  | .registerWrite m off v => Sys2Proof.Machine.execRegisterWrite m off v s
  | .rcRead m off => Sys2Proof.Machine.execRcRead m off s
  | .latchingRead m off => Sys2Proof.Machine.execLatchingRead m off s
  | .misalignedAccess m off write => Sys2Proof.Machine.execMisalignedAccess m off write s
  | .nop q tag args => Sys2Proof.Machine.execNop q tag args s
  | .renderCfg q tag args => Sys2Proof.Machine.execRenderCfg q tag args s
  | .renderStart q tag args => Sys2Proof.Machine.execRenderStart q tag args s
  | .powerReq q tag args => Sys2Proof.Machine.execPowerReq q tag args s
  | .clockSet q tag args => Sys2Proof.Machine.execClockSet q tag args s
  | .abort q tag args => Sys2Proof.Machine.execAbort q tag args s
  | .folioLoad q tag args => Sys2Proof.Machine.execFolioLoad q tag args s
  | .mramWrite q tag args => Sys2Proof.Machine.execMramWrite q tag args s
  | .mramCommit q tag args => Sys2Proof.Machine.execMramCommit q tag args s
  | .dmaCopy q tag args => Sys2Proof.Machine.execDmaCopy q tag args s
  | .objSpawn q tag args => Sys2Proof.Machine.execObjSpawn q tag args s
  | .objSet q tag args => Sys2Proof.Machine.execObjSet q tag args s
  | .objRelease q tag args => Sys2Proof.Machine.execObjRelease q tag args s
  | .objGet q tag args => Sys2Proof.Machine.execObjGet q tag args s
  | .trajPush q tag args => Sys2Proof.Machine.execTrajPush q tag args s
  | .trajFlush q tag args => Sys2Proof.Machine.execTrajFlush q tag args s
  | .spkSet q tag args => Sys2Proof.Machine.execSpkSet q tag args s
  | .spkGet q tag args => Sys2Proof.Machine.execSpkGet q tag args s
  | .zoneSet q tag args => Sys2Proof.Machine.execZoneSet q tag args s
  | .zoneGet q tag args => Sys2Proof.Machine.execZoneGet q tag args s
  | .maskSet q tag args => Sys2Proof.Machine.execMaskSet q tag args s
  | .vbapSet q tag args => Sys2Proof.Machine.execVbapSet q tag args s
  | .partitionSet q tag args => Sys2Proof.Machine.execPartitionSet q tag args s
  | .routeSet q tag args => Sys2Proof.Machine.execRouteSet q tag args s
  | .rccLoad q tag args => Sys2Proof.Machine.execRccLoad q tag args s
  | .rccLoadComplete slot => Sys2Proof.Machine.execRccLoadComplete slot s
  | .rccClear q tag args => Sys2Proof.Machine.execRccClear q tag args s
  | .twinHandover q tag args => Sys2Proof.Machine.execTwinHandover q tag args s
  | .strayQueueWord q => Sys2Proof.Machine.execStrayQueueWord q s
  | .hifAbortWrite m v => Sys2Proof.Machine.execHifAbortWrite m v s
  | .abortComplete unit => Sys2Proof.Machine.execAbortComplete unit s
  | .dmaTransferComplete ch own => Sys2Proof.Machine.execDmaTransferComplete ch s own
  | .pcieLinkLoss => Sys2Proof.Machine.execPcieLinkLoss s
  | .hifDramWinWrite m v => Sys2Proof.Machine.execHifDramWinWrite m v s
  | .hostBootDoorbell m v => Sys2Proof.Machine.execHostBootDoorbell m v s
  | .powerGood bootSrc => Sys2Proof.Machine.execPowerGood bootSrc s
  | .bootStageComplete => Sys2Proof.Machine.execBootStageComplete s
  | .feedRise feed mv => Sys2Proof.Machine.execFeedRise feed mv s
  | .resetN ns bootSrc edge => Sys2Proof.Machine.execResetN ns bootSrc s edge
  | .msixMessage vec => Sys2Proof.Machine.execMsixMessage vec s
  | .snapRequest m v => Sys2Proof.Machine.execSnapRequest m v s
  | .snapDone => Sys2Proof.Machine.execSnapDone s
  | .statShdDataRead m => Sys2Proof.Machine.execStatShdDataRead m s
  | .tracePacket core => Sys2Proof.Machine.execTracePacket core s
  | .quillNop core x y => Sys2Proof.Machine.execQuillNop core x y s
  | .mac core aca da1 da2 acb db1 db2 opa opb y => Sys2Proof.Machine.execMac core aca da1 da2 acb db1 db2 opa opb y s
  | .add core dd ds dt y => Sys2Proof.Machine.execAdd core dd ds dt y s
  | .sub core dd ds dt y => Sys2Proof.Machine.execSub core dd ds dt y s
  | .adds core dd ds dt y => Sys2Proof.Machine.execAdds core dd ds dt y s
  | .subs core dd ds dt y => Sys2Proof.Machine.execSubs core dd ds dt y s
  | .and core dd ds dt y => Sys2Proof.Machine.execAnd core dd ds dt y s
  | .or core dd ds dt y => Sys2Proof.Machine.execOr core dd ds dt y s
  | .xor core dd ds dt y => Sys2Proof.Machine.execXor core dd ds dt y s
  | .min core dd ds dt y => Sys2Proof.Machine.execMin core dd ds dt y s
  | .max core dd ds dt y => Sys2Proof.Machine.execMax core dd ds dt y s
  | .asr core dd ds dt y => Sys2Proof.Machine.execAsr core dd ds dt y s
  | .lsl core dd ds dt y => Sys2Proof.Machine.execLsl core dd ds dt y s
  | .lsr core dd ds dt y => Sys2Proof.Machine.execLsr core dd ds dt y s
  | .cmp core ds dt y => Sys2Proof.Machine.execCmp core ds dt y s
  | .neg core dd ds y => Sys2Proof.Machine.execNeg core dd ds y s
  | .abs core dd ds y => Sys2Proof.Machine.execAbs core dd ds y s
  | .not core dd ds y => Sys2Proof.Machine.execNot core dd ds y s
  | .addi core dd ds imm y => Sys2Proof.Machine.execAddi core dd ds imm y s
  | .cmpi core ds imm y => Sys2Proof.Machine.execCmpi core ds imm y s
  | .asri core dd ds k y => Sys2Proof.Machine.execAsri core dd ds k y s
  | .lsli core dd ds k y => Sys2Proof.Machine.execLsli core dd ds k y s
  | .lsri core dd ds k y => Sys2Proof.Machine.execLsri core dd ds k y s
  | .aclr core acd y => Sys2Proof.Machine.execAclr core acd y s
  | .acmov core acd acs y => Sys2Proof.Machine.execAcmov core acd acs y s
  | .acadd core acd acs y => Sys2Proof.Machine.execAcadd core acd acs y s
  | .acsub core acd acs y => Sys2Proof.Machine.execAcsub core acd acs y s
  | .acsh core acd sh y => Sys2Proof.Machine.execAcsh core acd sh y s
  | .acld core acd ds y => Sys2Proof.Machine.execAcld core acd ds y s
  | .acneg core acd y => Sys2Proof.Machine.execAcneg core acd y s
  | .ld core r an mm pm x => Sys2Proof.Machine.execLd core r an mm pm x s
  | .st core r an mm pm x => Sys2Proof.Machine.execSt core r an mm pm x s
  | .stac core ac an mm pm x => Sys2Proof.Machine.execStac core ac an mm pm x s
  | .lds core r a x => Sys2Proof.Machine.execLds core r a x s
  | .sts core r a x => Sys2Proof.Machine.execSts core r a x s
  | .stacs core ac a x => Sys2Proof.Machine.execStacs core ac a x s
  | .mvac core d ac x => Sys2Proof.Machine.execMvac core d ac x s
  | .mov core dst src x => Sys2Proof.Machine.execMov core dst src x s
  | .ldi core dd imm x => Sys2Proof.Machine.execLdi core dd imm x s
  | .ldih core dd imm x => Sys2Proof.Machine.execLdih core dd imm x s
  | .rdac core d ac p x => Sys2Proof.Machine.execRdac core d ac p x s
  | .lia core an imm x => Sys2Proof.Machine.execLia core an imm x s
  | .lim core mn imm x => Sys2Proof.Machine.execLim core mn imm x s
  | .wrac core d ac p x => Sys2Proof.Machine.execWrac core d ac p x s
  | .adda core an mm x => Sys2Proof.Machine.execAdda core an mm x s
  | .addai core an imm x => Sys2Proof.Machine.execAddai core an imm x s
  | .fold core an x => Sys2Proof.Machine.execFold core an x s
  | .setb core bit v x => Sys2Proof.Machine.execSetb core bit v x s
  | .sscl core sc x => Sys2Proof.Machine.execSscl core sc x s
  | .br core t x => Sys2Proof.Machine.execBr core t x s
  | .bcc core c t x => Sys2Proof.Machine.execBcc core c t x s
  | .call core t x => Sys2Proof.Machine.execCall core t x s
  | .bra core an x => Sys2Proof.Machine.execBra core an x s
  | .rti core x => Sys2Proof.Machine.execRti core x s
  | .loop core d t x => Sys2Proof.Machine.execLoop core d t x s
  | .repi core count t x => Sys2Proof.Machine.execRepi core count t x s
  | .repd core d t x => Sys2Proof.Machine.execRepd core d t x s
  | .wait core x => Sys2Proof.Machine.execWait core x s
  | .brk core x => Sys2Proof.Machine.execBrk core x s
  | .blockInterrupt => Sys2Proof.Machine.execBlockInterrupt s
  | .timerInterrupt core => Sys2Proof.Machine.execTimerInterrupt core s
  | .qcoreDoorbell m core v => Sys2Proof.Machine.execQcoreDoorbell m core v s
  | .interruptEntry core => Sys2Proof.Machine.execInterruptEntry core s
  | .stallEnd core cycles => Sys2Proof.Machine.execStallEnd core cycles s
  | .postedStoreComplete core own => Sys2Proof.Machine.execPostedStoreComplete core s own
  | .start m core => Sys2Proof.Machine.execStart m core s
  | .halt m core => Sys2Proof.Machine.execHalt m core s
  | .haltTaken core => Sys2Proof.Machine.execHaltTaken core s
  | .step m core => Sys2Proof.Machine.execStep m core s
  | .reset m core => Sys2Proof.Machine.execReset m core s
  | .qcorePmHiWrite m core v => Sys2Proof.Machine.execQcorePmHiWrite m core v s
  | .qcorePmLoRead m core => Sys2Proof.Machine.execQcorePmLoRead m core s
  | .memcWinLenWrite m bank w v => Sys2Proof.Machine.execMemcWinLenWrite m bank w v s
  | .memcBankPwrWrite m bank v => Sys2Proof.Machine.execMemcBankPwrWrite m bank v s
  | .bankPwrTransitionDone bank => Sys2Proof.Machine.execBankPwrTransitionDone bank s
  | .atomicAdd m a v other => Sys2Proof.Machine.execAtomicAdd m a v s other
  | .atomicSwap m a v req other => Sys2Proof.Machine.execAtomicSwap m a v s req other
  | .subWordWrite m a be v own => Sys2Proof.Machine.execSubWordWrite m a be v s own
  | .queuePush m q v same => Sys2Proof.Machine.execQueuePush m q v s same
  | .queuePop m q => Sys2Proof.Machine.execQueuePop m q s
  | .queueFlush m q v => Sys2Proof.Machine.execQueueFlush m q v s
  | .queueEnableWrite m q v => Sys2Proof.Machine.execQueueEnableWrite m q v s
  | .queueWmWrite m q v => Sys2Proof.Machine.execQueueWmWrite m q v s
  | .dualClockArrival q same => Sys2Proof.Machine.execDualClockArrival q s same
  | .timeOfsHiWrite m v => Sys2Proof.Machine.execTimeOfsHiWrite m v s
  | .anchorSeal => Sys2Proof.Machine.execAnchorSeal s
  | .timeFreqWrite m v => Sys2Proof.Machine.execTimeFreqWrite m v s
  | .timeGmIdHiWrite m v => Sys2Proof.Machine.execTimeGmIdHiWrite m v s
  | .forceHoldWrite m v => Sys2Proof.Machine.execForceHoldWrite m v s
  | .syncTimeout => Sys2Proof.Machine.execSyncTimeout s
  | .timeNowSecHiWrite m v => Sys2Proof.Machine.execTimeNowSecHiWrite m v s
  | .timeTxtsIdRead m port => Sys2Proof.Machine.execTimeTxtsIdRead m port s
  | .ppsOutEdge => Sys2Proof.Machine.execPpsOutEdge s
  | .ppsOutWidthEnd => Sys2Proof.Machine.execPpsOutWidthEnd s
  | .ppsInEdge sub => Sys2Proof.Machine.execPpsInEdge s sub
  | .timePpsinSubRead m => Sys2Proof.Machine.execTimePpsinSubRead m s
  | .mediaRunWrite m v => Sys2Proof.Machine.execMediaRunWrite m v s
  | .mediaLock => Sys2Proof.Machine.execMediaLock s
  | .mediaUnlock => Sys2Proof.Machine.execMediaUnlock s
  | .wclkInGateEnd rate phase => Sys2Proof.Machine.execWclkInGateEnd rate phase s
  | .wclkInLoss => Sys2Proof.Machine.execWclkInLoss s
  | .rxFrame port bytes codeErr reasmErr ago sub smd more => Sys2Proof.Machine.execRxFrame port bytes codeErr reasmErr s ago sub smd more
  | .txFrameSelect port sub => Sys2Proof.Machine.execTxFrameSelect port s sub
  | .preempt port sent sub => Sys2Proof.Machine.execPreempt port sent s sub
  | .preemptVerify port ok => Sys2Proof.Machine.execPreemptVerify port ok s
  | .netLink port lock an full => Sys2Proof.Machine.execNetLink port lock s an full
  | .ringTailWrite m off v => Sys2Proof.Machine.execRingTailWrite m off v s
  | .pauseTimerExpiry port => Sys2Proof.Machine.execPauseTimerExpiry port s
  | .netPauseWd port => Sys2Proof.Machine.execNetPauseWd port s
  | .pauseHoldoffEnd port => Sys2Proof.Machine.execPauseHoldoffEnd port s
  | .netCbsSlopeWrite m port cls v => Sys2Proof.Machine.execNetCbsSlopeWrite m port cls v s
  | .mgmtMdioWrite m v => Sys2Proof.Machine.execMgmtMdioWrite m v s
  | .mdioTransactionComplete rd => Sys2Proof.Machine.execMdioTransactionComplete rd s
  | .streamFinalisation => Sys2Proof.Machine.execStreamFinalisation s
  | .streamPathTimeout n sec => Sys2Proof.Machine.execStreamPathTimeout n sec s
  | .spillRingClearDone n => Sys2Proof.Machine.execSpillRingClearDone n s
  | .streamPacketHandoff n => Sys2Proof.Machine.execStreamPacketHandoff n s
  | .tdmEnableWrite m port v => Sys2Proof.Machine.execTdmEnableWrite m port v s
  | .tdmRxFrame port slots ok phase => Sys2Proof.Machine.execTdmRxFrame port slots ok phase s
  | .tdmTxFrame port late => Sys2Proof.Machine.execTdmTxFrame port s late
  | .tdmMaskHandoff => Sys2Proof.Machine.execTdmMaskHandoff s
  | .fsAbsent port => Sys2Proof.Machine.execFsAbsent port s
  | .tdmRateGateEnd port rate => Sys2Proof.Machine.execTdmRateGateEnd port rate s
  | .condBlockOutput bits => Sys2Proof.Machine.execCondBlockOutput bits s
  | .resamplerBlock port tx => Sys2Proof.Machine.execResamplerBlock port tx s
  | .levelDetectorEvaluation => Sys2Proof.Machine.execLevelDetectorEvaluation s
  | .dramRead c arr ready syn hits => Sys2Proof.Machine.execDramRead c arr s ready syn hits
  | .dramWrite c arr ready syn fails onSpare => Sys2Proof.Machine.execDramWrite c arr ready syn fails s onSpare
  | .correctedWriteBack c ready => Sys2Proof.Machine.execCorrectedWriteBack c s ready
  | .panicRise c port => Sys2Proof.Machine.execPanicRise c port s
  | .refreshTick c => Sys2Proof.Machine.execRefreshTick c s
  | .refab c rank ready => Sys2Proof.Machine.execRefab c rank s ready
  | .ddrTempReading c t => Sys2Proof.Machine.execDdrTempReading c t s
  | .ddrEnableWrite m c v => Sys2Proof.Machine.execDdrEnableWrite m c v s
  | .apply m c v => Sys2Proof.Machine.execApply m c v s
  | .applyPause c => Sys2Proof.Machine.execApplyPause c s
  | .retire m c v => Sys2Proof.Machine.execRetire m c v s
  | .migrationCopy c bad ready soft cmdErr => Sys2Proof.Machine.execMigrationCopy c bad s ready soft cmdErr
  | .migrationComplete c => Sys2Proof.Machine.execMigrationComplete c s
  | .patrolScrubRead a syn ready => Sys2Proof.Machine.execPatrolScrubRead a syn s ready
  | .ddrTestStart m c v => Sys2Proof.Machine.execDdrTestStart m c v s
  | .ddrTestDone c bits ecc mrr beats more ready => Sys2Proof.Machine.execDdrTestDone c bits ecc mrr beats s more ready
  | .heartbeat => Sys2Proof.Machine.execHeartbeat s
  | .heartbeatMiss => Sys2Proof.Machine.execHeartbeatMiss s
  | .fragmentReceive bytes => Sys2Proof.Machine.execFragmentReceive bytes s
  | .messageAccept => Sys2Proof.Machine.execMessageAccept s
  | .fragmentResend => Sys2Proof.Machine.execFragmentResend s
  | .ligatureLaneChange lane lock => Sys2Proof.Machine.execLigatureLaneChange lane lock s
  | .commit => Sys2Proof.Machine.execCommit s
  | .commitAck => Sys2Proof.Machine.execCommitAck s
  | .verdict => Sys2Proof.Machine.execVerdict s
  | .block => Sys2Proof.Machine.execBlock s
  | .recordApply => Sys2Proof.Machine.execRecordApply s
  | .recordLate => Sys2Proof.Machine.execRecordLate s
  | .repairRequest block objs => Sys2Proof.Machine.execRepairRequest block objs s
  | .repairData block entries => Sys2Proof.Machine.execRepairData block entries s
  | .bulkSyncRequest => Sys2Proof.Machine.execBulkSyncRequest s
  | .image addr bytes => Sys2Proof.Machine.execImage addr bytes s
  | .endMsg crc len => Sys2Proof.Machine.execEndMsg crc len s
  | .hello role state since => Sys2Proof.Machine.execHello role state since s
  | .takeover x => Sys2Proof.Machine.execTakeover x s
  | .yield x => Sys2Proof.Machine.execYield x s
  | .fail x => Sys2Proof.Machine.execFail x s
  | .revertReq => Sys2Proof.Machine.execRevertReq s
  | .health eye0 eye1 => Sys2Proof.Machine.execHealth eye0 eye1 s
  | .splitWaitExpiry => Sys2Proof.Machine.execSplitWaitExpiry s
  | .syncLimitExpiry => Sys2Proof.Machine.execSyncLimitExpiry s
  | .twinAliveToggle => Sys2Proof.Machine.execTwinAliveToggle s
  | .peerAliveAbsent => Sys2Proof.Machine.execPeerAliveAbsent s
  | .twinSelConfirmLoss => Sys2Proof.Machine.execTwinSelConfirmLoss s
  | .twinEnWrite m v => Sys2Proof.Machine.execTwinEnWrite m v s
  | .kick m v => Sys2Proof.Machine.execKick m v s
  | .restart m v => Sys2Proof.Machine.execRestart m v s
  | .fault m v => Sys2Proof.Machine.execFault m v s
  | .feedSample a b => Sys2Proof.Machine.execFeedSample a b s
  | .holdUpEnd => Sys2Proof.Machine.execHoldUpEnd s
  | .feedCollapse feed => Sys2Proof.Machine.execFeedCollapse feed s
  | .reqActive m v => Sys2Proof.Machine.execReqActive m v s
  | .reqQuiet m v => Sys2Proof.Machine.execReqQuiet m v s
  | .reqStandby m v => Sys2Proof.Machine.execReqStandby m v s
  | .quietEntry => Sys2Proof.Machine.execQuietEntry s
  | .banksOnComplete => Sys2Proof.Machine.execBanksOnComplete s
  | .standbyEntry => Sys2Proof.Machine.execStandbyEntry s
  | .wake src bootSrc => Sys2Proof.Machine.execWake src bootSrc s
  | .thermalTrip => Sys2Proof.Machine.execThermalTrip s
  | .sensorUpdate cls idx v => Sys2Proof.Machine.execSensorUpdate cls idx v s
  | .avsStepReqWrite m v => Sys2Proof.Machine.execAvsStepReqWrite m v s
  | .avsRegulatorStep => Sys2Proof.Machine.execAvsRegulatorStep s
  | .pwrAvsGuard => Sys2Proof.Machine.execPwrAvsGuard s
  | .operatingHour => Sys2Proof.Machine.execOperatingHour s
  | .marginPlannerRun gain after eyes => Sys2Proof.Machine.execMarginPlannerRun gain after s eyes
  | .svnCommit m v => Sys2Proof.Machine.execSvnCommit m v s
  | .fuseBurnStart m v => Sys2Proof.Machine.execFuseBurnStart m v s
  | .fuseBurnComplete => Sys2Proof.Machine.execFuseBurnComplete s
  | .challenge m v => Sys2Proof.Machine.execChallenge m v s
  | .go m v => Sys2Proof.Machine.execGo m v s
  | .debugVerifyComplete => Sys2Proof.Machine.execDebugVerifyComplete s
  | .debugSessionEnd m v => Sys2Proof.Machine.execDebugSessionEnd m v s
  | .store m v => Sys2Proof.Machine.execStore m v s
  | .bypass tdi => Sys2Proof.Machine.execBypass tdi s
  | .idcode tdi => Sys2Proof.Machine.execIdcode tdi s
  | .samplePreload tdi => Sys2Proof.Machine.execSamplePreload tdi s
  | .extest tdi => Sys2Proof.Machine.execExtest tdi s
  | .secAuth off write v => Sys2Proof.Machine.execSecAuth off write v s
  | .dbgAccess a write v own => Sys2Proof.Machine.execDbgAccess a write v s own
  | .scribeDm acc => Sys2Proof.Machine.execScribeDm s acc
  | .panicMuteWrite m v => Sys2Proof.Machine.execPanicMuteWrite m v s
  | .nibPartitionWrite m v => Sys2Proof.Machine.execNibPartitionWrite m v s
  | .sampleEdge dev => Sys2Proof.Machine.execSampleEdge dev s
  | .twinAliveInEdge us => Sys2Proof.Machine.execTwinAliveInEdge us s
  | .pcieLinkUp => Sys2Proof.Machine.execPcieLinkUp s
  | .bar2Write a v own acc => Sys2Proof.Machine.execBar2Write a v s own acc
  | .undefinedEncoding core => Sys2Proof.Machine.execUndefinedEncoding core s
  | .userUrgencyRise c port => Sys2Proof.Machine.execUserUrgencyRise c port s

end Sys2Proof.Machine
end

