-- ==== Sys2Proof/Machine/Pads.lean ====
section
/-! DEFINITION. What the output pads of the module show (R9, R509, R572, R577): the level, the unit's own signal, or the state that
reset, power and boundary scan put a pad in. -/

namespace Sys2Proof.Machine

/-- The output pads: those of the AON domain, the main domain's LVCMOS outputs, and the SerDes transmitters. -/
inductive Pad where
  | twinSel | twinAlive | pgood | thermN
  | ppsOut | wclkOut | tdmClock (port : Nat) | tdmData (port : Nat) | trace
  | mediaLane (port : Nat) | twinLane (lane : Nat) | pcie
  deriving DecidableEq, Repr

/-- What a pad shows. -/
inductive PadState where
  | level (b : Bool)
  /-- The signal of the pad's unit: a serial line, whose words State holds. -/
  | signal
  | highZ | idle | unpowered | released
  deriving DecidableEq, Repr

/-- R572: VIO_1V8 and AON_1V8 are in regulation. -/
def vio18 (s : State) : Bool := s.pwr.rails.contains .io18
def aon18 (s : State) : Bool := s.pwr.rails.contains .aon

/-- R573, R574, R577: boot has reached stage ROM, and RESET_N does not hold the SoC. -/
def romReached (s : State) : Bool := s.coreOn && s.hif.stage ≠ 0

/-- R509, R510: EXTEST is selected and allowed, so the boundary register drives the pads. -/
def extestOn (s : State) : Bool := s.sec.ir == 0x03 && tapAllows 0x03 s

/-- A number for each pad, which `Config.scanCell` places in the boundary register. -/
def Pad.code : Pad → Nat
  | .twinSel => 0 | .twinAlive => 1 | .pgood => 2 | .thermN => 3 | .ppsOut => 4 | .wclkOut => 5 | .trace => 6 | .pcie => 7
  | .tdmClock p => 16 + 8 * p | .tdmData p => 17 + 8 * p | .mediaLane p => 18 + 8 * p | .twinLane p => 19 + 8 * p

/-- R509: the boundary register's bit for a pad; a bit that no scan has shifted in is 0. -/
def scanBit (p : Pad) (s : State) : Bool := s.sec.boundary.getD (Config.scanCell p.code) false

/-- R9: the pad belongs to a port that the variant has. -/
def padPresent (s : State) : Pad → Bool
  | .tdmClock p => decide (p < capTdm s.variant)
  | .tdmData p => decide (p < capTdm s.variant)
  | .mediaLane p => decide (p < capMedia s.variant)
  | .twinLane _ => hasTwin s
  | _ => true

/-- R577: a pad of the AON domain. -/
def Pad.isAon : Pad → Bool
  | .twinSel => true | .twinAlive => true | .pgood => true | .thermN => true
  | _ => false

/-- R577: a SerDes transmitter. -/
def Pad.isSerDes : Pad → Bool
  | .mediaLane _ => true | .twinLane _ => true | .pcie => true
  | _ => false

/-- R577: the pad's supply is in regulation. -/
def padPowered (s : State) (p : Pad) : Bool :=
  if p.isAon then aon18 s else if p.isSerDes then s.pwr.rails.contains .serdes else vio18 s

/-- R577: what a pad shows without its supply: PGOOD reads low through the external pull-down, THERM_N is released. -/
def unpoweredPad : Pad → PadState
  | .pgood => .level false
  | .thermN => .released
  | _ => .unpowered

/-- R444, R573, R577, R584: what a pad shows of its own unit: the twin pins low before the ROM and under RESET_N, the main outputs
high-impedance and the SerDes idle there; TDM data float after a loss of confirmation. -/
def ownPad (s : State) : Pad → PadState
  | .twinSel => .level (romReached s && s.twin.sel)
  | .twinAlive => .level (romReached s && s.twin.alivePin)
  | .pgood => .level s.pwr.pgood
  | .thermN => if thermLow s then .level false else .released
  | .ppsOut => if romReached s then .level s.time.pps else .highZ
  | .wclkOut => if romReached s then .level s.time.wclkOut else .highZ
  | .tdmClock _ => if romReached s then .signal else .highZ
  | .tdmData _ => if romReached s && !s.twin.floating then .signal else .highZ
  | .trace => if romReached s then .signal else .highZ
  | .mediaLane _ => if romReached s then .signal else .idle
  | .twinLane _ => if romReached s then .signal else .idle
  | .pcie => if romReached s then .signal else .idle

/-- R9, R509, R577: what a pad shows. -/
def padShows (s : State) (p : Pad) : PadState :=
  if !padPowered s p then unpoweredPad p
  else if !padPresent s p then .highZ
  else if extestOn s then .level (scanBit p s)
  else ownPad s p

end Sys2Proof.Machine
end

