-- ==== Sys2Proof/WellFormed.lean ====
section
/-! DEFINITION. Well-formed commands: every operand lies in the range that the spec gives its field: register codes, cores, tiles,
objects, queues, ports, banks, offsets. A value that the spec bounds by variant (an absent instance) is well formed: the meaning says
what becomes of it. -/

namespace Sys2Proof

/-- R18: the masters: the host, the Scribe cores 0 to 3, DBG_ACCESS. -/
def Master.wf : Master → Bool
  | .host => true
  | .scribe k => decide (k < 4)
  | .dbg => true

/-- R416, R417: a DRAM request names a port and a unit of 16 words. -/
def DramArr.wf (d : DramArr) : Bool := decide (d.port < 6) && decide (d.a % 64 = 0) && decide (d.words.length = 16)

/-- R240, R242: the fields of an X-slot operation fit their places; an idle MAC line has zero fields. -/
def XOp.wf : XOp → Bool
  | .nop => true
  | .mac aca da1 da2 acb db1 db2 opa opb =>
    decide (aca < 4) && decide (da1 < 16) && decide (da2 < 16) && decide (acb < 4) && decide (db1 < 16) && decide (db2 < 16)
      && decide (opa < 4) && decide (opb < 4)
      && (opa != 0 || (aca == 0 && da1 == 0 && da2 == 0)) && (opb != 0 || (acb == 0 && db1 == 0 && db2 == 0))
  | .alu _ dd ds dt => decide (dd < 16) && decide (ds < 16) && decide (dt < 16)
  | .cmp ds dt => decide (ds < 16) && decide (dt < 16)
  | .neg dd ds => decide (dd < 16) && decide (ds < 16)
  | .abs dd ds => decide (dd < 16) && decide (ds < 16)
  | .not dd ds => decide (dd < 16) && decide (ds < 16)
  | .addi dd ds _ => decide (dd < 16) && decide (ds < 16)
  | .cmpi ds _ => decide (ds < 16)
  | .asri dd ds k => decide (dd < 16) && decide (ds < 16) && decide (k < 32)
  | .lsli dd ds k => decide (dd < 16) && decide (ds < 16) && decide (k < 32)
  | .lsri dd ds k => decide (dd < 16) && decide (ds < 16) && decide (k < 32)
  | .aclr d => decide (d < 4)
  | .acmov d s => decide (d < 4) && decide (s < 4)
  | .acadd d s => decide (d < 4) && decide (s < 4)
  | .acsub d s => decide (d < 4) && decide (s < 4)
  | .acsh d _ => decide (d < 4)
  | .acld d ds => decide (d < 4) && decide (ds < 16)
  | .acneg d => decide (d < 4)

/-- R244, R245: the fields of a Y-slot operation fit their places and ranges. -/
def YOp.wf : YOp → Bool
  | .nop => true
  | .ld r an mm _ => decide (r < 32) && decide (an < 8) && decide (mm < 8)
  | .st r an mm _ => decide (r < 32) && decide (an < 8) && decide (mm < 8)
  | .stac ac an mm _ => decide (ac < 4) && decide (an < 8) && decide (mm < 8)
  | .lds r a => decide (r < 32) && decide (a < 0x1008)
  | .sts r a => decide (r < 32) && decide (a < 0x1008)
  | .stacs ac a => decide (ac < 4) && decide (a < 0x1008)
  | .mvac d ac => decide (d < 16) && decide (ac < 4)
  | .mov dst src => (decide (dst < 32) || dst == 35 || dst == 36) && decide (src < 38)
  | .ldi dd _ => decide (dd < 16)
  | .ldih dd _ => decide (dd < 16)
  | .rdac d ac p => decide (d < 16) && decide (ac < 4) && decide (p < 3)
  | .lia an _ => decide (an < 8)
  | .lim mn _ => decide (mn < 8)
  | .wrac d ac p => decide (d < 16) && decide (ac < 4) && decide (p < 3)
  | .adda an mm => decide (an < 8) && decide (mm < 8)
  | .addai an _ => decide (an < 8)
  | .fold an => decide (an < 8)
  | .setb bit _ => [31, 8, 5, 4, 3, 2, 1, 0].contains bit
  | .sscl _ => true
  | .br t => decide (t < 4096)
  | .bcc c t => decide (c < 16) && decide (t < 4096)
  | .call t => decide (t < 4096)
  | .bra an => decide (an < 8)
  | .rti => true
  | .loop d t => decide (d < 16) && decide (t < 4096)
  | .repi count t => decide (count ≤ 4096) && decide (t < 4096)
  | .repd d t => decide (d < 16) && decide (t < 4096)
  | .wait => true
  | .brk => true

/-- The operands of a command lie in the ranges of their fields. -/
def Instr.wf : Instr → Bool
  | .boundaryPulse => true
  | .releaseFadeComplete obj => decide (obj < 2048)
  | .partitionMuteEnd => true
  | .inkwellWritePathCopy => true
  | .rulingPass _ => true
  | .overrideMerge => true
  | .rulingDeadline reached => decide (reached ≤ 4096)
  | .quillDeadline => true
  | .nibGroupRender tile g _ => decide (tile < 64) && decide (g < 8)
  | .nibBistPass tile lane _ _ => decide (tile < 64) && decide (lane < 32)
  | .nibDeadline part => part.all (fun p => decide (p.1 < 64))
  | .sumTreeReduce g => decide (g < 8)
  | .outputGroupProcess g _ => decide (g < 8)
  | .outputStageDeadline _ => true
  | .commitVerdict => true
  | .commitSeal m _ => m.wf
  | .commitAbandon m _ => m.wf
  | .armRaise _ p => decide (p < 12)
  | .shadowWrite m off _ => m.wf && decide (off < 16777216) && decide (off % 4 = 0)
  | .registerWrite m off _ => m.wf && decide (off < 16777216) && decide (off % 4 = 0)
  | .rcRead m off => m.wf && decide (off < 16777216) && decide (off % 4 = 0)
  | .latchingRead m off => m.wf && decide (off < 16777216) && decide (off % 4 = 0)
  | .misalignedAccess m off _ => m.wf && decide (off < 16777216)
  | .nop q _ args => decide (q < 8) && decide (args.length < 64)
  | .renderCfg q _ args => decide (q < 8) && decide (args.length < 64)
  | .renderStart q _ args => decide (q < 8) && decide (args.length < 64)
  | .powerReq q _ args => decide (q < 8) && decide (args.length < 64)
  | .clockSet q _ args => decide (q < 8) && decide (args.length < 64)
  | .abort q _ args => decide (q < 8) && decide (args.length < 64)
  | .folioLoad q _ args => decide (q < 8) && decide (args.length < 64)
  | .mramWrite q _ args => decide (q < 8) && decide (args.length < 64)
  | .mramCommit q _ args => decide (q < 8) && decide (args.length < 64)
  | .dmaCopy q _ args => decide (q < 8) && decide (args.length < 64)
  | .objSpawn q _ args => decide (q < 8) && decide (args.length < 64)
  | .objSet q _ args => decide (q < 8) && decide (args.length < 64)
  | .objRelease q _ args => decide (q < 8) && decide (args.length < 64)
  | .objGet q _ args => decide (q < 8) && decide (args.length < 64)
  | .trajPush q _ args => decide (q < 8) && decide (args.length < 64)
  | .trajFlush q _ args => decide (q < 8) && decide (args.length < 64)
  | .spkSet q _ args => decide (q < 8) && decide (args.length < 64)
  | .spkGet q _ args => decide (q < 8) && decide (args.length < 64)
  | .zoneSet q _ args => decide (q < 8) && decide (args.length < 64)
  | .zoneGet q _ args => decide (q < 8) && decide (args.length < 64)
  | .maskSet q _ args => decide (q < 8) && decide (args.length < 64)
  | .vbapSet q _ args => decide (q < 8) && decide (args.length < 64)
  | .partitionSet q _ args => decide (q < 8) && decide (args.length < 64)
  | .routeSet q _ args => decide (q < 8) && decide (args.length < 64)
  | .rccLoad q _ args => decide (q < 8) && decide (args.length < 64)
  | .rccLoadComplete slot => decide (slot < 256)
  | .rccClear q _ args => decide (q < 8) && decide (args.length < 64)
  | .twinHandover q _ args => decide (q < 8) && decide (args.length < 64)
  | .strayQueueWord q => decide (q < 8)
  | .hifAbortWrite m _ => m.wf
  | .abortComplete unit => decide (unit < 65536)
  | .dmaTransferComplete ch _ => decide (ch < 8)
  | .pcieLinkLoss => true
  | .hifDramWinWrite m _ => m.wf
  | .hostBootDoorbell m _ => m.wf
  | .powerGood _ => true
  | .bootStageComplete => true
  | .feedRise feed _ => decide (feed < 2)
  | .resetN _ _ _ => true
  | .msixMessage vec => decide (vec < 64)
  | .snapRequest m _ => m.wf
  | .snapDone => true
  | .statShdDataRead m => m.wf
  | .tracePacket core => decide (core < 4)
  | .quillNop core x y => (x == .nop || y == .nop) && decide (core < 64) && x.wf && y.wf
  | .mac core aca da1 da2 acb db1 db2 opa opb y => XOp.wf (.mac aca da1 da2 acb db1 db2 opa opb) && y.wf && decide (core < 64)
  | .add core dd ds dt y => XOp.wf (.alu .add dd ds dt) && y.wf && decide (core < 64)
  | .sub core dd ds dt y => XOp.wf (.alu .sub dd ds dt) && y.wf && decide (core < 64)
  | .adds core dd ds dt y => XOp.wf (.alu .adds dd ds dt) && y.wf && decide (core < 64)
  | .subs core dd ds dt y => XOp.wf (.alu .subs dd ds dt) && y.wf && decide (core < 64)
  | .and core dd ds dt y => XOp.wf (.alu .and dd ds dt) && y.wf && decide (core < 64)
  | .or core dd ds dt y => XOp.wf (.alu .or dd ds dt) && y.wf && decide (core < 64)
  | .xor core dd ds dt y => XOp.wf (.alu .xor dd ds dt) && y.wf && decide (core < 64)
  | .min core dd ds dt y => XOp.wf (.alu .min dd ds dt) && y.wf && decide (core < 64)
  | .max core dd ds dt y => XOp.wf (.alu .max dd ds dt) && y.wf && decide (core < 64)
  | .asr core dd ds dt y => XOp.wf (.alu .asr dd ds dt) && y.wf && decide (core < 64)
  | .lsl core dd ds dt y => XOp.wf (.alu .lsl dd ds dt) && y.wf && decide (core < 64)
  | .lsr core dd ds dt y => XOp.wf (.alu .lsr dd ds dt) && y.wf && decide (core < 64)
  | .cmp core ds dt y => XOp.wf (.cmp ds dt) && y.wf && decide (core < 64)
  | .neg core dd ds y => XOp.wf (.neg dd ds) && y.wf && decide (core < 64)
  | .abs core dd ds y => XOp.wf (.abs dd ds) && y.wf && decide (core < 64)
  | .not core dd ds y => XOp.wf (.not dd ds) && y.wf && decide (core < 64)
  | .addi core dd ds imm y => XOp.wf (.addi dd ds imm) && y.wf && decide (core < 64)
  | .cmpi core ds imm y => XOp.wf (.cmpi ds imm) && y.wf && decide (core < 64)
  | .asri core dd ds k y => XOp.wf (.asri dd ds k) && y.wf && decide (core < 64)
  | .lsli core dd ds k y => XOp.wf (.lsli dd ds k) && y.wf && decide (core < 64)
  | .lsri core dd ds k y => XOp.wf (.lsri dd ds k) && y.wf && decide (core < 64)
  | .aclr core acd y => XOp.wf (.aclr acd) && y.wf && decide (core < 64)
  | .acmov core acd acs y => XOp.wf (.acmov acd acs) && y.wf && decide (core < 64)
  | .acadd core acd acs y => XOp.wf (.acadd acd acs) && y.wf && decide (core < 64)
  | .acsub core acd acs y => XOp.wf (.acsub acd acs) && y.wf && decide (core < 64)
  | .acsh core acd sh y => XOp.wf (.acsh acd sh) && y.wf && decide (core < 64)
  | .acld core acd ds y => XOp.wf (.acld acd ds) && y.wf && decide (core < 64)
  | .acneg core acd y => XOp.wf (.acneg acd) && y.wf && decide (core < 64)
  | .ld core r an mm pm x => YOp.wf (.ld r an mm pm) && x.wf && decide (core < 64)
  | .st core r an mm pm x => YOp.wf (.st r an mm pm) && x.wf && decide (core < 64)
  | .stac core ac an mm pm x => YOp.wf (.stac ac an mm pm) && x.wf && decide (core < 64)
  | .lds core r a x => YOp.wf (.lds r a) && x.wf && decide (core < 64)
  | .sts core r a x => YOp.wf (.sts r a) && x.wf && decide (core < 64)
  | .stacs core ac a x => YOp.wf (.stacs ac a) && x.wf && decide (core < 64)
  | .mvac core d ac x => YOp.wf (.mvac d ac) && x.wf && decide (core < 64)
  | .mov core dst src x => YOp.wf (.mov dst src) && x.wf && decide (core < 64)
  | .ldi core dd imm x => YOp.wf (.ldi dd imm) && x.wf && decide (core < 64)
  | .ldih core dd imm x => YOp.wf (.ldih dd imm) && x.wf && decide (core < 64)
  | .rdac core d ac p x => YOp.wf (.rdac d ac p) && x.wf && decide (core < 64)
  | .lia core an imm x => YOp.wf (.lia an imm) && x.wf && decide (core < 64)
  | .lim core mn imm x => YOp.wf (.lim mn imm) && x.wf && decide (core < 64)
  | .wrac core d ac p x => YOp.wf (.wrac d ac p) && x.wf && decide (core < 64)
  | .adda core an mm x => YOp.wf (.adda an mm) && x.wf && decide (core < 64)
  | .addai core an imm x => YOp.wf (.addai an imm) && x.wf && decide (core < 64)
  | .fold core an x => YOp.wf (.fold an) && x.wf && decide (core < 64)
  | .setb core bit v x => YOp.wf (.setb bit v) && x.wf && decide (core < 64)
  | .sscl core sc x => YOp.wf (.sscl sc) && x.wf && decide (core < 64)
  | .br core t x => YOp.wf (.br t) && x.wf && decide (core < 64)
  | .bcc core c t x => YOp.wf (.bcc c t) && x.wf && decide (core < 64)
  | .call core t x => YOp.wf (.call t) && x.wf && decide (core < 64)
  | .bra core an x => YOp.wf (.bra an) && x.wf && decide (core < 64)
  | .rti core x => YOp.wf (.rti) && x.wf && decide (core < 64)
  | .loop core d t x => YOp.wf (.loop d t) && x.wf && decide (core < 64)
  | .repi core count t x => YOp.wf (.repi count t) && x.wf && decide (core < 64)
  | .repd core d t x => YOp.wf (.repd d t) && x.wf && decide (core < 64)
  | .wait core x => YOp.wf (.wait) && x.wf && decide (core < 64)
  | .brk core x => YOp.wf (.brk) && x.wf && decide (core < 64)
  | .blockInterrupt => true
  | .timerInterrupt core => decide (core < 64)
  | .qcoreDoorbell m core _ => m.wf && decide (core < 64)
  | .interruptEntry core => decide (core < 64)
  | .stallEnd core _ => decide (core < 64)
  | .postedStoreComplete core _ => decide (core < 64)
  | .start m core => m.wf && decide (core < 64)
  | .halt m core => m.wf && decide (core < 64)
  | .haltTaken core => decide (core < 64)
  | .step m core => m.wf && decide (core < 64)
  | .reset m core => m.wf && decide (core < 64)
  | .qcorePmHiWrite m core _ => m.wf && decide (core < 64)
  | .qcorePmLoRead m core => m.wf && decide (core < 64)
  | .memcWinLenWrite m bank w _ => m.wf && decide (bank < 288) && decide (w < 16)
  | .memcBankPwrWrite m bank _ => m.wf && decide (bank < 288)
  | .bankPwrTransitionDone bank => decide (bank < 288)
  | .atomicAdd m a _ _ => m.wf && decide (0x100000000 ≤ a) && decide (a < 0x108000000 || m != .host) && decide (a % 4 = 0)
  | .atomicSwap m a _ _ _ => m.wf && decide (0x100000000 ≤ a) && decide (a < 0x108000000 || m != .host) && decide (a % 4 = 0)
  | .subWordWrite m a _ _ _ => m.wf && decide (0x100000000 ≤ a) && decide (a < 0x108000000 || m != .host) && decide (a % 4 = 0)
  | .queuePush m q _ _ => m.wf && decide (q < 256)
  | .queuePop m q => m.wf && decide (q < 256)
  | .queueFlush m q _ => m.wf && decide (q < 256)
  | .queueEnableWrite m q _ => m.wf && decide (q < 256)
  | .queueWmWrite m q _ => m.wf && decide (q < 256)
  | .dualClockArrival q _ => decide (q < 256)
  | .timeOfsHiWrite m _ => m.wf
  | .anchorSeal => true
  | .timeFreqWrite m _ => m.wf
  | .timeGmIdHiWrite m _ => m.wf
  | .forceHoldWrite m _ => m.wf
  | .syncTimeout => true
  | .timeNowSecHiWrite m _ => m.wf
  | .timeTxtsIdRead m port => m.wf && decide (port < 16)
  | .ppsOutEdge => true
  | .ppsOutWidthEnd => true
  | .ppsInEdge late => decide (late ≤ 128)
  | .timePpsinSubRead m => m.wf
  | .mediaRunWrite m _ => m.wf
  | .mediaLock => true
  | .mediaUnlock => true
  | .wclkInGateEnd _ _ => true
  | .wclkInLoss => true
  | .rxFrame port bytes _ _ ago late smd more => decide (port < 17) && decide (bytes.length < 65536) && decide (ago < 2 ^ 20) && decide (late ≤ 128)
      && decide (smd < 256) && decide (more.length < 256) && more.all (fun f => decide (f.smd < 256) && decide (f.count < 256) && decide (f.bytes.length < 65536))
  | .txFrameSelect port late => decide (port < 17) && decide (late < 2 ^ 20)
  | .preempt port _ late => decide (port < 17) && decide (late < 2 ^ 20)
  | .preemptVerify port _ => decide (port < 17)
  | .netLink port _ _ _ => decide (port < 17)
  | .ringTailWrite m off _ => m.wf && decide (off < 16777216) && decide (off % 4 = 0)
  | .pauseTimerExpiry port => decide (port < 17)
  | .netPauseWd port => decide (port < 17)
  | .pauseHoldoffEnd port => decide (port < 17)
  | .netCbsSlopeWrite m port cls _ => m.wf && decide (port < 17) && decide (cls < 4)
  | .mgmtMdioWrite m _ => m.wf
  | .mdioTransactionComplete _ => true
  | .streamFinalisation => true
  | .streamPathTimeout n _ => decide (n < 1024)
  | .spillRingClearDone n => decide (n < 1024)
  | .streamPacketHandoff n => decide (n < 1024)
  | .tdmEnableWrite m port _ => m.wf && decide (port < 32)
  | .tdmRxFrame port slots _ _ => decide (port < 32) && decide (slots.length ≤ 32)
  | .tdmTxFrame port _ => decide (port < 32)
  | .tdmMaskHandoff => true
  | .fsAbsent port => decide (port < 32)
  | .tdmRateGateEnd port _ => decide (port < 32)
  | .condBlockOutput _ => true
  | .resamplerBlock port _ => decide (port < 32)
  | .levelDetectorEvaluation => true
  | .dramRead c arr _ syn hits => decide (c < 2) && arr.all DramArr.wf && decide (syn.length ≤ 16) && hits.all (fun h => decide (h.1 < 0x1000000000) && decide (h.2 ≤ 2))
  | .dramWrite c arr _ syn _ _ => decide (c < 2) && arr.all DramArr.wf && decide (syn.length ≤ 16)
  | .correctedWriteBack c _ => decide (c < 2)
  | .panicRise c port => decide (c < 2) && decide (port < 3)
  | .refreshTick c => decide (c < 2)
  | .refab c rank _ => decide (c < 2) && decide (rank < 3)
  | .ddrTempReading c _ => decide (c < 2)
  | .ddrEnableWrite m c _ => m.wf && decide (c < 2)
  | .apply m c _ => m.wf && decide (c < 2)
  | .applyPause c => decide (c < 2)
  | .retire m c _ => m.wf && decide (c < 2)
  | .migrationCopy c _ _ _ _ => decide (c < 2)
  | .migrationComplete c => decide (c < 2)
  | .patrolScrubRead a syn _ => decide (0x800000000 ≤ a) && decide (a < 0x1000000000) && decide (a % 64 = 0) && decide (syn.length ≤ 16)
  | .ddrTestStart m c _ => m.wf && decide (c < 2)
  | .ddrTestDone c _ _ _ _ _ _ => decide (c < 2)
  | .heartbeat => true
  | .heartbeatMiss => true
  | .fragmentReceive bytes => decide (bytes.length < 65536)
  | .messageAccept => true
  | .fragmentResend => true
  | .ligatureLaneChange lane _ => decide (lane < 2)
  | .commit => true
  | .commitAck => true
  | .verdict => true
  | .block => true
  | .recordApply => true
  | .recordLate => true
  | .repairRequest _ objs => objs.all (fun o => decide (o < 2048))
  | .repairData _ entries => entries.all (fun e => decide (e.1 < 2048))
  | .bulkSyncRequest => true
  | .image _ bytes => decide (bytes.length ≤ 1048576)
  | .endMsg _ _ => true
  | .hello role state _ => decide (role < 4) && decide (state < 8)
  | .takeover _ => true
  | .yield _ => true
  | .fail _ => true
  | .revertReq => true
  | .health _ _ => true
  | .splitWaitExpiry => true
  | .syncLimitExpiry => true
  | .twinAliveToggle => true
  | .peerAliveAbsent => true
  | .twinSelConfirmLoss => true
  | .twinEnWrite m _ => m.wf
  | .kick m _ => m.wf
  | .restart m _ => m.wf
  | .fault m _ => m.wf
  | .feedSample _ _ => true
  | .holdUpEnd => true
  | .feedCollapse feed => decide (feed < 2)
  | .reqActive m _ => m.wf
  | .reqQuiet m _ => m.wf
  | .reqStandby m _ => m.wf
  | .quietEntry => true
  | .banksOnComplete => true
  | .standbyEntry => true
  | .wake src _ => decide (src < 3)
  | .thermalTrip => true
  | .sensorUpdate cls idx _ => decide (cls < 4) && decide (idx < 64)
  | .avsStepReqWrite m _ => m.wf
  | .avsRegulatorStep => true
  | .pwrAvsGuard => true
  | .operatingHour => true
  | .marginPlannerRun _ _ eyes => eyes.all (fun e => decide (e.1 < 2) && decide (e.2.1 < 2 ^ 27))
  | .svnCommit m _ => m.wf
  | .fuseBurnStart m _ => m.wf
  | .fuseBurnComplete => true
  | .challenge m _ => m.wf
  | .go m _ => m.wf
  | .debugVerifyComplete => true
  | .debugSessionEnd m _ => m.wf
  | .store m _ => m.wf
  | .bypass _ => true
  | .idcode _ => true
  | .samplePreload _ => true
  | .extest _ => true
  | .secAuth off _ _ => decide (off < 16777216) && decide (off % 4 = 0)
  | .dbgAccess _ _ _ _ => true
  | .scribeDm acc => match acc with
    | some (a, _) => decide (a < 128)
    | none => true
  | .panicMuteWrite m _ => m.wf
  | .nibPartitionWrite m _ => m.wf
  | .sampleEdge _ => true
  | .twinAliveInEdge _ => true
  | .pcieLinkUp => true
  | .bar2Write a _ _ acc => decide (a % 4 = 0) && (match acc with
      | .write => decide (a < 0x20000000)
      | .read => decide (a < 0x20000000)
      | .load c => decide (c < 4)
      | .fetch c => decide (c < 4)
      | .store c => decide (c < 4)
      | .cfgRead _ => decide (a = 0)
      | .cfgWrite _ => decide (a = 0))
  | .undefinedEncoding core => decide (core < 64)
  | .userUrgencyRise c port => decide (c < 2) && decide (port < 3)

end Sys2Proof
end

