-- ==== Sys2Proof/Safety.lean ====
section
/-! DEFINITION. The terms in which claims about the module are stated: what a command leaves unchanged, when a Quill core runs a
bundle and what the bundle sees, and the invariants of the state. -/

namespace Sys2Proof.Machine

/-- Memory stands in its canonical form. -/
def Inv (s : State) : Prop := s.mem.wf = true

/-- The register files of a Quill core hold as many registers as R204 names. -/
def QCore.shaped (c : QCore) : Prop := c.d.length = 16 ∧ c.a.length = 8 ∧ c.m.length = 8 ∧ c.ac.length = 4 ∧ c.acm.length = 4

/-- A byte of memory. -/
def State.byteAt (s : State) (a : Nat) : Byte := s.mem.rdByte a

/-- The registers that a bundle of core `k` sees: after RTI every result in flight has landed (R223). -/
def seen (s : State) (k : Nat) : QCore := (s.core k).released

/-- Core `k` runs the bundle (x, y): the core is free to issue it, program memory holds it at the pc with a good check, decoding
it faults on nothing, and the write buffer has room for its store. -/
def Runs (s : State) (k : Nat) (x : XOp) (y : YOp) : Prop :=
  canIssue s k = true ∧ decodeBundle (s.core k).bundle = some (x, y) ∧ bufferFull (seen s k) y = false
    ∧ (seen s k).pmBad.contains (seen s k).pc = false ∧ faultCause (seen s k) y = 0

/-- The registers once the loads that were in flight have landed (R208). -/
def landed (s : State) (k : Nat) : QCore :=
  let c := seen s k
  { c.land.foldl (fun c p => c.inReg p.1 p.2) c with land := [], repTail := false, waiting := false, hold := false, bufWait := false, lastPc := c.pc }

/-- The registers after the Y slot's writes, on which the X slot's results land (R252). -/
def yView (s : State) (k : Nat) (y : YOp) : QCore := yRegs s k (seen s k) y (landed s k)

/-- The state after the registers of a bundle are written and before its memory access. -/
def afterRegs (s : State) (k : Nat) (x : XOp) (y : YOp) : State :=
  s.setCore k (bundleHalt s k y (seen s k) (bundleRegs s k x y (seen s k)))

/-- The state after a bundle. -/
def afterBundle (s : State) (k : Nat) (x : XOp) (y : YOp) : State :=
  match yMem (seen s k) y with
  | some m => bundleMem k m (afterRegs s k x y)
  | none => afterRegs s k x y

/-- The bundle is not the last delay slot of an RTI, which restores the status register after it (R223). -/
def NoRestore (s : State) (k : Nat) : Prop := ∀ d, (seen s k).delay = some d → d.status = none

/-- The command that issues an X-slot operation with its companion. -/
def xCmd (k : Nat) (x : XOp) (y : YOp) : Instr :=
  match x with
  | .nop => .quillNop k .nop y
  | .mac aca da1 da2 acb db1 db2 opa opb => .mac k aca da1 da2 acb db1 db2 opa opb y
  | .alu .add dd ds dt => .add k dd ds dt y
  | .alu .sub dd ds dt => .sub k dd ds dt y
  | .alu .adds dd ds dt => .adds k dd ds dt y
  | .alu .subs dd ds dt => .subs k dd ds dt y
  | .alu .and dd ds dt => .and k dd ds dt y
  | .alu .or dd ds dt => .or k dd ds dt y
  | .alu .xor dd ds dt => .xor k dd ds dt y
  | .alu .min dd ds dt => .min k dd ds dt y
  | .alu .max dd ds dt => .max k dd ds dt y
  | .alu .asr dd ds dt => .asr k dd ds dt y
  | .alu .lsl dd ds dt => .lsl k dd ds dt y
  | .alu .lsr dd ds dt => .lsr k dd ds dt y
  | .cmp ds dt => .cmp k ds dt y
  | .neg dd ds => .neg k dd ds y
  | .abs dd ds => .abs k dd ds y
  | .not dd ds => .not k dd ds y
  | .addi dd ds imm => .addi k dd ds imm y
  | .cmpi ds imm => .cmpi k ds imm y
  | .asri dd ds n => .asri k dd ds n y
  | .lsli dd ds n => .lsli k dd ds n y
  | .lsri dd ds n => .lsri k dd ds n y
  | .aclr d => .aclr k d y
  | .acmov d a => .acmov k d a y
  | .acadd d a => .acadd k d a y
  | .acsub d a => .acsub k d a y
  | .acsh d sh => .acsh k d sh y
  | .acld d ds => .acld k d ds y
  | .acneg d => .acneg k d y

/-- The command that issues a Y-slot operation with its companion. -/
def yCmd (k : Nat) (x : XOp) (y : YOp) : Instr :=
  match y with
  | .nop => .quillNop k x .nop
  | .ld r an mm pm => .ld k r an mm pm x
  | .st r an mm pm => .st k r an mm pm x
  | .stac ac an mm pm => .stac k ac an mm pm x
  | .lds r a => .lds k r a x
  | .sts r a => .sts k r a x
  | .stacs ac a => .stacs k ac a x
  | .mvac d ac => .mvac k d ac x
  | .mov dst src => .mov k dst src x
  | .ldi dd imm => .ldi k dd imm x
  | .ldih dd imm => .ldih k dd imm x
  | .rdac d ac p => .rdac k d ac p x
  | .lia an imm => .lia k an imm x
  | .lim mn imm => .lim k mn imm x
  | .wrac d ac p => .wrac k d ac p x
  | .adda an mm => .adda k an mm x
  | .addai an imm => .addai k an imm x
  | .fold an => .fold k an x
  | .setb bit v => .setb k bit v x
  | .sscl sc => .sscl k sc x
  | .br t => .br k t x
  | .bcc c t => .bcc k c t x
  | .call t => .call k t x
  | .bra an => .bra k an x
  | .rti => .rti k x
  | .loop d t => .loop k d t x
  | .repi n t => .repi k n t x
  | .repd d t => .repd k d t x
  | .wait => .wait k x
  | .brk => .brk k x

/-- What the X slot leaves on the registers as the Y slot left them: `dW` the D register written, `acW` the accumulators, `f` the
flags, `av` whether an accumulator wrapped; every other register of the core is unchanged. A WRAC beside it (R252) is told apart. -/
def XLands (s : State) (k : Nat) (y : YOp) (c : QCore) (dW : Option (Nat × Word)) (acW : List (Nat × BitVec 72)) (f : Flags) (av : Bool) :
    Prop :=
  let v := yView s k y
  c.d = (match dW with | some p => upd v.d p.1 p.2 | none => v.d) ∧ c.a = v.a ∧ c.m = v.m
    ∧ ((∀ d ac p, y ≠ .wrac d ac p) → c.ac = acW.foldl (fun l p => upd l p.1 p.2) v.ac) ∧ c.acm = (seen s k).ac
    ∧ c.sr = toW (if av then setF (f.apply v.sr.toNat) 5 5 1 else f.apply v.sr.toNat)
    ∧ c.iv = v.iv ∧ c.ipend = v.ipend ∧ c.imask = v.imask ∧ c.epc = v.epc ∧ c.est = v.est ∧ c.timer = v.timer ∧ c.pm = v.pm ∧ c.st = v.st

/-- The command `c` runs the bundle (x, y) of core `k`, and its X slot leaves what `XLands` says. -/
def XRun (c : Instr) (s : State) (k : Nat) (x : XOp) (y : YOp) (dW : Option (Nat × Word)) (acW : List (Nat × BitVec 72)) (f : Flags) (av : Bool) :
    Prop :=
  Runs s k x y → NoRestore s k →
    exec c s = .next (afterBundle s k x y) ∧ XLands s k y ((afterRegs s k x y).core k) dW acW f av

/-- The command `c` runs the bundle (x, y) of core `k`, and the registers after its Y slot's writes are `v`. -/
def YRun (c : Instr) (s : State) (k : Nat) (x : XOp) (y : YOp) (v : QCore) : Prop :=
  Runs s k x y → exec c s = .next (afterBundle s k x y) ∧ yView s k y = v

/-- R243: the flags of a sum or difference: the result's sign and zero, `c` and the signed overflow of the exact value `e`. -/
def sumFlags (r : Word) (c : Prop) [Decidable c] (e : Int) : Flags :=
  ⟨some r.msb, some (r == 0), some (decide c), some (decide (e < -2147483648 ∨ 2147483647 < e))⟩

/-- R243: the flags of an operation that leaves C and V alone. -/
def resultFlags (r : Word) : Flags := ⟨some r.msb, some (r == 0), none, none⟩

/-- R11: an exact value saturated to 32 bits. -/
def sat32 (e : Int) : Word := if e < -2147483648 then 0x80000000 else if 2147483647 < e then 0x7FFFFFFF else BitVec.ofInt 32 e

/-- R242: an exact value lies outside the 72 bits of an accumulator. -/
def wraps72 (e : Int) : Bool := decide (e < -(2 ^ 71 : Int) ∨ (2 ^ 71 : Int) ≤ e)

/-- What a store of `v` at word address `A` by a bundle of core `k` leaves: `u` is the state before the access, `t` the one after. In
the own bank the word is written and every other byte stands, or the bank refuses; a core-local register takes the word; a stall region
queues the store (R211, R213, R215, R226, R272). -/
def Stored (u t : State) (k A : Nat) (v : Word) : Prop :=
  let p := bankBase k + 4 * winMap u k A
  (A < 0x10000 → u.bankOn k = true → t.mem.rdWord p = v ∧ t.regs = u.regs ∧ t.cores = u.cores
      ∧ ∀ a, (a < p ∨ p + 4 ≤ a) → t.byteAt a = u.byteAt a)
  ∧ (A < 0x10000 → u.bankOn k = false → t = u.count Reg.MEMC_REFUSED_CNT 1)
  ∧ (0x708000 ≤ A → A < 0x708008 → t = u.setCore k (locWrite (u.core k) (A - 0x708000) v))
  ∧ (stallRegion A = true → t = u.setCore k { u.core k with wbuf := (u.core k).wbuf ++ [(A, v)] })

/-- What a load into the register of code `r` from word address `A` leaves: from the own bank the word is on its way to the register, a
core-local register gives its value, and a stall region stalls the core (R208, R213, R215, R226). -/
def Loaded (u t : State) (k A r : Nat) : Prop :=
  let p := bankBase k + 4 * winMap u k A
  (A < 0x10000 → u.bankOn k = true → u.mem.unwritten k p = false → u.mem.bad.contains p = false →
      t = u.setCore k { u.core k with land := [(r, u.mem.rdWord p)] })
  ∧ (A < 0x10000 → u.bankOn k = false → t = (u.count Reg.MEMC_REFUSED_CNT 1).setCore k { u.core k with land := [(r, 0)] })
  ∧ (0x708000 ≤ A → A < 0x708008 → t = u.setCore k { u.core k with land := [(r, locRead u k (A - 0x708000))] })
  ∧ (stallRegion A = true → t = u.setCore k { u.core k with stall := some (r, A) })

/-- The command `c` runs the bundle (x, y), whose Y slot stores `v` at word address `A`. -/
def StoreRun (c : Instr) (s : State) (k : Nat) (x : XOp) (y : YOp) (A : Nat) (v : Word) : Prop :=
  Runs s k x y → ∃ t, exec c s = .next t ∧ Stored (afterRegs s k x y) t k A v

/-- The command `c` runs the bundle (x, y), whose Y slot loads the register of code `r` from word address `A`. -/
def LoadRun (c : Instr) (s : State) (k : Nat) (x : XOp) (y : YOp) (A r : Nat) : Prop :=
  Runs s k x y → ∃ t, exec c s = .next t ∧ Loaded (afterRegs s k x y) t k A r

/-- A branch command: two delay slots are to issue before `target` (or, untaken, the next bundle in sequence) and `status`. -/
def BranchRun (c : Instr) (s : State) (k : Nat) (x : XOp) (y : YOp) (target : Option Nat) (status : Option Word) : Prop :=
  Runs s k x y → exec c s = .next (afterRegs s k x y) ∧ ((afterRegs s k x y).core k).pc = ((seen s k).pc + 1) % 4096
    ∧ ((afterRegs s k x y).core k).delay = some ⟨2, target, status⟩ ∧ ((afterRegs s k x y).core k).inRep = false

/-- A repeat command of `n` iterations that ends at `t` (R249). -/
def RepeatRun (c : Instr) (s : State) (k : Nat) (x : XOp) (y : YOp) (n t : Nat) : Prop :=
  Runs s k x y → exec c s = .next (afterRegs s k x y)
    ∧ let d := (afterRegs s k x y).core k
      d.ls = ((seen s k).pc + 1) % 4096 ∧ d.le = t ∧ d.lc = n
        ∧ (if n = 0 then d.pc = (t + 1) % 4096 ∧ d.inRep = false else d.pc = ((seen s k).pc + 1) % 4096 ∧ d.inRep = true)

/-- The state in which a command of queue `q` executes: its own words have left the queue (R524, R525). -/
def atCommand (op q : Nat) (tag : Word) (args : List Word) (s : State) : State :=
  let s := takeWords op q tag args (serve q s)
  { s with hif := { s.hif with skipping := s.hif.skipping.filter (fun k => k != q) } }

/-- A command of queue `q` can execute: its words stand at the queue's front, and the round robin has come to the queue (R525). It is
well formed; a module that follows its partner refuses it where it changes render state (R457, R529). -/
def CmdReady (op q : Nat) (tag : Word) (args : List Word) (s : State) : Prop :=
  eligible q (maxRes op) s = true ∧ atFront op q tag args s = true ∧ inTurn q s = true ∧ nargsOf op args = some args.length ∧ bitsOk op args = true
    ∧ (changesRender op = true → s.twin.st ≠ 2 ∧ s.twin.st ≠ 4)

/-- The command `c` executes and completes with a status and results in the state `t`. -/
def CmdDone (c : Instr) (op q : Nat) (tag : Word) (args : List Word) (s : State) (x : Status) (res : List Word) (t : State) : Prop :=
  CmdReady op q tag args s → exec c s = .next (complete op q tag x res t)

/-- The command `c` executes and completes later. -/
def CmdWaits (c : Instr) (op q : Nat) (tag : Word) (args : List Word) (s t : State) : Prop :=
  CmdReady op q tag args s → exec c s = .next t

/-- R190: nothing refuses the epoch `e`. -/
def EpochOk (e : Nat) (s : State) : Prop :=
  s.bn + 2 ≤ e ∧ e ≤ s.bn + 16777216 ∧ s.sched.rendering = true ∧ (s.sched.commits.length < 8 ∨ ∃ c ∈ s.sched.commits, c.target = e)

/-- No unit holds work of its own: no take, no object, no queue with words, no twin message, no held item; what an interval brings
once is done. -/
structure NoWork (s : State) : Prop where
  noTake : s.sched.takes = []
  noQuiet : s.sched.quietAt = none
  noStart : s.sched.startAt = none
  noObject : s.scene.objs = []
  noWrite : s.scene.xpWrites = []
  noFlip : s.scene.flips = []
  noTraj : s.scene.trajOps = []
  isolated : s.twin.st = 0
  noDue : s.twin.due = []
  noHeld : s.twin.heldItems = []
  noReleased : s.twin.released = []
  noVerdict : s.twin.verdicts = []
  noRepair : s.twin.repairs = []
  noTx : s.twin.txq = []
  noHello : s.twin.hello = false
  finalised : s.strm.done = true
  handed : s.cond.handed = true
  noWords : s.queues = []
  noWait : ∀ p, (s.tdm p).txWait = none
  noImage : s.twin.imageRun = none
  noRetry : s.time.anchorRetry = false
  noSnap : s.stat.snapArmed = false
  noTrace : s.bget Reg.DBG_TRACE_CTL 31 = false
  noDdr : s.ddr = []
  inStep : s.sched.bn = s.sched.bnMedia ∧ s.sched.bnPtp = s.sched.bnMedia ∧ s.sched.bnDram = s.sched.bnMedia ∧ s.sched.bnAon = s.sched.bnMedia

/-- Render is halted, and no unit holds work, a commit among it. -/
structure IdleModule (s : State) : Prop extends NoWork s where
  halted : s.sched.rendering = false
  noCommit : s.sched.commits = []

/-- Render runs, the engines and the chain have done the interval's work, no TDM port is enabled, and no unit holds other work than
commits. -/
structure RenderedModule (s : State) : Prop extends NoWork s where
  renders : s.sched.rendering = true
  copied : s.sched.copyDone = true
  ruled : s.sched.ruleDone = true
  merged : s.sched.mergeDone = true
  quills : s.sched.quillClosed = true
  nibs : s.sched.nibClosed = true
  summed : s.scene.sumDone = 8
  outs : s.sched.outClosed = true
  judged : s.sched.verdictDone = true
  chain : s.cond.done = true
  levels : s.cond.judged = true
  noPort : ∀ p, tdmOn s p = false

/-- R577: what a pad shows while RESET_N holds the SoC: the twin pins low, the SerDes idle, the other outputs of the main domain
high-impedance; PGOOD and THERM_N go on as they are. -/
def restPad : Pad → Option PadState
  | .twinSel => some (.level false)
  | .twinAlive => some (.level false)
  | .pgood => none
  | .thermN => none
  | .mediaLane _ => some .idle
  | .twinLane _ => some .idle
  | .pcie => some .idle
  | _ => some .highZ

/-- R577: every powered pad that the variant has shows its state under RESET_N. -/
def PadsRest (t : State) : Prop :=
  ∀ p x, restPad p = some x → padPowered t p = true → padPresent t p = true → padShows t p = x

/-- R577: the pads in STANDBY: the main domain is unpowered; the twin pins and PGOOD are low. -/
def PadsStandby (t : State) : Prop :=
  (∀ p, p.isAon = false → padShows t p = .unpowered)
    ∧ ∀ p, (p = .twinSel ∨ p = .twinAlive ∨ p = .pgood) → padPresent t p = true → padShows t p = .level false

/-- R577: the pads in OFF: nothing is powered; the pull-down of PGOOD holds it low, THERM_N is released. -/
def PadsOff (t : State) : Prop :=
  padShows t .pgood = .level false ∧ padShows t .thermN = .released ∧ ∀ p, p ≠ .pgood → p ≠ .thermN → padShows t p = .unpowered

/-- R497, R539, R573: every domain but AON is at its reset state: memory keeps MRAM and the host's bytes, the power registers are
told apart, the fuses stay, and the pairing key only in MRAM. -/
structure Rebooted (s t : State) : Prop where
  variant : t.variant = s.variant
  queues : t.queues = []
  cores : t.cores = []
  scene : t.scene = State.reset.scene
  stopped : t.sched.rendering = false ∧ t.sched.commits = [] ∧ t.sched.takes = []
  bytes : ∀ a, t.byteAt a = if 0x400000000 ≤ a ∧ a < 0x404000000 ∨ hostBit ≤ a then s.byteAt a else 0
  regs : ∀ o, unitOf o ≠ some .pwr → o ≠ Reg.GLB_RENDER_CFG → t.rd o = (resetWord o).toNat
  fuses : t.sec.uid = s.sec.uid ∧ t.sec.hashes = s.sec.hashes ∧ t.sec.revoked = s.sec.revoked ∧ t.sec.imgKey = s.sec.imgKey
    ∧ t.sec.authEn = s.sec.authEn ∧ t.sec.svn = s.sec.svn ∧ t.sec.lcProv = s.sec.lcProv ∧ t.sec.lcField = s.sec.lcField ∧ t.sec.kill = s.sec.kill
    ∧ t.sec.twinKey = none ∧ t.sec.keyKept = s.sec.keyKept
  security : t.sec.session = false ∧ t.sec.lc = s.sec.fuseLc ∧ t.sec.svnRun = 0 ∧ t.sec.phase = 0

/-- R539, R573: the boot ROM runs, with the strap as it was sampled. -/
def InRom (t : State) (src : Bool) : Prop := t.hif.stage = 1 ∧ t.hif.bootSrc = src ∧ t.pwr.pgood = true

end Sys2Proof.Machine
end

