-- ==== Sys2Proof/Certificates/Slice0/Obligations.lean ====
section
/-! DEFINITION. The statements about the model, for the provers. -/

open Sys2Proof Sys2Proof.Machine

/-- R207, R236, R252: in every bundle that runs, the X slot's results land on the registers as the Y slot left them,
whatever the two slots are; every command of the instruction set that names the bundle answers the state after it. The
bundle changes its own core's registers and what its memory access reaches, and nothing else: with no memory access, every
other core, every register of the block, every queue and every byte of memory stand. The model's own choices among its
clauses are named in log entries 1, 3 and 136. -/
def Obligations.BundleSlotsLandInOrder : Prop :=
  ∀ (s : State) (k : Nat) (x : XOp) (y : YOp), Runs s k x y →
    let u := afterRegs s k x y
    exec (xCmd k x y) s = .next (afterBundle s k x y) ∧ exec (yCmd k x y) s = .next (afterBundle s k x y)
    ∧ (NoRestore s k → XLands s k y (u.core k) (xEval (seen s k) x).dW (xEval (seen s k) x).acW (xEval (seen s k) x).fl (xEval (seen s k) x).av)
    ∧ (∀ j, j ≠ k → u.core j = s.core j) ∧ { u with cores := s.cores } = s
    ∧ (yMem (seen s k) y = none → exec (xCmd k x y) s = .next u ∧ ∀ a, u.byteAt a = s.byteAt a)
    ∧ (∀ m, yMem (seen s k) y = some m → m.load = none → ∃ t, exec (xCmd k x y) s = .next t ∧ t.queues = s.queues ∧ t.scene = s.scene
        ∧ ∀ j, j ≠ k → t.core j = s.core j)

/-- R241, R243: the sums and differences: what the destination takes and the four flags. The model's own choices among its
clauses are named in log entry 136. -/
def Obligations.ArithmeticResultsAndFlags : Prop :=
  ∀ (s : State) (k dd ds dt : Nat) (imm : BitVec 18) (y : YOp),
    let a := (seen s k).dreg ds
    let b := (seen s k).dreg dt
    let i := imm.signExtend 32
    XRun (.add k dd ds dt y) s k (.alu .add dd ds dt) y (some (dd, a + b)) []
        (sumFlags (a + b) (2 ^ 32 ≤ a.toNat + b.toNat) (a.toInt + b.toInt)) false
    ∧ XRun (.addi k dd ds imm y) s k (.addi dd ds imm) y (some (dd, a + i)) []
        (sumFlags (a + i) (2 ^ 32 ≤ a.toNat + i.toNat) (a.toInt + i.toInt)) false
    ∧ XRun (.sub k dd ds dt y) s k (.alu .sub dd ds dt) y (some (dd, a - b)) []
        (sumFlags (a - b) (b.toNat ≤ a.toNat) (a.toInt - b.toInt)) false
    ∧ XRun (.cmp k ds dt y) s k (.cmp ds dt) y none [] (sumFlags (a - b) (b.toNat ≤ a.toNat) (a.toInt - b.toInt)) false
    ∧ XRun (.cmpi k ds imm y) s k (.cmpi ds imm) y none [] (sumFlags (a - i) (i.toNat ≤ a.toNat) (a.toInt - i.toInt)) false
    ∧ XRun (.neg k dd ds y) s k (.neg dd ds) y (some (dd, 0 - a)) [] (sumFlags (0 - a) (a.toNat ≤ 0) (0 - a.toInt)) false
    ∧ XRun (.adds k dd ds dt y) s k (.alu .adds dd ds dt) y (some (dd, sat32 (a.toInt + b.toInt))) []
        (sumFlags (sat32 (a.toInt + b.toInt)) (2 ^ 32 ≤ a.toNat + b.toNat) (a.toInt + b.toInt)) false
    ∧ XRun (.subs k dd ds dt y) s k (.alu .subs dd ds dt) y (some (dd, sat32 (a.toInt - b.toInt))) []
        (sumFlags (sat32 (a.toInt - b.toInt)) (b.toNat ≤ a.toNat) (a.toInt - b.toInt)) false

/-- R241, R243: the bitwise operations, the extremes, the absolute value: the result, N and Z; C is kept, and V but for
ABS. The model's own choices among its clauses are named in log entry 136. -/
def Obligations.LogicResultsAndFlags : Prop :=
  ∀ (s : State) (k dd ds dt : Nat) (y : YOp),
    let a := (seen s k).dreg ds
    let b := (seen s k).dreg dt
    XRun (.and k dd ds dt y) s k (.alu .and dd ds dt) y (some (dd, a &&& b)) [] (resultFlags (a &&& b)) false
    ∧ XRun (.or k dd ds dt y) s k (.alu .or dd ds dt) y (some (dd, a ||| b)) [] (resultFlags (a ||| b)) false
    ∧ XRun (.xor k dd ds dt y) s k (.alu .xor dd ds dt) y (some (dd, a ^^^ b)) [] (resultFlags (a ^^^ b)) false
    ∧ XRun (.not k dd ds y) s k (.not dd ds) y (some (dd, ~~~ a)) [] (resultFlags (~~~ a)) false
    ∧ XRun (.min k dd ds dt y) s k (.alu .min dd ds dt) y (some (dd, if a.slt b then a else b)) [] (resultFlags (if a.slt b then a else b)) false
    ∧ XRun (.max k dd ds dt y) s k (.alu .max dd ds dt) y (some (dd, if a.slt b then b else a)) [] (resultFlags (if a.slt b then b else a)) false
    ∧ XRun (.abs k dd ds y) s k (.abs dd ds) y (some (dd, if a = 0x80000000 then 0x7FFFFFFF else if a.msb then 0 - a else a)) []
        ⟨some false, some (a == 0), none, some (a == 0x80000000)⟩ false

/-- R241: the shifts, by the low six bits of a register or by an immediate: an amount of 32 or more empties the word, or
fills it with the sign. The model's own choices among its clauses are named in log entry 136. -/
def Obligations.ShiftResultsAndFlags : Prop :=
  ∀ (s : State) (k dd ds dt n : Nat) (y : YOp),
    let a := (seen s k).dreg ds
    let b := ((seen s k).dreg dt).toNat % 64
    XRun (.asr k dd ds dt y) s k (.alu .asr dd ds dt) y (some (dd, a.sshiftRight b)) [] (resultFlags (a.sshiftRight b)) false
    ∧ XRun (.lsl k dd ds dt y) s k (.alu .lsl dd ds dt) y (some (dd, a <<< b)) [] (resultFlags (a <<< b)) false
    ∧ XRun (.lsr k dd ds dt y) s k (.alu .lsr dd ds dt) y (some (dd, a >>> b)) [] (resultFlags (a >>> b)) false
    ∧ XRun (.asri k dd ds n y) s k (.asri dd ds n) y (some (dd, a.sshiftRight n)) [] (resultFlags (a.sshiftRight n)) false
    ∧ XRun (.lsli k dd ds n y) s k (.lsli dd ds n) y (some (dd, a <<< n)) [] (resultFlags (a <<< n)) false
    ∧ XRun (.lsri k dd ds n y) s k (.lsri dd ds n) y (some (dd, a >>> n)) [] (resultFlags (a >>> n)) false

/-- R241, R242: the accumulator operations: the 72-bit value, AV where the exact value wraps, and no flag. A MAC line with
operation 0 does nothing, 1 adds, 2 subtracts, 3 sets its product; two lines on one accumulator act in order. -/
def Obligations.AccumulatorResults : Prop :=
  ∀ (s : State) (k d e ds da1 da2 db1 db2 opa opb : Nat) (sh : BitVec 6) (y : YOp),
    let A := nth 0 (seen s k).ac d
    let B := nth 0 (seen s k).ac e
    let pa := ((seen s k).dreg da1).toInt * ((seen s k).dreg da2).toInt
    let pb := ((seen s k).dreg db1).toInt * ((seen s k).dreg db2).toInt
    let line (op : Nat) (ac : BitVec 72) (p : Int) : Int := if op = 1 then ac.toInt + p else if op = 2 then ac.toInt - p else if op = 3 then p else ac.toInt
    let ra := line opa A pa
    let rb := line opb (if d = e then BitVec.ofInt 72 ra else B) pb
    XRun (.aclr k d y) s k (.aclr d) y none [(d, 0)] Flags.none false
    ∧ XRun (.acmov k d e y) s k (.acmov d e) y none [(d, B)] Flags.none false
    ∧ XRun (.acadd k d e y) s k (.acadd d e) y none [(d, BitVec.ofInt 72 (A.toInt + B.toInt))] Flags.none (wraps72 (A.toInt + B.toInt))
    ∧ XRun (.acsub k d e y) s k (.acsub d e) y none [(d, BitVec.ofInt 72 (A.toInt - B.toInt))] Flags.none (wraps72 (A.toInt - B.toInt))
    ∧ XRun (.acneg k d y) s k (.acneg d) y none [(d, BitVec.ofInt 72 (-A.toInt))] Flags.none (wraps72 (-A.toInt))
    ∧ XRun (.acld k d ds y) s k (.acld d ds) y none [(d, BitVec.ofInt 72 (((seen s k).dreg ds).toInt * 2 ^ 31))] Flags.none false
    ∧ (0 ≤ sh.toInt → XRun (.acsh k d sh y) s k (.acsh d sh) y none [(d, BitVec.ofInt 72 (A.toInt * 2 ^ sh.toInt.toNat))] Flags.none
        (wraps72 (A.toInt * 2 ^ sh.toInt.toNat)))
    ∧ (sh.toInt < 0 → XRun (.acsh k d sh y) s k (.acsh d sh) y none [(d, BitVec.ofInt 72 (A.toInt / 2 ^ (-sh.toInt).toNat))] Flags.none false)
    ∧ (opa < 4 → opb < 4 → opa ≠ 0 → opb ≠ 0 → XRun (.mac k d da1 da2 e db1 db2 opa opb y) s k (.mac d da1 da2 e db1 db2 opa opb) y none
        [(d, BitVec.ofInt 72 ra), (e, BitVec.ofInt 72 rb)] Flags.none ((opa != 3 && wraps72 ra) || (opb != 3 && wraps72 rb)))
    ∧ (opa < 4 → opa ≠ 0 → XRun (.mac k d da1 da2 0 0 0 opa 0 y) s k (.mac d da1 da2 0 0 0 opa 0) y none
        [(d, BitVec.ofInt 72 ra)] Flags.none (opa != 3 && wraps72 ra))
    ∧ (opb < 4 → opb ≠ 0 → XRun (.mac k 0 0 0 e db1 db2 0 opb y) s k (.mac 0 0 0 e db1 db2 0 opb) y none
        [(e, BitVec.ofInt 72 (line opb B pb))] Flags.none (opb != 3 && wraps72 (line opb B pb)))
    ∧ XRun (.mac k 0 0 0 0 0 0 0 0 y) s k (.mac 0 0 0 0 0 0 0 0) y none [] Flags.none false

/-- R238, R239, R245: the register moves and loads of the Y slot: exactly the destination named, from the registers the
bundle sees. The model's own choices among its clauses are named in log entry 136. -/
def Obligations.RegisterMoveResults : Prop :=
  ∀ (s : State) (k d an mm ac p src : Nat) (i16 : BitVec 16) (i23 : BitVec 23) (i24 : BitVec 24) (x : XOp),
    let c := seen s k
    let v := landed s k
    YRun (.ldi k d i16 x) s k x (.ldi d i16) { v with d := upd v.d d (i16.signExtend 32) }
    ∧ YRun (.ldih k d i16 x) s k x (.ldih d i16) { v with d := upd v.d d (i16 ++ (c.dreg d).extractLsb' 0 16) }
    ∧ YRun (.lia k an i24 x) s k x (.lia an i24) { v with a := upd v.a an i24 }
    ∧ YRun (.lim k mm i23 x) s k x (.lim mm i23) { v with m := upd v.m mm (i23.signExtend 24) }
    ∧ YRun (.adda k an mm x) s k x (.adda an mm) { v with a := upd v.a an (c.areg an + c.mreg mm) }
    ∧ YRun (.addai k an i23 x) s k x (.addai an i23) { v with a := upd v.a an (c.areg an + i23.signExtend 24) }
    ∧ (p < 3 → YRun (.rdac k d ac p x) s k x (.rdac d ac p)
        { v with d := upd v.d d (if p = 2 then ((nth 0 c.acm ac).extractLsb' 64 8).signExtend 32 else (nth 0 c.acm ac).extractLsb' (32 * p) 32) })
    ∧ (d < 16 → src < 16 → YRun (.mov k d src x) s k x (.mov d src) { v with d := upd v.d d (c.dreg src) })
    ∧ (d < 16 → an < 8 → YRun (.mov k d (16 + an) x) s k x (.mov d (16 + an)) { v with d := upd v.d d ((c.areg an).setWidth 32) })
    ∧ (d < 16 → mm < 8 → YRun (.mov k d (24 + mm) x) s k x (.mov d (24 + mm)) { v with d := upd v.d d ((c.mreg mm).signExtend 32) })
    ∧ (d < 16 → YRun (.mov k d 35 x) s k x (.mov d 35) { v with d := upd v.d d c.sr })
    ∧ (an < 8 → src < 16 → YRun (.mov k (16 + an) src x) s k x (.mov (16 + an) src) { v with a := upd v.a an ((c.dreg src).setWidth 24) })
    ∧ (mm < 8 → src < 16 → YRun (.mov k (24 + mm) src x) s k x (.mov (24 + mm) src) { v with m := upd v.m mm ((c.dreg src).setWidth 24) })
    ∧ (src < 16 → YRun (.mov k 36 src x) s k x (.mov 36 src) { v with iv := getF (c.dreg src).toNat 11 5 * 32 })
    ∧ YRun (.quillNop k x .nop) s k x .nop v

/-- R204, R205, R218, R245: moves out of an accumulator, WRAC, FOLD and the status-register writes. The model's own choices
among its clauses are named in log entry 136. -/
def Obligations.AccumulatorMoveAndStatusResults : Prop :=
  ∀ (s : State) (k d an ac bit : Nat) (b : Bool) (sc : BitVec 5) (x : XOp),
    let c := seen s k
    let v := landed s k
    let q := (nth 0 c.acm ac).toInt
    let n := scaleOf c.sr.toNat
    let r : Int := if 0 ≤ n then q * 2 ^ n.toNat / 2 ^ 31 else q / 2 ^ (31 + (-n).toNat)
    let past := decide (r < -2147483648 ∨ 2147483647 < r)
    (bitOf c.sr.toNat 8 = true → YRun (.mvac k d ac x) s k x (.mvac d ac)
        (if past then { v with d := upd v.d d (sat32 r), sr := toW (setF v.sr.toNat 4 4 1) } else { v with d := upd v.d d (BitVec.ofInt 32 r) }))
    ∧ (bitOf c.sr.toNat 8 = false → YRun (.mvac k d ac x) s k x (.mvac d ac) { v with d := upd v.d d (BitVec.ofInt 32 r) })
    ∧ YRun (.fold k an x) s k x (.fold an) { v with a := upd v.a an (BitVec.ofNat 24 (foldAddr s k (c.areg an).toNat)) }
    ∧ YRun (.setb k bit b x) s k x (.setb bit b) { v with sr := toW (setF v.sr.toNat bit bit (b2n b)) }
    ∧ (-8 ≤ sc.toInt → sc.toInt ≤ 8 → YRun (.sscl k sc x) s k x (.sscl sc) { v with sr := toW (setF v.sr.toNat 20 16 sc.toNat) })
    ∧ (8 < sc.toInt → YRun (.sscl k sc x) s k x (.sscl sc) { v with sr := toW (setF v.sr.toNat 20 16 8) })
    ∧ (sc.toInt < -8 → YRun (.sscl k sc x) s k x (.sscl sc) { v with sr := toW (setF v.sr.toNat 20 16 24) })
    ∧ (∀ p, YRun (.wrac k d ac p x) s k x (.wrac d ac p) v
        ∧ (Runs s k x (.wrac d ac p) → ((xEval c x).acW.any (fun w => w.1 == ac) || c.acBusy.contains ac) = false →
            ((afterRegs s k x (.wrac d ac p)).core k).ac
              = upd ((xEval c x).acW.foldl (fun l w => upd l w.1 w.2) v.ac) ac
                  (acSetPart (nth 0 ((xEval c x).acW.foldl (fun l w => upd l w.1 w.2) v.ac) ac) p (c.dreg d))))

/-- R208, R211, R215, R245, R247: the loads and stores: the address, the datum, and where they go. The model's own choices
among its clauses are named in log entry 136. -/
def Obligations.LoadsAndStoresReachTheirPlace : Prop :=
  ∀ (s : State) (k r an mm a ac : Nat) (pm : Bool) (x : XOp),
    let c := seen s k
    LoadRun (.ld k r an mm pm x) s k x (.ld r an mm pm) (c.areg an).toNat r
    ∧ LoadRun (.lds k r a x) s k x (.lds r a) (if a < 0x1000 then a else 0x708000 + (a - 0x1000)) r
    ∧ StoreRun (.st k r an mm pm x) s k x (.st r an mm pm) (c.areg an).toNat (c.outReg r)
    ∧ StoreRun (.sts k r a x) s k x (.sts r a) (if a < 0x1000 then a else 0x708000 + (a - 0x1000)) (c.outReg r)
    ∧ StoreRun (.stac k ac an mm pm x) s k x (.stac ac an mm pm) (c.areg an).toNat (acMove c.sr.toNat (nth 0 c.acm ac)).1
    ∧ StoreRun (.stacs k ac a x) s k x (.stacs ac a) (if a < 0x1000 then a else 0x708000 + (a - 0x1000)) (acMove c.sr.toNat (nth 0 c.acm ac)).1
    ∧ (yView s k (.ld r an mm pm)).a = (if pm then upd (landed s k).a an (c.areg an + c.mreg mm) else (landed s k).a)
    ∧ (yView s k (.st r an mm pm)).a = (if pm then upd (landed s k).a an (c.areg an + c.mreg mm) else (landed s k).a)
    ∧ (yView s k (.stac ac an mm pm)).a = (if pm then upd (landed s k).a an (c.areg an + c.mreg mm) else (landed s k).a)

/-- R248: the branches: the delay slots, the target, and CALL's return address. The model's own choices among its clauses
are named in log entry 136. -/
def Obligations.BranchesTakeTwoDelaySlots : Prop :=
  ∀ (s : State) (k t an cc : Nat) (x : XOp),
    let c := seen s k
    BranchRun (.br k t x) s k x (.br t) (some t) none
    ∧ (condHolds c.sr.toNat cc = true → BranchRun (.bcc k cc t x) s k x (.bcc cc t) (some t) none)
    ∧ (condHolds c.sr.toNat cc = false → BranchRun (.bcc k cc t x) s k x (.bcc cc t) none none)
    ∧ BranchRun (.bra k an x) s k x (.bra an) (some ((c.areg an).toNat % 4096)) none
    ∧ BranchRun (.rti k x) s k x .rti (some c.epc) (some c.est)
    ∧ BranchRun (.call k t x) s k x (.call t) (some t) none
    ∧ (yView s k (.call t)).a = upd (landed s k).a 7 (BitVec.ofNat 24 ((c.pc + 3) % 4096))

/-- R220, R249, R250: LOOP, the repeats, WAIT and BRK. The model's own choices among its clauses are named in log entry
136. -/
def Obligations.LoopsRepeatsWaitAndBreak : Prop :=
  ∀ (s : State) (k d n t : Nat) (x : XOp),
    let c := seen s k
    RepeatRun (.repi k n t x) s k x (.repi n t) n t
    ∧ RepeatRun (.repd k d t x) s k x (.repd d t) (c.dreg d).toNat t
    ∧ (Runs s k x (.loop d t) → exec (.loop k d t x) s = .next (afterRegs s k x (.loop d t))
        ∧ ((afterRegs s k x (.loop d t)).core k).pc = (if c.dreg d = 1 then (c.pc + 1) % 4096 else t)
        ∧ (yView s k (.loop d t)).d = upd (landed s k).d d (c.dreg d - 1))
    ∧ (Runs s k x .wait → exec (.wait k x) s = .next (afterRegs s k x .wait) ∧ ((afterRegs s k x .wait).core k).waiting = true)
    ∧ (Runs s k x .brk → c.haltReq = 0 → s.quillDebug k = true →
        exec (.brk k x) s = .next (afterRegs s k x .brk) ∧ ((afterRegs s k x .brk).core k).haltReq = 3)

/-- R207, R223, R248, R249: the pc after a bundle that is no control operation: in sequence, out of the last delay slot,
round a repeat body or past its end. The model's own choices among its clauses are named in log entry 136. -/
def Obligations.SequencingAfterABundle : Prop :=
  ∀ (s : State) (k : Nat) (x : XOp) (y : YOp), Runs s k x y → isControl y = false →
    let c := seen s k
    let t := (afterRegs s k x y).core k
    let next := (c.pc + 1) % 4096
    (c.delay = none → c.inRep = false → t.pc = next ∧ t.delay = none ∧ t.inRep = false)
    ∧ (∀ d, c.delay = some d → d.left ≠ 1 → t.pc = next ∧ t.delay = some { d with left := d.left - 1 })
    ∧ (∀ d, c.delay = some d → d.left = 1 → t.pc = d.target.getD next ∧ t.delay = none
        ∧ ∀ w, d.status = some w → t.sr = toW (stWrite w.toNat) ∧ t.hold = true)
    ∧ (c.delay = none → c.inRep = true → c.pc ≠ c.le → t.pc = next ∧ t.lc = c.lc ∧ t.inRep = true)
    ∧ (c.delay = none → c.inRep = true → c.pc = c.le → 1 < c.lc → t.pc = c.ls ∧ t.lc = c.lc - 1 ∧ t.inRep = true)
    ∧ (c.delay = none → c.inRep = true → c.pc = c.le → c.lc ≤ 1 → t.pc = (c.le + 1) % 4096 ∧ t.lc = 0 ∧ t.inRep = false)

/-- R215, R233: the data of a stalled load arrives once the write buffer is empty, and never under an ABORT; a posted store
reaches its region, the oldest first. The model's own choices among its clauses are named in log entries 3, 136, 162 and
185. -/
def Obligations.StalledLoadsAndPostedStores : Prop :=
  ∀ (s : State) (k n r a : Nat) (v : Word) (rest : List (Nat × Word)),
    ((s.core k).stall = some (r, a) → (s.core k).wbuf = [] → s.coreAborting k = false →
      ∃ t, exec (.stallEnd k n) s = .next t ∧ (t.core k).stall = none
        ∧ (t.core k).land = ((memLoad k a s).2.core k).land ++ [(r, (memLoad k a s).1)]
        ∧ t.rd (Reg.QCORE_STALL_CNT k) = Nat.min ((memLoad k a s).2.rd (Reg.QCORE_STALL_CNT k) + n) 0xFFFFFFFF
        ∧ t.mem = (memLoad k a s).2.mem)
    ∧ (((s.core k).stall = none ∨ (s.core k).wbuf ≠ [] ∨ s.coreAborting k = true) → exec (.stallEnd k n) s = .next s)
    ∧ ((s.core k).wbuf = (a, v) :: rest →
      exec (.postedStoreComplete k) s = .next (memStore k a v (s.setCore k { s.core k with wbuf := rest })))

/-- R221, R222, R235: the interrupt sources pend, and an interrupt point takes the lowest enabled one. The model's own
choices among its clauses are named in log entries 3 and 136. -/
def Obligations.InterruptsPendAndAreTaken : Prop :=
  ∀ (s : State) (k b : Nat) (m : Master) (v : Word),
    (s.coreOn = true → s.sched.cycle ≤ 16 → ∃ t, exec .blockInterrupt s = .next t ∧ t.sched.cycle = 16 ∧ t.regs = s.regs ∧ t.mem = s.mem
      ∧ ∀ j, t.core j = (if j < capTiles s.variant then { s.core j with ipend := (s.core j).ipend ||| 1 } else s.core j))
    ∧ (s.coreOn = true → s.hasCore k = true → bitOf (s.core k).timer.toNat 31 = true → s.sched.cycle ≤ getF (s.core k).timer.toNat 18 0 →
        exec (.timerInterrupt k) s = .next ((s.reach (getF (s.core k).timer.toNat 18 0)).setCore k
          { s.core k with ipend := (s.core k).ipend ||| 2 }))
    ∧ (s.served (Reg.QCORE_DOORBELL k) = true → bitOf v.toNat 0 = true →
        exec (.qcoreDoorbell m k v) s = .next (s.setCore k { s.core k with ipend := (s.core k).ipend ||| 8 }))
    ∧ (s.hasCore k = true → s.coreOn = true → (s.core k).st = .running → (s.core k).atPoint = true → s.coreAborting k = false →
        bitOf (s.core k).sr.toNat 31 = true → b < 8 → bitOf ((BitVec.ofNat 8 (s.core k).ipend &&& BitVec.ofNat 8 (s.core k).imask).toNat) b = true →
        (∀ j, j < b → bitOf ((BitVec.ofNat 8 (s.core k).ipend &&& BitVec.ofNat 8 (s.core k).imask).toNat) j = false) →
        ∃ t, exec (.interruptEntry k) s = .next (s.setCore k t) ∧ t.epc = (s.core k).pc ∧ t.est = (s.core k).settle.sr
          ∧ t.sr = toW (setF (s.core k).settle.sr.toNat 31 31 0) ∧ t.pc = ((s.core k).iv + 4 * b) % 4096 ∧ t.waiting = false
          ∧ t.d = (s.core k).settle.d ∧ t.ipend = (s.core k).ipend)
    ∧ (((s.core k).bufWait = true ∨ (s.core k).stall.isSome = true ∨ s.coreAborting k = true) → exec (.interruptEntry k) s = .next s)

/-- R210, R212, R219, R229 to R232, R234, R235, R237: START, HALT, its taking, STEP on registers where every result has
landed and its refusal to a core that runs, RESET, the undefined bundle, where a parity failure of the fetch goes first,
and the faults of a decoded bundle: a misplaced control operation or a body too long (CAUSE 6), a count past 4,096 (7), an
unmapped word (8). The model's own choices among its clauses are named in log entries 1, 3, 136, 162, 163, 186, 187 and
188. -/
def Obligations.CoreControlMovesTheStates : Prop :=
  ∀ (s : State) (k : Nat) (m : Master), s.served (Reg.QCORE_CTL k) = true →
    let c := s.core k
    let z := s.setCore k c.settle
    let v := seen s k
    (c.st = .idle ∨ c.st = .fault ∨ (c.st = .halted ∧ c.cause = 2) → ∃ t, exec (.start m k) s = .next (s.setCore k t) ∧ t.st = .running ∧ t.cause = 0
      ∧ t.pc = s.rd (Reg.QCORE_START_PC k) ∧ t.d = List.replicate 16 0 ∧ t.a = List.replicate 8 0 ∧ t.m = List.replicate 8 0
      ∧ t.ac = List.replicate 4 0 ∧ t.acm = List.replicate 4 0 ∧ t.sr = 0x100 ∧ t.iv = 0 ∧ t.lc = 0 ∧ t.pm = c.pm ∧ t.ipend = c.ipend
      ∧ t.imask = c.imask ∧ t.timer = c.timer)
    ∧ (c.st = .halted → c.cause ≠ 2 → exec (.start m k) s = .next (s.setCore k { c with st := .running, cause := 0, haltReq := 0 }))
    ∧ (c.st = .running → exec (.start m k) s = .next s)
    ∧ (c.st = .running → c.haltReq = 0 → exec (.halt m k) s = .next (s.setCore k { c with haltReq := 1 }))
    ∧ (s.hasCore k = true → c.st = .running → c.atPoint = true → s.coreAborting k = false → c.haltReq ≠ 0 →
        exec (.haltTaken k) s = .next (s.setCore k { c with st := .halted, cause := c.haltReq, haltReq := 0 }))
    ∧ (c.st ≠ .halted → exec (.step m k) s = .next s)
    ∧ (∀ x y, c.st = .halted → s.quillDebug k = true → c.wbuf = [] → c.stall = none → c.inRep = false → decodeBundle c.bundle = some (x, y) →
        c.pmBad.contains c.pc = false → faultCause (seen z k) y = 0 → yMem (seen z k) y = none →
        (∀ n t, y ≠ .repi n t) → (∀ d t, y ≠ .repd d t) →
        exec (.step m k) s = .next (s.setCore k { ((afterRegs z k x y).core k).settle with cause := 4, haltReq := 0, hold := false })
          ∧ ((afterRegs z k x y).core k).st = .halted)
    ∧ (∃ t, exec (.reset m k) s = .next t ∧ (t.core k).st = .idle ∧ (t.core k).cause = 0 ∧ (t.core k).stall = none
        ∧ (t.core k).wbuf = [] ∧ (t.core k).pm = c.pm ∧ (t.core k).d = c.d)
    ∧ (canIssue s k = true → decodeBundle c.bundle = none → c.pmBad.contains c.pc = false →
        ∃ t, exec (.undefinedEncoding k) s = .next t ∧ (t.core k).st = .fault ∧ (t.core k).cause = 5 ∧ (t.core k).pc = c.pc)
    ∧ (canIssue s k = true → decodeBundle c.bundle = none → c.pmBad.contains c.pc = true →
        ∃ t, exec (.undefinedEncoding k) s = .next t ∧ (t.core k).st = .fault ∧ (t.core k).cause = 9)
    ∧ (∀ x y, canIssue s k = true → decodeBundle c.bundle = some (x, y) → bufferFull v y = false → v.pmBad.contains v.pc = false → faultCause v y ≠ 0 →
        exec (yCmd k x y) s = .next (fire 0x14 k (s.setCore k { c.settle with st := .fault, cause := faultCause v y, stall := none, bufWait := false }))
        ∧ exec (xCmd k x y) s = exec (yCmd k x y) s)
    ∧ (∀ y, isControl y = true → (v.delay.isSome = true ∨ v.inRep = true) → faultCause v y = 6)
    ∧ (∀ n d t, v.delay = none → v.inRep = false →
        (32 < repLen v.pc t → faultCause v (.repi n t) = 6 ∧ faultCause v (.repd d t) = 6)
        ∧ (repLen v.pc t ≤ 32 → faultCause v (.repi n t) = 0 ∧ faultCause v (.repd d t) = if 4096 < (v.dreg d).toNat then 7 else 0))
    ∧ (∀ y w, isControl y = false → yMem v y = some w → (faultCause v y = 8 ↔ (0x10000 ≤ w.addr ∧ w.addr < 0x100000)
        ∨ (0x680000 ≤ w.addr ∧ w.addr < 0x700000) ∨ (0x700400 ≤ w.addr ∧ w.addr < 0x708000) ∨ (0x708008 ≤ w.addr ∧ w.addr < 0x800000)))

/-- R544 to R547: a firing outside STANDBY and OFF whose route names neither Quill nor Scribe: pending bit, count, last
instance, and the MSI-X request its route names; nothing else changes. Its word to the Scribe complex goes to queue 18 if
its route has bit 23. The model's own choices among its clauses are named in log entry 119. -/
def Obligations.EventsAreRecordedAndRouted : Prop :=
  ∀ (s : State) (e inst : Nat), s.coreOn = true →
    let r := recordEvent e inst s
    let w := eventWord e inst s.bn
    (bitOf (s.rd (Reg.EVT_ROUTE e)) 23 = false → bitOf (s.rd (Reg.EVT_ROUTE e)) 22 = false → fire e inst s = r)
    ∧ (bitOf (s.rd (Reg.EVT_ROUTE e)) 23 = true → bitOf (s.rd (Reg.EVT_ROUTE e)) 22 = false → r.qEnabled 18 = false →
        fire e inst s = r.count (Reg.QUEUE_DENY_CNT 18) 1)
    ∧ (bitOf (s.rd (Reg.EVT_ROUTE e)) 23 = true → bitOf (s.rd (Reg.EVT_ROUTE e)) 22 = false → r.qEnabled 18 = true →
        r.rd (Reg.QUEUE_WM 18) = 0 → (r.queue 18).items.length + 2 ≤ r.qDepth 18 →
        ((fire e inst s).queue 18).items = (r.queue 18).items ++ [⟨w, false, false⟩])
    ∧ r.bget (Reg.EVT_PEND (e / 32)) (e % 32) = true
    ∧ r.rd (Reg.EVT_CNT e) = Nat.min (s.rd (Reg.EVT_CNT e) + 1) 0xFFFFFFFF ∧ r.rd (Reg.EVT_LAST e) = 2 ^ 31 + inst % 2 ^ 11
    ∧ r.hif.msixPend = (if s.bget (Reg.EVT_ROUTE e) 31 then s.hif.msixPend ||| BitVec.ofNat 64 (2 ^ s.fget (Reg.EVT_ROUTE e) 29 24)
        else s.hif.msixPend)
    ∧ r.mem = s.mem ∧ r.queues = s.queues ∧ r.sched = s.sched ∧ r.cores = s.cores

/-- R298, R306, R307, R318, R323: the counter and the servo's registers: an idle step of 40 ns advances the counter by five
PTP cycles at its frequency, and a passed whole second makes the rise of PPS_OUT due; an offset past the threshold steps
the counter by minus the offset and moves the requested anchor with it, a smaller one only locks the servo; a frequency is
clamped; a load of the counter is a step; HOLDOVER is entered by a forced hold, by a change of grandmaster and by the
offset watchdog, once. The model's own choices among its clauses are named in log entries 3, 4, 75, 77 and 160. -/
def Obligations.CounterStepsAndHoldover : Prop :=
  ∀ (s : State) (m : Master) (v : Word),
    let raw := v.toNat * 2 ^ 32 + s.heldWord Reg.TIME_OFS_LO
    let ofs := sgn 64 raw
    let u := { s.wr64 Reg.TIME_OFS_LO raw with time := { s.time with servo := 1, ofsAge := s.sched.up } }
    let stepped (d : Int) (p : Nat) (s : State) : State :=
      let r := fire 0x1C 0 (({ s with time := { s.time with ptp := p } }.bset Reg.TIME_STATUS 0 true).count Reg.TIME_STEP_CNT 1)
      { r with time := { r.time with oReq := wrap64 (r.time.oReq + d), anchorDue := r.sched.rendering || r.time.anchorDue
                                     steps := (r.sched.up, d) :: r.time.steps.filter (fun x => decide (r.sched.up ≤ x.1 + 1000000)) } }
    let held (s : State) : State :=
      fire 0x1D 0 ((({ s with time := { s.time with servo := 2 } }).bset Reg.TIME_STATUS 1 true).count Reg.TIME_HOLD_CNT 1)
    let later := (((s.time.ptp : Int) + 5 * (8 * 2 ^ 32 + sgn 32 (s.rd Reg.TIME_FREQ))) % (ptpMod : Int)).toNat
    (s.pending = [] → s.coreOn = true → s.queues = [] → ∃ u, step s = .next u ∧ u.time.ptp = later
      ∧ (u.time.ppsDue = true ↔ s.time.ppsDue = true ∨ (s.bget Reg.TIME_PPS_CTL 31 = true
          ∧ later / 2 ^ 32 / 10 ^ 9 ≠ s.time.ptp / 2 ^ 32 / 10 ^ 9)))
    ∧ (s.served Reg.TIME_OFS_HI = true → s.bget Reg.TIME_CTL 0 = false → 16 * s.rd Reg.TIME_STEP_THR < ofs.natAbs →
        exec (.timeOfsHiWrite m v) s = .next (stepped (-ofs) ((((s.time.ptp : Int) - ofs * 2 ^ 28) % (ptpMod : Int)).toNat) u))
    ∧ (s.served Reg.TIME_OFS_HI = true → s.bget Reg.TIME_CTL 0 = false → ofs.natAbs ≤ 16 * s.rd Reg.TIME_STEP_THR →
        exec (.timeOfsHiWrite m v) s = .next u)
    ∧ (s.served Reg.TIME_OFS_HI = true → s.bget Reg.TIME_CTL 0 = true → exec (.timeOfsHiWrite m v) s = .next s)
    ∧ (s.served Reg.TIME_NOW_SEC_HI = true → s.heldWord Reg.TIME_NOW_NS % 2 ^ 30 ≤ 999999999 →
        let t : Nat := ((v.toNat % 65536 * 2 ^ 32 + s.heldWord Reg.TIME_NOW_SEC_LO) * 10 ^ 9 + s.heldWord Reg.TIME_NOW_NS % 2 ^ 30) * 16
          + s.heldWord Reg.TIME_NOW_SUB % 16
        exec (.timeNowSecHiWrite m v) s = .next (stepped ((t : Int) - (s.time.ptp / 2 ^ 28 : Nat)) (t * 2 ^ 28) s))
    ∧ (s.served Reg.TIME_NOW_SEC_HI = true → 999999999 < s.heldWord Reg.TIME_NOW_NS % 2 ^ 30 → exec (.timeNowSecHiWrite m v) s = .next s)
    ∧ (s.served Reg.TIME_FREQ = true → s.time.servo ≠ 2 → ∃ t, exec (.timeFreqWrite m v) s = .next t ∧ t.mem = s.mem
        ∧ t.time = { s.time with freqs := (s.sched.up, sgn 32 (s.rd Reg.TIME_FREQ)) :: s.time.freqs.filter (fun x => decide (s.sched.up ≤ x.1 + 1000000)) }
        ∧ sgn 32 (t.rd Reg.TIME_FREQ) = (if v.toInt < -3092376 then -3092376 else if 3092376 < v.toInt then 3092376 else v.toInt)
        ∧ ∀ a, a ≠ Reg.TIME_FREQ → t.rd a = s.rd a)
    ∧ (s.served Reg.TIME_FREQ = true → s.time.servo = 2 → exec (.timeFreqWrite m v) s = .next s)
    ∧ (s.served Reg.TIME_GM_ID_HI = true →
        let id := v.toNat * 2 ^ 32 + s.heldWord Reg.TIME_GM_ID_LO
        exec (.timeGmIdHiWrite m v) s = .next (if s.time.servo = 1 ∧ id ≠ s.rd64 Reg.TIME_GM_ID_LO then held (s.wr64 Reg.TIME_GM_ID_LO id)
          else s.wr64 Reg.TIME_GM_ID_LO id))
    ∧ (s.served Reg.TIME_CTL = true → bitOf v.toNat 0 = true → s.time.servo ≠ 2 →
        exec (.forceHoldWrite m v) s = .next (held (s.bset Reg.TIME_CTL 0 true)))
    ∧ (s.served Reg.TIME_CTL = true → bitOf v.toNat 0 = true → s.time.servo = 2 →
        exec (.forceHoldWrite m v) s = .next (s.bset Reg.TIME_CTL 0 true))
    ∧ (s.served Reg.TIME_CTL = true → bitOf v.toNat 0 = false → exec (.forceHoldWrite m v) s = .next (s.bset Reg.TIME_CTL 0 false))
    ∧ (s.time.servo = 1 → s.fget Reg.TIME_SYNC_TIMEOUT 15 0 ≠ 0 → s.time.ofsAge + s.fget Reg.TIME_SYNC_TIMEOUT 15 0 * 1000000 ≤ s.sched.up →
        exec .syncTimeout s = .next (held s))
    ∧ ((s.time.servo ≠ 1 ∨ s.fget Reg.TIME_SYNC_TIMEOUT 15 0 = 0 ∨ s.sched.up < s.time.ofsAge + s.fget Reg.TIME_SYNC_TIMEOUT 15 0 * 1000000) →
        exec .syncTimeout s = .next s)

/-- R304, R318, R319: PPS_OUT rises when its edge is due and falls WIDTH milliseconds later; a PPS_IN edge latches the
counter at the edge, whose sixteenths past the last counter cycle the command carries, if IN_EN = 1; the latching read of
the stamp; and the queue of transmit time stamps. -/
def Obligations.PinsAndTimestamps : Prop :=
  ∀ (s : State) (m : Master) (p id t n : Nat) (rest : List (Nat × Nat)),
    let sub := s.time.ptp / 2 ^ 28 + n
    let ns := sub / 16
    let mark (s : State) : State := (((s.wr Reg.TIME_PPSIN_SUB (2 ^ 31 + sub % 16)).wr Reg.TIME_PPSIN_NS (ns % 10 ^ 9)).wr Reg.TIME_PPSIN_SEC_LO
      (ns / 10 ^ 9 % 2 ^ 32)).wr Reg.TIME_PPSIN_SEC_HI (ns / 10 ^ 9 / 2 ^ 32 % 2 ^ 16)
    let width := s.fget Reg.TIME_PPS_CTL 9 0 * 1000000
    (s.time.ppsDue = true → exec .ppsOutEdge s = .next { s with time := { s.time with pps := true, ppsDue := false, ppsAt := s.sched.up } })
    ∧ (s.time.ppsDue = false → exec .ppsOutEdge s = .next s)
    ∧ (s.time.pps = true → s.time.ppsAt + width ≤ s.sched.up → exec .ppsOutWidthEnd s = .next { s with time := { s.time with pps := false } })
    ∧ ((s.time.pps = false ∨ s.sched.up < s.time.ppsAt + width) → exec .ppsOutWidthEnd s = .next s)
    ∧ (s.bget Reg.TIME_PPS_CTL 30 = true → s.bget Reg.TIME_PPSIN_SUB 31 = false → exec (.ppsInEdge n) s = .next (mark s))
    ∧ (s.bget Reg.TIME_PPS_CTL 30 = true → s.bget Reg.TIME_PPSIN_SUB 31 = true →
        exec (.ppsInEdge n) s = .next (mark (s.count Reg.TIME_PPSIN_OVW_CNT 1)))
    ∧ (s.bget Reg.TIME_PPS_CTL 30 = false → exec (.ppsInEdge n) s = .next s)
    ∧ (s.served Reg.TIME_PPSIN_SUB = true →
        exec (.timePpsinSubRead m) s = .next ((((((s.latch m Reg.TIME_PPSIN_NS (toW (s.rd Reg.TIME_PPSIN_NS))).latch m Reg.TIME_PPSIN_SEC_LO
          (toW (s.rd Reg.TIME_PPSIN_SEC_LO))).latch m Reg.TIME_PPSIN_SEC_HI (toW (s.rd Reg.TIME_PPSIN_SEC_HI))).bset Reg.TIME_PPSIN_SUB 31
          false)).answer (toW (s.rd Reg.TIME_PPSIN_SUB))))
    ∧ (p < 16 → s.served (Reg.TIME_TXTS_ID p) = true → Tab.get (fun _ => []) s.time.txts p = [] →
        exec (.timeTxtsIdRead m p) s = .next (s.answer 0))
    ∧ (p < 16 → s.served (Reg.TIME_TXTS_ID p) = true → Tab.get (fun _ => []) s.time.txts p = (id, t) :: rest →
        ∃ u, exec (.timeTxtsIdRead m p) s = .next u ∧ u.readData = toW (2 ^ 31 + rest.length * 2 ^ 20 + t % 16 * 2 ^ 16 + id)
          ∧ Tab.get (fun _ => []) u.time.txts p = rest ∧ u.regs = s.regs ∧ u.mem = s.mem
          ∧ u.latched m (Reg.TIME_TXTS_NS p) = some (toW (t / 16 % 10 ^ 9))
          ∧ u.latched m (Reg.TIME_TXTS_NS p + 4) = some (toW (t / 16 / 10 ^ 9 % 2 ^ 32))
          ∧ u.latched m (Reg.TIME_TXTS_NS p + 8) = some (toW (t / 16 / 10 ^ 9 / 2 ^ 32 % 2 ^ 16)))

/-- R308, R310 to R312, R320, R321: the media clock: its start takes MST and every copy of BN from the counter; the first
sample edge falls where the counter reaches the time of MST and does not count, every other one a sample period later,
within 100 ppm of nominal, and counts MST; each measures the phase; LOCKED sets and clears, and the word clock's gate
reports. The model's own choices among its clauses are named in log entries 3, 14, 25, 73, 74 and 192. -/
def Obligations.MediaClockRunsAndLocks : Prop :=
  ∀ (s : State) (m : Master) (v : Word) (n : Nat) (ph dev : Int),
    let w := if s.time.first then s.time.mst else s.time.mst + 1
    let gain := Config.loopGain (s.fget Reg.CLK_MEDIA_CTL 9 8)
    let steer := fdiv (s.time.e * ((1 + gain.1 : Nat) : Int) + s.time.integ) 65536
    let d : Int := Max.max (-1600000) (Min.min (dev + steer) 1600000)
    let rate : Int := 8 * 2 ^ 32 + sgn 32 (s.rd Reg.TIME_FREQ)
    let at' : Int := (s.time.mst : Int) * 16000000000 / s.fs + s.time.oReq
    let gap : Int := at' * 2 ^ 28 - s.time.ptp
    let now := s.sched.up * 2 ^ 32
    (s.served Reg.CLK_MEDIA_CTL = true → s.sched.rendering = false → s.bget Reg.CLK_MEDIA_CTL 0 = false → bitOf v.toNat 0 = true →
        ∃ t, exec (.mediaRunWrite m v) s = .next t ∧ t.mediaRun = true ∧ t.mem = s.mem ∧ t.time.ptp = s.time.ptp
          ∧ t.time.mst = (s.time.ptp / 2 ^ 28 * t.fs + 15999999999) / 16000000000 ∧ t.sched.bn = t.time.mst / t.blockLen
          ∧ t.sched.bnMedia = t.sched.bn ∧ t.sched.bnPtp = t.sched.bn ∧ t.sched.bnDram = t.sched.bn ∧ t.sched.bnAon = t.sched.bn
          ∧ t.time.o = 0 ∧ t.time.oReq = 0 ∧ t.time.integ = 0)
    ∧ (s.served Reg.CLK_MEDIA_CTL = true → s.sched.rendering = true →
        exec (.mediaRunWrite m v) s = .next (if getF v.toNat 9 8 = 3 then s else s.fset Reg.CLK_MEDIA_CTL 9 8 (getF v.toNat 9 8)))
    ∧ (s.mediaRun = true → s.bget Reg.CLK_MEDIA_STATUS 31 = false → s.fs ≤ s.time.lockRun →
        exec .mediaLock s = .next (s.bset Reg.CLK_MEDIA_STATUS 31 true))
    ∧ (s.mediaRun = true → s.bget Reg.CLK_MEDIA_STATUS 31 = true → 16000 < s.time.e.natAbs →
        exec .mediaUnlock s = .next (fire 0x1E 0 ((s.bset Reg.CLK_MEDIA_STATUS 31 false).bset Reg.CLK_MEDIA_STATUS 30 true)))
    ∧ (s.mediaRun = true → s.bget Reg.CLK_MEDIA_STATUS 31 = true → s.time.e.natAbs ≤ 16000 → exec .mediaUnlock s = .next s)
    ∧ (n ≠ 0 → s.time.wclkLost = false → exec (.wclkInGateEnd n ph) s = .next
        { (((s.bset Reg.CLK_MEDIA_STATUS 29 true).wr64 Reg.CLK_WCLK_IN_RATE_LO (n % 2 ^ 64)).wr Reg.CLK_WCLK_IN_PHASE (uns 32 ph)) with
            time := { s.time with wclkLost := false } })
    ∧ (s.bget Reg.CLK_MEDIA_STATUS 29 = true → exec .wclkInLoss s = .next (fire 0x1F 0
        ((({ s with time := { s.time with wclkLost := true } }.bset Reg.CLK_MEDIA_STATUS 29 false).bset Reg.CLK_MEDIA_STATUS 28 true).wr64
          Reg.CLK_WCLK_IN_RATE_LO 0)))
    ∧ (s.mediaRun = true → s.time.mst ≠ (s.sched.bnMedia + 1) * s.blockLen → s.bget Reg.CLK_MEDIA_STATUS 31 = false → s.time.lockRun < s.fs →
        s.queues = [] → (s.time.first = true ∨ ∀ p, p < 32 → tdmEdge s.time.mst s p = s) →
        ∃ t, exec (.sampleEdge dev) s = .next t ∧ t.time.mst = w ∧ t.time.first = false ∧ t.time.dev = d
          ∧ t.time.integ = s.time.integ + t.time.e * ((1 + gain.2 : Nat) : Int)
          ∧ (s.time.first = false → t.time.edgeAt = s.time.edgeAt + 10 ^ 9 * 2 ^ 32 * 16 * 10 ^ 9 / (s.fs * (16 * 10 ^ 9 + d).toNat))
          ∧ (s.time.first = true → gap ≤ 0 → t.time.edgeAt = now)
          ∧ (s.time.first = true → 0 < gap → gap * 2 ^ 35 ≤ ((t.time.edgeAt : Int) - now) * rate
              ∧ ((t.time.edgeAt : Int) - now) * rate < gap * 2 ^ 35 + rate)
          ∧ t.sched.up = s.sched.up + 8 * ((t.time.edgeAt / 2 ^ 32 - s.sched.up) / 8)
          ∧ t.time.ptp = (((s.time.ptp : Int) + ((t.time.edgeAt / 2 ^ 32 - s.sched.up) / 8 : Nat) * rate) % (ptpMod : Int)).toNat
          ∧ t.time.e = ((t.time.ptp : Int) + ((t.time.edgeAt : Int) - (t.sched.up * 2 ^ 32 : Nat)) * rate / 2 ^ 35) / 2 ^ 28
              - ((w : Int) * 16000000000 / s.fs + s.time.oReq)
          ∧ t.rd Reg.CLK_PHASE_ERR = uns 32 (satS 32 t.time.e)
          ∧ t.time.lockRun = (if t.time.e.natAbs ≤ 1600 then s.time.lockRun + 1 else 0) ∧ t.mem = s.mem
          ∧ t.time.wclkOut = (s.time.wclkMode == 1 || (s.time.wclkMode == 2 && decide (w % s.blockLen < s.blockLen / 2))))

/-- R12, R14, R18, R188, R521: an access of a register that has no effect of its own: each field follows its access code,
RWE fields go to the shadow, a read clears RC fields, a read of a low half latches the high half for that master, and an
access that is not an aligned word is counted. The model's own choices among its clauses are named in log entries 13, 123,
124, 125 and 127. -/
def Obligations.RegisterAccessFollowsItsCode : Prop :=
  ∀ (s : State) (m : Master) (off : Nat) (v : Word) (r : Desc) (is : List Nat), off % 4 = 0 → s.served off = true → descOf off = some (r, is) →
    let plain := specialWrite m r (nth 0 is 0) (nth 0 is 1) off v s = none
    let read := specialRead m r.base (nth 0 is 0) s = none
    let live := s.wr off (r.fields.foldl (writeField s r.base off v.toNat) (s.rd off))
    let word := toW (regWord s off)
    (plain → r.fields.any (opensShadow s r.base off v.toNat) = false → exec (.registerWrite m off v) s = .next live)
    ∧ (plain → r.fields.any (opensShadow s r.base off v.toNat) = true →
        exec (.shadowWrite m off v) s = .next (openShadow off (r.fields.foldl (writeShadow s r.base off v.toNat) (s.shadowWord off)) live))
    ∧ (∀ f w, f ∈ r.fields →
        (f.acc = .ro ∨ f.acc = .rc ∨ f.acc = .wo ∨ f.acc = .rwe → writeField s r.base off v.toNat w f = w)
        ∧ (f.acc = .rw → fieldOk s r.base off f.hi (getF v.toNat f.hi f.lo) = true → writeField s r.base off v.toNat w f = setF w f.hi f.lo (getF v.toNat f.hi f.lo))
        ∧ (f.acc = .rw → fieldOk s r.base off f.hi (getF v.toNat f.hi f.lo) = false → writeField s r.base off v.toNat w f = w)
        ∧ (f.acc = .w1c → writeField s r.base off v.toNat w f = setF w f.hi f.lo (getF w f.hi f.lo - (getF w f.hi f.lo &&& getF v.toNat f.hi f.lo)))
        ∧ (f.acc = .w1s → writeField s r.base off v.toNat w f = setF w f.hi f.lo (getF w f.hi f.lo ||| getF v.toNat f.hi f.lo)))
    ∧ (read → s.latched m off = none → pairRows.contains r.base = false → octetRows.contains r.base = false → hasRC off = true →
        r.base ≠ Reg.QUEUE_PEAK 0 → exec (.rcRead m off) s = .next
          ((s.wr off (s.rd off - (s.rd off &&& rcMask off) + fieldsReset (r.fields.filter (fun f => f.acc == .rc)))).answer word))
    ∧ (read → s.latched m off = none → pairRows.contains r.base = true → octetRows.contains r.base = false → hasRC off = false →
        exec (.latchingRead m off) s = .next ((s.latch m (off + 4) (toW (regWord s (off + 4)))).answer word))
    ∧ (∀ w, read → s.latched m off = some w → exec (.latchingRead m off) s = .next ((s.unlatch m off).answer w))
    ∧ (∀ o, s.served Reg.HIF_BAD_ACCESS_CNT = true →
        let u := (s.count Reg.HIF_BAD_ACCESS_CNT 1).wr Reg.HIF_BAD_ACCESS_LAST (2 ^ 31 + o % 2 ^ 24)
        exec (.misalignedAccess m o true) s = .next u ∧ exec (.misalignedAccess m o false) s = .next (u.answer 0))

/-- R149, R181, R550, R552, R553: the panic mute, the partition's direct write, and the counter snapshots. -/
def Obligations.MutePartitionAndSnapshotRegisters : Prop :=
  ∀ (s : State) (m : Master) (v : Word),
    (s.served Reg.OUT_CTL = true → exec (.panicMuteWrite m v) s = .next (s.bset Reg.OUT_CTL 0 (bitOf v.toNat 0)))
    ∧ (s.served Reg.NIB_PARTITION = true → (∃ p ∈ s.scene.objs, p.2.st ≠ .free) →
        exec (.nibPartitionWrite m v) s = .next (s.bset Reg.NIB_ARRAY_STATUS 2 true))
    ∧ (s.served Reg.NIB_PARTITION = true → (∀ p ∈ s.scene.objs, p.2.st = .free) → ∃ t, exec (.nibPartitionWrite m v) s = .next t
        ∧ t.rd Reg.NIB_PARTITION_SHADOW = v.toNat % 2 ∧ t.rd Reg.NIB_PARTITION = s.rd Reg.NIB_PARTITION
        ∧ Reg.NIB_PARTITION ∈ t.sched.openShadows ∧ t.mem = s.mem ∧ t.scene = s.scene)
    ∧ (s.served Reg.STAT_SNAP = true → bitOf v.toNat 0 = true →
        exec (.snapRequest m v) s = .next { s with stat := { s.stat with
          snapArmed := true, snapClear := (s.stat.snapArmed && s.stat.snapClear) || bitOf v.toNat 1 } })
    ∧ (s.stat.snapArmed = true → s.stat.latched = true →
        exec .snapDone s = .next (fire 0x4C 0 ((State.wr64 { s with stat := { s.stat with snapArmed := false, snapClear := false, latched := false } }
          Reg.STAT_SNAP_BN_LO s.stat.snapAt).count Reg.STAT_SNAP_CNT 1)))
    ∧ (s.served Reg.STAT_SHD_DATA = true →
        let a := s.rd Reg.STAT_SHD_ADDR
        exec (.statShdDataRead m) s = .next ((s.wr Reg.STAT_SHD_ADDR ((a + 4) % 2 ^ 24)).answer
          (if s.stat.snapArmed = false ∧ s.stat.taken = true ∧ hasRC a = true ∧ present s.variant a = true then Tab.get resetWord s.stat.shadow a else 0)))

/-- R7, R188 to R193, R196, R201: a seal that nothing refuses makes a new commit of the open shadows or joins the pending
one of its target, where of one field only the last value staged stays; a refused one only sets its refusal bits;
abandoning returns the shadows; a participant that is present arms unless it withholds. The model's own choices among its
clauses are named in log entries 3 and 76. -/
def Obligations.SealsJoinAndArm : Prop :=
  ∀ (s : State) (m : Master) (v : Word) (cid p : Nat), s.served Reg.GLB_COMMIT_EPOCH_HI = true →
    let u := s.wr Reg.GLB_COMMIT_EPOCH_HI v.toNat
    let t := u.rd64 Reg.GLB_COMMIT_EPOCH_LO
    let items := s.sched.openShadows.map (fun off => Item.reg off (rweMask off) (u.rd (shadowOf off) &&& rweMask off))
    let full := decide (8 ≤ s.sched.commits.length) && !s.sched.commits.any (fun c => c.target == t)
    (s.bn + 2 ≤ t → t ≤ s.bn + 16777216 → full = false → s.sched.rendering = true → joinable t s.sched.commits = none →
      ∃ w c, exec (.commitSeal m v) s = .next w ∧ w.sched.commits = s.sched.commits ++ [c] ∧ w.sched.nextCid = s.sched.nextCid + 1
        ∧ w.sched.openShadows = [] ∧ w.regs = u.regs ∧ w.mem = s.mem ∧ w.scene = s.scene ∧ c.cid = s.sched.nextCid ∧ c.target = t
        ∧ c.original = t ∧ c.items = items ∧ c.wrote = s.sched.openShadows ∧ c.defers = 0 ∧ c.verdict = none ∧ c.peer = false)
    ∧ (∀ c, s.bn + 2 ≤ t → t ≤ s.bn + 16777216 → s.sched.rendering = true → joinable t s.sched.commits = some c →
      ∃ w, exec (.commitSeal m v) s = .next w ∧ w.sched.nextCid = s.sched.nextCid ∧ w.sched.openShadows = [] ∧ w.regs = u.regs ∧ w.mem = s.mem
        ∧ w.sched.commits.map (fun d => d.cid) = s.sched.commits.map (fun d => d.cid)
        ∧ w.sched.commits.map (fun d => d.target) = s.sched.commits.map (fun d => d.target)
        ∧ w.sched.commits.map (fun d => d.items)
            = s.sched.commits.map (fun d => if d.cid = c.cid ∧ d.peer = c.peer then items.foldl addItem d.items else d.items))
    ∧ (∀ is i j, (∀ a b c, i ≠ Item.reg a b c) → i.key ≠ none → (j ∈ addItem is i ∧ j.same i = true ↔ j = i))
    ∧ ((t < s.bn + 2 ∨ s.bn + 16777216 < t ∨ full = true ∨ s.sched.rendering = false) →
      exec (.commitSeal m v) s = .next (u.wr Reg.GLB_COMMIT_STATUS (u.rd Reg.GLB_COMMIT_STATUS ||| (b2n (decide (t < s.bn + 2)) * 2 ^ 31
        + b2n (decide (s.bn + 16777216 < t)) * 2 ^ 30 + b2n full * 2 ^ 29 + b2n (!s.sched.rendering) * 2 ^ 28))))
    ∧ (s.served Reg.GLB_COMMIT_ABANDON = true → bitOf v.toNat 0 = true →
      let w := s.sched.openShadows.foldl (fun u off => u.wr (shadowOf off) (u.rd off &&& rweMask off)) s
      exec (.commitAbandon m v) s = .next { w with sched := { w.sched with openShadows := [] } })
    ∧ (p < 12 → bitOf (presentParts s.variant) p = true → withholding s &&& 2 ^ p = 0 →
      exec (.armRaise cid p) s = .next (s.setCommits (s.sched.commits.map (fun c =>
        if c.cid = cid ∧ ¬ (p = 11 ∧ c.acksDue ≠ 0 ∧ twinHolds s = true) then { c with armed := c.armed ||| 2 ^ p } else c))))
    ∧ (p < 12 → (withholding s &&& 2 ^ p ≠ 0 ∨ bitOf (presentParts s.variant) p = false) → exec (.armRaise cid p) s = .next s)

/-- R194, R195, R198: in the verdict slot every commit due at the next boundary has GO if every participant has armed for
each of them and the boundary is not the one that halts render; else each defers by one boundary, and GLB_COMMIT_WAIT names
the unarmed. The model's own choices among its clauses are named in log entries 3, 21 and 41. -/
def Obligations.VerdictGoesOrDefers : Prop :=
  ∀ (s : State), s.sched.rendering = true → s.sched.verdictDone = false → followsPeer s = false →
    let slot := s.slot 392000 325000
    let w := (takeSnap s).reach slot
    let u := { w with sched := { w.sched with verdictDone := true } }
    let x := s.bn + 1
    let due := s.sched.commits.filter (fun c => c.target == x && !c.peer)
    let unarmed := lower allParts (due.foldl (fun a c => a &&& armedBy u c) allParts)
    (due = [] → exec .commitVerdict s = .next u)
    ∧ (due ≠ [] → unarmed = 0 → s.sched.quietAt ≠ some x → ∃ t, exec .commitVerdict s = .next t ∧ t.regs = w.regs ∧ t.mem = w.mem
        ∧ t.sched.verdictDone = true ∧ t.sched.cycle = Nat.max s.sched.cycle slot
        ∧ t.twin.outcomes = due.map (fun c => (c.cid, 0))
        ∧ t.sched.commits = s.sched.commits.map (fun c => if c.target = x ∧ c.peer = false then { c with armed := allParts, verdict := some true } else c))
    ∧ (∀ c, due = [c] → (unarmed ≠ 0 ∨ s.sched.quietAt = some x) → c.defers < 7 → ∃ t, exec .commitVerdict s = .next (fire 0x02 0 t)
        ∧ t.mem = w.mem ∧ t.sched.verdictDone = true
        ∧ t.rd Reg.GLB_COMMIT_WAIT = unarmed % 2 ^ 32 ∧ t.rd Reg.GLB_COMMIT_DEFER_CNT = Nat.min (w.rd Reg.GLB_COMMIT_DEFER_CNT + 1) 0xFFFFFFFF
        ∧ t.sched.commits = s.sched.commits.map (fun d => if d.cid = c.cid ∧ d.peer = c.peer then
            { d with target := x + 1, defers := d.defers + 1, verdict := none } else d))

/-- R43, R44, R60, R152, R315, R547: a boundary of a module that holds no work counts BN in every domain and begins a new
interval, the holdoff of every interrupt vector counts it, and nothing else of the scene, the queues and memory changes;
before its MST there is none. A released object whose fade has ended is FREE with its record at reset. The muting of each
partition switch ends after its last block. The model's own choices among its clauses are named in log entries 3, 14, 21,
22, 23, 32 and 33. -/
def Obligations.BoundaryCountsAndReleasesEnd : Prop :=
  ∀ (s : State) (o : Nat),
    (IdleModule s → s.mediaRun = true → s.time.mst = (s.sched.bnMedia + 1) * s.blockLen → ∃ t, exec .boundaryPulse s = .next t
      ∧ t.sched.bn = s.sched.bnMedia + 1 ∧ t.sched.bnMedia = s.sched.bnMedia + 1 ∧ t.sched.bnPtp = s.sched.bnMedia + 1
      ∧ t.sched.bnDram = s.sched.bnMedia + 1 ∧ t.sched.bnAon = s.sched.bnMedia + 1 ∧ t.sched.cycle = 0 ∧ t.sched.rendering = false
      ∧ t.sched.verdictDone = false ∧ t.time.o = s.time.oReq ∧ t.time.mst = s.time.mst ∧ t.mem = s.mem
      ∧ t.scene.objs = [] ∧ t.sched.commits = [] ∧ t.freeCtr = s.freeCtr
      ∧ ∀ v n, Tab.find s.hif.msixSent v = some n → Tab.find t.hif.msixSent v = some (Nat.min 255 (n + 1)))
    ∧ ((s.mediaRun = false ∨ s.time.mst ≠ (s.sched.bnMedia + 1) * s.blockLen) → exec .boundaryPulse s = .next s)
    ∧ ((s.obj o).st = .releasing → (s.obj o).relF + (s.obj o).relN + 1 ≤ s.bn → ∃ t, exec (.releaseFadeComplete o) s = .next t
      ∧ t.obj o = Obj.reset ∧ (∀ p, p ≠ o → t.obj p = s.obj p) ∧ o ∈ t.scene.clearing ∧ t.regs = s.regs ∧ t.mem = s.mem
      ∧ t.scene.trajOps = s.scene.trajOps.filter (fun k => k.obj != o))
    ∧ (((s.obj o).st ≠ .releasing ∨ s.bn < (s.obj o).relF + (s.obj o).relN + 1) → exec (.releaseFadeComplete o) s = .next s)
    ∧ (∃ t, exec .partitionMuteEnd s = .next t ∧ { t with scene := { t.scene with mutes := s.scene.mutes } } = s
      ∧ (∀ f e, (f, e) ∈ t.scene.mutes ↔ (f, e) ∈ s.scene.mutes ∧ s.bn < e + 2) ∧ (2 ≤ s.bn → partMuted t = partMuted s))

/-- R38, R39, R57 to R60, R75, R151, R152, R197, R203: a commit with GO applies whole: its items become takes of their
stages, GLB_COMMIT_LAST and the apply count follow; and what a stage does when it takes an item. The model's own choices
among its clauses are named in log entries 14, 28, 44 and 180. -/
def Obligations.AppliedItemsTakeEffectByStage : Prop :=
  ∀ (s : State) (c : Commit) (x b e o n : Nat) (ws : List Word) (sets : List (Nat × Word)) (w : Bool),
    let due (st : Nat) (i : Item) : State := takeItem ⟨b, e, st, i⟩ s
    (s.sched.commits.filter (fun d => d.target == x && !d.peer) = [c] → c.verdict = some true → c.peer = false →
      ∃ t, ownCommits x s = t ∧ t.sched.commits = s.sched.commits.filter (fun d => !(d.cid == c.cid && d.peer == c.peer))
        ∧ t.sched.takes = (takesOf x c).foldl addTake s.sched.takes ∧ t.rd64 Reg.GLB_COMMIT_LAST_LO = x % 2 ^ 64
        ∧ t.rd Reg.GLB_COMMIT_APPLY_CNT = Nat.min (s.rd Reg.GLB_COMMIT_APPLY_CNT + 1) 0xFFFFFFFF ∧ t.scene = s.scene ∧ t.mem = s.mem)
    ∧ (RenderedModule s → s.mediaRun = true → s.time.mst = (s.sched.bnMedia + 1) * s.blockLen → s.sched.commits = [c] → c.peer = false →
      c.target = s.sched.bnMedia + 1 → c.verdict = some true → (∀ k ∈ takesOf (s.sched.bnMedia + 1) c, s.sched.bnMedia + 1 < k.bn) →
      ∃ t, exec .boundaryPulse s = .next t ∧ t.sched.commits = [] ∧ t.sched.takes = (takesOf (s.sched.bnMedia + 1) c).foldl addTake []
        ∧ t.rd64 Reg.GLB_COMMIT_LAST_LO = (s.sched.bnMedia + 1) % 2 ^ 64
        ∧ t.rd Reg.GLB_COMMIT_APPLY_CNT = Nat.min (s.rd Reg.GLB_COMMIT_APPLY_CNT + 1) 0xFFFFFFFF
        ∧ t.sched.bn = s.sched.bnMedia + 1 ∧ t.sched.rendering = true)
    ∧ ((s.obj o).st = .armed → ((due 1 (.spawn o ws)).obj o) = { s.obj o with st := .live } ∧ ((due 1 (.spawn o ws)).xp o).phase = e
        ∧ ((due 1 (.spawn o ws)).xp o).fresh = true ∧ ∀ p, p ≠ o → (due 1 (.spawn o ws)).obj p = s.obj p)
    ∧ ((s.obj o).st = .live → ((due 1 (.release o)).obj o).st = .releasing ∧ ((due 1 (.release o)).obj o).relF = e
        ∧ ((due 1 (.release o)).obj o).relN = ((s.obj o).field 4 31 16 + s.scene.rate - 1) / s.scene.rate * s.scene.rate
        ∧ ((due 1 (.release o)).obj o).words = (s.obj o).words)
    ∧ ((s.obj o).st ≠ .free → (due 1 (.objSet o sets)).obj o = { s.obj o with words := layOver sets (s.obj o).words })
    ∧ ((due 1 (.spk n ws)).spkR n = ⟨ws⟩ ∧ (due 1 (.spk n ws)).spkO n = s.spkO n
        ∧ (due 2 (.spk n ws)).spkO n = ⟨ws⟩ ∧ (due 2 (.spk n ws)).spkR n = s.spkR n)
    ∧ (due 1 (.partition w)).scene.wideR = w ∧ (due 1 (.partition w)).scene.wideN = s.scene.wideN
    ∧ (w = s.scene.wideN → due 2 (.partition w) = s)
    ∧ (w ≠ s.scene.wideN → (due 2 (.partition w)).scene.wideN = w
        ∧ (due 2 (.partition w)).scene.mutes = s.scene.mutes.filter (fun m => decide (e < m.2)) ++ [(e, e + winLen w / s.blockLen)]
        ∧ ∀ t, t < 64 → (due 2 (.partition w)).rd (Reg.NIB_TILE_SETSEL t) = 0)

/-- R266 to R268, R272, R274, R275: a window goes live whole or not at all, and a bank changes its power state or is
refused. The model's own choices among its clauses are named in log entries 3 and 40. -/
def Obligations.WindowsAndBankPower : Prop :=
  ∀ (s : State) (m : Master) (i w : Nat) (v : Word),
    let base := (Tab.get (fun _ => (0 : Word)) s.held (Reg.MEMC_WIN_BASE i w)).toNat % 2 ^ 17
    let len := v.toNat % 2 ^ 18
    let u := (s.wr (Reg.MEMC_WIN_BASE i w) base).wr (Reg.MEMC_WIN_LEN i w) len
    let a := Reg.MEMC_BANK_PWR i
    let req := v.toNat % 4
    (s.served (Reg.MEMC_WIN_LEN i w) = true → hasWindows i = true → bankWords i < base + len →
      exec (.memcWinLenWrite m i w v) s = .next (s.bset Reg.MEMC_STATUS 0 true))
    ∧ (s.served (Reg.MEMC_WIN_LEN i w) = true → hasWindows i = true → base + len ≤ bankWords i →
      exec (.memcWinLenWrite m i w v) s = .next (if (s.rd (Reg.MEMC_WIN_BASE i w) ≠ base ∨ s.rd (Reg.MEMC_WIN_LEN i w) ≠ len)
        ∧ (s.rd (Reg.MEMC_WIN_LEN i w) ≠ 0 ∨ len ≠ 0) then fire 0x19 i (u.wr Reg.MEMC_WIN_LAST (i * 2 ^ 20 + w)) else u))
    ∧ (s.served a = true → req ≠ 3 → req ≠ 0 → s.sched.rendering = true → bankBarred s i = true →
      exec (.memcBankPwrWrite m i v) s = .next (s.bset Reg.MEMC_STATUS 1 true))
    ∧ (s.served a = true → req ≠ 3 → (req = 0 ∨ s.sched.rendering = false ∨ bankBarred s i = false) → s.fget Reg.PWR_STATUS 31 30 = 0 →
      s.fget a 31 30 ≠ req → exec (.memcBankPwrWrite m i v) s = .next
        { (s.fset a 1 0 req).bset a 29 true with pwr := { s.pwr with moving := Tab.ins s.pwr.moving i req } })
    ∧ (s.served a = true → req ≠ 3 → (req = 0 ∨ s.sched.rendering = false ∨ bankBarred s i = false) →
      (s.fget Reg.PWR_STATUS 31 30 ≠ 0 ∨ (s.fget a 31 30 = req ∧ s.bget a 29 = false)) →
      exec (.memcBankPwrWrite m i v) s = .next (s.fset a 1 0 req))
    ∧ (s.served a = true → req = 3 → exec (.memcBankPwrWrite m i v) s = .next s)
    ∧ (bankPresent s.variant i = true → i < 288 → s.bget a 29 = true → ∃ t, exec (.bankPwrTransitionDone i) s = .next t
      ∧ t.fget a 31 30 = s.bankTarget i % 4 ∧ t.bget a 29 = false ∧ (∀ b, b ≠ a → t.rd b = s.rd b) ∧ t.fget a 1 0 = s.fget a 1 0
      ∧ ((s.bankTarget i ≠ 2 ∨ s.fget a 31 30 = 2) → t.mem = s.mem)
      ∧ (s.bankTarget i = 2 → s.fget a 31 30 ≠ 2 → i ∈ t.mem.lost ∧ ∀ x, (x < bankBase i ∨ bankBase i + 4 * bankWords i ≤ x) → t.byteAt x = s.byteAt x))
    ∧ (∀ r, s.bget a 29 = true → Tab.find s.pwr.moving i = some r → s.bankTarget i = r)
    ∧ (s.bget a 29 = true → Tab.find s.pwr.moving i = none → s.bankTarget i = s.fget a 1 0)
    ∧ (s.bget a 29 = false → exec (.bankPwrTransitionDone i) s = .next s)

/-- R257, R261 to R264, R266, R271, R272, R519, R520: an atomic returns the old word and stores the new one; two ports on
one word in one cycle act in their order, and two writes collide and are counted; other atomic requests end without an
access; a sub-word write merges the bytes it enables; a host write through BAR2 stores the word, and the Inkwell and the
protected banks count it away. Every other byte stands. The model's own choices among its clauses are named in log entries
7, 34, 39, 120, 154, 155 and 190. -/
def Obligations.AtomicsAndPartialWrites : Prop :=
  ∀ (s : State) (m : Master) (a i w : Nat) (be : BitVec 4) (v : Word) (o : PortOp) (q : AtomReq), a % 4 = 0 → bankOf a = some (i, w) →
    bankPresent s.variant i = true →
    let p := bankBase i + 4 * winMap s i w
    let old := s.mem.rdWord p
    let good := s.bankOn i = true ∧ s.mem.unwritten i p = false ∧ s.mem.bad.contains p = false
    let kept (t : State) : Prop := t.regs = s.regs ∧ ∀ x, (x < p ∨ p + 4 ≤ x) → t.byteAt x = s.byteAt x
    let owns := Master.isScribe m && decide (272 ≤ i) && decide (i < 276)
    let both (t : State) : Prop := (∀ x, (x < p ∨ p + 4 ≤ x) → t.byteAt x = s.byteAt x)
      ∧ (portWrites o = false → t.regs = s.regs)
      ∧ (portWrites o = true → t.rd Reg.MEMC_BANK_COLLIDE_CNT = Nat.min (s.rd Reg.MEMC_BANK_COLLIDE_CNT + 1) 0xFFFFFFFF)
    let alone (t : State) : Prop := (o = .idle → t.mem = s.mem) ∧ (hasWindows i = true → good → t.regs = s.regs
      ∧ t.mem.rdWord p = (portRun o (old, false)).1 ∧ ∀ x, (x < p ∨ p + 4 ≤ x) → t.byteAt x = s.byteAt x)
    (inSram a = true → m ≠ .dbg → hasWindows i = true → i < 286 → good →
      (∃ t, exec (.atomicAdd m a v .idle) s = .next t ∧ t.readData = old ∧ t.readEP = false ∧ t.readFault = false
        ∧ t.mem.rdWord p = old + v ∧ kept t)
      ∧ (∃ t, exec (.atomicSwap m a v .swap .idle) s = .next t ∧ t.readData = old ∧ t.readEP = false ∧ t.readFault = false
        ∧ t.mem.rdWord p = v ∧ kept t))
    ∧ (inSram a = true → m ≠ .dbg → hasWindows i = true → i < 286 → good → owns = false ∨ portAtomic o = false →
      let seen := (portRun o (old, false)).1
      (∃ t, exec (.atomicAdd m a v o) s = .next t ∧ t.readData = seen ∧ t.mem.rdWord p = seen + v ∧ both t)
      ∧ (∃ t, exec (.atomicSwap m a v .swap o) s = .next t ∧ t.readData = seen ∧ t.mem.rdWord p = v ∧ both t))
    ∧ (inSram a = true → hasWindows i = true → good → owns = true → portAtomic o = true →
      (∃ t, exec (.atomicAdd m a v o) s = .next t ∧ t.readData = old ∧ t.otherData = old + v
        ∧ t.mem.rdWord p = (portRun o (old + v, false)).1 ∧ both t)
      ∧ (∃ t, exec (.atomicSwap m a v .swap o) s = .next t ∧ t.readData = old ∧ t.otherData = v ∧ t.mem.rdWord p = (portRun o (v, false)).1
        ∧ both t))
    ∧ (inSram a = true → q ≠ .swap → ∃ t, exec (.atomicSwap .host a v q o) s = .next t ∧ t.readData = 0 ∧ t.readFault = true
      ∧ bitOf t.hif.aerStatus.toNat 20 = true ∧ alone t)
    ∧ (∀ n, inSram a = true → (∃ t, exec (.atomicSwap (.scribe n) a v .other o) s = .next t ∧ t.readFault = true ∧ t.readData = s.readData ∧ alone t)
      ∧ (∃ t, exec (.atomicSwap (.scribe n) a v .storeConditional o) s = .next t ∧ t.readData = 1 ∧ t.readFault = false ∧ alone t)
      ∧ (good → ∃ t, exec (.atomicSwap (.scribe n) a v .loadReserved o) s = .next t ∧ t.readData = old ∧ t.readFault = false ∧ alone t))
    ∧ (inSram a = true → m ≠ .dbg → hasWindows i = false → ∃ t, exec (.atomicAdd m a v o) s = .next t ∧ (o = .idle → t.mem = s.mem)
      ∧ t.bget Reg.MEMC_STATUS 2 = true)
    ∧ (inSram a = true → m ≠ .dbg → 286 ≤ i → ∃ t, exec (.atomicSwap m a v .swap .idle) s = .next t ∧ t.mem = s.mem
      ∧ t.rd Reg.MEMC_PROTECT_CNT = Nat.min (s.rd Reg.MEMC_PROTECT_CNT + 1) 0xFFFFFFFF)
    ∧ (inSram a = true → i < 286 → (i < 64 ∨ 128 ≤ i) → good → ∃ t, exec (.subWordWrite m a be v) s = .next t ∧ kept t
      ∧ (∀ k, k < 4 → t.byteAt (p + k) = if be.getLsbD k then v.extractLsb' (8 * k) 8 else old.extractLsb' (8 * k) 8))
    ∧ (inSram a = true → i < 286 → (i < 64 ∨ 128 ≤ i) → s.bankOn i = false → exec (.subWordWrite m a be v) s = .next
        (if Master.isScribe m then (s.count Reg.MEMC_REFUSED_CNT 1).accessFault else s.count Reg.MEMC_REFUSED_CNT 1))
    ∧ (inSram a = true → hasWindows i = true → good → ∃ t, exec (.subWordWrite m a be v o) s = .next t
      ∧ t.mem.rdWord p = (portRun o (mergeBytes be old v, false)).1 ∧ both t)
    ∧ (inSram a = true → 286 ≤ i → exec (.subWordWrite m a be v) s = .next (s.count Reg.MEMC_PROTECT_CNT 1))
    ∧ (inSram a = true → 64 ≤ i → i < 128 → exec (.subWordWrite m a be v) s = .next (s.count (Reg.NIB_TILE_INK_REJECT_CNT (i - 64)) 1))
    ∧ (∀ f, f < 0x8000000 → a = 0x100000000 + f → s.hif.d3 = false →
      (good → (i < 64 ∨ 128 ≤ i) → exec (.bar2Write f v .idle .read) s = .next (s.answer old))
      ∧ (286 ≤ i → ∃ t, exec (.bar2Write f v .idle) s = .next t ∧ t.mem = s.mem
        ∧ t.rd Reg.MEMC_PROTECT_CNT = Nat.min (s.rd Reg.MEMC_PROTECT_CNT + 1) 0xFFFFFFFF)
      ∧ (64 ≤ i → i < 128 → ∃ t, exec (.bar2Write f v .idle) s = .next t ∧ t.mem = s.mem
        ∧ t.rd (Reg.NIB_TILE_INK_REJECT_CNT (i - 64)) = Nat.min (s.rd (Reg.NIB_TILE_INK_REJECT_CNT (i - 64)) + 1) 0xFFFFFFFF)
      ∧ (i < 286 → (i < 64 ∨ 128 ≤ i) → s.bankOn i = false → ∃ t, exec (.bar2Write f v o) s = .next t ∧ t.mem = s.mem
        ∧ t.rd Reg.MEMC_REFUSED_CNT = Nat.min (s.rd Reg.MEMC_REFUSED_CNT + (if o = .idle then 1 else 2)) 0xFFFFFFFF)
      ∧ (i < 286 → (i < 64 ∨ 128 ≤ i) → s.bankOn i = true → ∃ t, exec (.bar2Write f v .idle) s = .next t ∧ t.mem.rdWord p = v ∧ kept t)
      ∧ (i < 286 → (i < 64 ∨ 128 ≤ i) → good → ∃ t, exec (.bar2Write f v o) s = .next t ∧ t.mem.rdWord p = (portRun o (v, false)).1
        ∧ (portAtomic o = true → t.otherData = v) ∧ (o = .read → t.otherData = old) ∧ both t))
    ∧ (∀ f, f < 0x8000000 → a = 0x100000000 + f → s.hif.d3 = true → exec (.bar2Write f v o) s = .next s.unsupported)

/-- R71, R72, R123, R389, R403, R407 to R410: the ingress of a block: the conditioning chain, a resampler group, the
detectors and the write path each do their work once in an interval that renders: every enabled decimator advances by a
block of samples, a ratio stays within a thousandth of its base, a level follows its detector's energy, and a copied word
loses its low seven bits. Otherwise nothing changes (the model's choice, log entry 3). The model's own choices among its
clauses are named in log entries 3, 9, 67, 68, 69, 70, 71, 72 and 157. -/
def Obligations.IngressOfABlock : Prop :=
  ∀ (s : State) (bits : List Nat) (p o c ch : Nat) (tx : Bool) (rest : List (Nat × Nat)), s.sched.rendering = true → 1 ≤ s.bn →
    let m (u : State) (i : Nat) : Nat := (u.bn - 1) * u.blockLen + i
    let k := 2 * p + b2n tx
    (s.cond.done = false → s.sched.copyDone = false → ∃ t, exec (.condBlockOutput bits) s = .next t ∧ t.cond.done = true ∧ t.scene = s.scene ∧ t.time = s.time
      ∧ (∀ x, x < 0x107800000 → t.byteAt x = s.byteAt x)
      ∧ ∀ d, d < 16 →
        let ctl := condPrev s (Reg.COND_DEC_CTL d)
        let osr := osrOf s.is48 (condPrev s Reg.COND_DS_CLK % 2)
        let from' := if s.cond.resetPrev.contains d then { DecSt.reset with left := settleCount ctl (s.bn - 1) s.blockLen } else s.dec d
        t.dec d = if bitOf ctl 31 = true ∧ s.cond.from' ≤ s.bn - 1
          then (List.range s.blockLen).foldl (fun x i => (decSample ctl osr (nth 0 bits d) (i * osr) (m s i) x).2) from' else from')
    ∧ ((s.cond.done = true ∨ s.sched.copyDone = true) → exec (.condBlockOutput bits) s = .next s)
    ∧ (tdmOn s p = true → tdmMode s p = 2 → (s.grp k).done = false → (tx = true ∨ s.sched.copyDone = false) →
      rsChannels s p tx = (c, ch) :: rest →
        ∃ t, exec (.resamplerBlock p tx) s = .next t ∧ (t.grp k).done = true ∧ t.scene = s.scene
        ∧ (∀ x, x < 0x107800000 → t.byteAt x = s.byteAt x)
        ∧ ∀ b, (if s.bget (Reg.COND_RS_CTL ch) 31 then (s.grp k).base = some b
            else b = s.rd (Reg.COND_RS_RATIO_LO ch) + 2 ^ 32 * s.rd (Reg.COND_RS_RATIO_HI ch)) → baseOk b = true →
          (t.grp k).base = some b ∧ (b : Int) - ((b / 1000 : Nat) : Int) ≤ (t.grp k).r ∧ (t.grp k).r ≤ (b : Int) + ((b / 1000 : Nat) : Int))
    ∧ ((tdmOn s p = false ∨ tdmMode s p ≠ 2 ∨ (s.grp k).done = true ∨ (tx = false ∧ s.sched.copyDone = true)) → exec (.resamplerBlock p tx) s = .next s)
    ∧ (ringSealed s = true → s.cond.judged = false → ∃ t, exec .levelDetectorEvaluation s = .next t ∧ t.cond.judged = true ∧ t.scene = s.scene
      ∧ t.rd64 Reg.COND_GUARD_LO = guardBits t ∧ ∀ d, d < 32 →
        let ctl := condPrev s (Reg.COND_DET_CTL d)
        (bitOf ctl 31 = false → t.bget (Reg.COND_DET_LEVEL d) 31 = false ∧ t.bget (Reg.COND_DET_LEVEL d) 30 = false)
        ∧ (bitOf ctl 31 = true → t.fget (Reg.COND_DET_LEVEL d) 15 0 = s.fget (Reg.COND_DET_LEVEL d) 15 0
          ∨ t.fget (Reg.COND_DET_LEVEL d) 15 0 = uns 16 (detLevel (t.det d).e (sgn 16 (condPrev s (Reg.COND_DET_CAL d))))))
    ∧ ((s.cond.judged = true ∨ ringSealed s = false) → exec .levelDetectorEvaluation s = .next s)
    ∧ (s.sched.copyDone = false → ringSealed s = true → s.sched.cycle ≤ 7999 → (s.scene.objs.filter (fun q => q.2.alive && q.2.kind != 4)).map (fun q => q.1) = [o] →
      let u := (List.range s.blockLen).foldl (fun u i => storeWord (histAddr u.scene.wideR o (m u i))
        ((sourceWord (nth 0 (s.obj o).words 1).toNat (m u i) u).1 &&& 0xFFFFFF80) false (sourceWord (nth 0 (s.obj o).words 1).toNat (m u i) u).2) (s.reach (sealCycle s))
      exec .inkwellWritePathCopy s = .next { u with sched := { u.sched with copyDone := true } })
    ∧ ((s.sched.copyDone = true ∨ ringSealed s = false ∨ 7999 < s.sched.cycle) → exec .inkwellWritePathCopy s = .next s)

/-- R33, R37, R83, R102 to R108, R115, R116: a Ruling pass, its deadline, and the override merge; and the record that a
crosspoint takes from its law and its predecessor: the clamp and the slew limit, the polarity fade, the fault hold, the
inactive law. The model's own choices among its clauses are named in log entries 3, 5, 27, 30, 140, 144, 147, 149, 150, 164
and 177. -/
def Obligations.RulingPassAndRecords : Prop :=
  ∀ (s : State) (f r jl dmax bulk : Nat) (wide : Bool) (x : Obj) (prev : Rec) (l : LawRes), s.sched.rendering = true →
    let rec' := (makeRec wide x jl dmax bulk prev l).1
    let u := runPass r (s.reach (ruleDeadline s))
    let v := { u with sched := { u.sched with ruleDone := true, finRule := ruleDeadline u / 16 } }.bset Reg.GLB_OVERRUN 0 true
    (s.sched.ruleDone = false → 64 ≤ f → f ≤ s.slot 359999 299999 → s.sched.cycle ≤ s.slot 359999 299999 → ∃ t, exec (.rulingPass f) s = .next t ∧ t.sched.ruleDone = true
      ∧ t.sched.finRule = (if (s.scene.objs.filter (fun p => p.2.alive)).isEmpty then 0 else f / 16)
      ∧ (∀ o, o ∈ t.scene.clearing → 4096 ≤ o) ∧ (∀ o, o ∈ t.scene.stuckNext → 4096 ≤ o))
    ∧ ((s.sched.ruleDone = true ∨ f < 64 ∨ s.slot 359999 299999 < f ∨ s.slot 359999 299999 < s.sched.cycle) → exec (.rulingPass f) s = .next s)
    ∧ (s.sched.ruleDone = false → exec (.rulingDeadline r) s = .next (if v.sched.overrun then v else
        fire 0x00 0 (({ v with sched := { v.sched with overrun := true } }).count Reg.GLB_OVERRUN_CNT 1)))
    ∧ (s.sched.ruleDone = false → ∀ o, o ∈ u.scene.stuckNext → r ≤ o)
    ∧ (s.sched.ruleDone = true → exec (.rulingDeadline r) s = .next s)
    ∧ (s.sched.ruleDone = true → s.sched.mergeDone = false → nibRests s = true → s.sched.cycle ≤ s.slot 375999 315999 → s.scene.held = none →
      s.qEnabled 16 = false →
      let w := flushXp true (s.reach (s.slot 360000 300000))
      exec .overrideMerge s = .next { w with sched := { w.sched with mergeDone := true } })
    ∧ (∀ o out g w, s.sched.ruleDone = true → s.sched.mergeDone = false → nibRests s = true → s.sched.cycle ≤ s.slot 375999 315999 →
      s.scene.held = some (o, out, g, w) → s.qEnabled 16 = false →
      let z := flushXp true (s.reach (s.slot 360000 300000))
      let y := { z with sched := { z.sched with mergeDone := true } }
      let j := judgePair o out g w y
      exec .overrideMerge s = .next (if j.1 then y else setHeld none j.2)
        ∧ ((y.obj o).alive = false → j = (false, y.count Reg.RULE_OVR_BAD_CNT 2)))
    ∧ ((s.sched.ruleDone = false ∨ s.sched.mergeDone = true ∨ nibRests s = false ∨ s.slot 375999 315999 < s.sched.cycle) →
      exec .overrideMerge s = .next s)
    ∧ (l.fault = true → rec' = ⟨prev.dly, if x.st = .releasing then 0 else prev.gain, prev.pol, prev.act, 1⟩)
    ∧ (l.fault = false → l.active = false → prev.act = true → 0 < prev.gain → rec' = ⟨prev.dly, 0, prev.pol, true, 0⟩)
    ∧ (l.fault = false → l.active = false → (prev.act = false ∨ prev.gain = 0) → rec' = Rec.inactive)
    ∧ (l.fault = false → l.active = true → prev.act = true → prev.pol ≠ l.pol → 0 < prev.gain → rec' = ⟨prev.dly, 0, prev.pol, true, 0⟩)
    ∧ (l.fault = false → l.active = true → (prev.act = false ∨ prev.pol = l.pol ∨ prev.gain = 0) → rec'.act = true ∧ rec'.pol = l.pol
      ∧ rec'.gain = (if x.st = .releasing then Nat.min (l.gl * x.field 2 17 0 / 65536) 262143 * (65536 * (x.relN - (jl + 1 - x.relF)) / x.relN) / 65536
          else Nat.min (l.gl * x.field 2 17 0 / 65536) 262143)
      ∧ (prev.act = true → rec'.dly ≤ prev.dly + dmax ∧ prev.dly ≤ rec'.dly + dmax)
      ∧ (prev.act = false → (rec'.dly : Int) = Max.max 0 (Min.min (l.tau - ((bulk * 2048 : Nat) : Int)) (if wide then 8257536 else 16646144))))

/-- R29, R35, R142 to R147, R152: a Nib tile renders its groups in order; the sum tree reduces a group that every tile has
finished and scales it into 24 bits; the Nib deadline stops what is left; and a self-test pass of a lane that has no
crosspoint left is counted as it ends, up to the Nib deadline. The model's own choices among its clauses are named in log
entries 3, 29, 134, 145 and 178. -/
def Obligations.NibGroupsAndSumTree : Prop :=
  ∀ (s : State) (k g f lane out : Nat) (sig crc : Bool) (part : List (Nat × Nat)), s.sched.rendering = true →
    let ready := s.sched.nibClosed = true ∨ ∀ t, t < capTiles s.variant → g < tileDone s t
    let last := s.slot 335999 299999
    let test := s.sched.nibClosed = false ∧ s.sched.cycle ≤ last ∧ k < capTiles s.variant ∧ lane < 32 ∧ tileLeft s k ≤ lane
      ∧ s.bget (Reg.NIB_TILE_CTL k) 8 = true
    let passed := ({ s with scene := { s.scene with bistN := Tab.put (fun _ => 0) s.scene.bistN k (Tab.get (fun _ => 0) s.scene.bistN k + 1) } }).count
      (Reg.NIB_TILE_BIST_PASS_CNT k) 1
    (s.sched.nibClosed = false → k < capTiles s.variant → g < 8 → tileDone s k = g → 256 ≤ f → f ≤ last → s.sched.cycle ≤ last →
      ∃ t, exec (.nibGroupRender k g f) s = .next t ∧ tileDone t k = g + 1 ∧ (∀ j, j ≠ k → tileDone t j = tileDone s j)
        ∧ (g = 7 → Tab.get (fun _ => 0) t.scene.tileFin k =
            if Tab.get (fun _ => 0) t.scene.tileXp k = 0 then Tab.get (fun _ => 0) s.scene.tileFin k else f / 16) ∧ t.scene.objs = s.scene.objs)
    ∧ ((s.sched.nibClosed = true ∨ tileDone s k ≠ g ∨ f < 256 ∨ last < f ∨ last < s.sched.cycle) → exec (.nibGroupRender k g f) s = .next s)
    ∧ (s.sched.nibClosed = false → ∃ t, exec (.nibDeadline part) s = .next t ∧ t.sched.nibClosed = true
        ∧ ((∀ j, j < capTiles s.variant → tileDone s j = 8) → t.rd Reg.GLB_OVERRUN = s.rd Reg.GLB_OVERRUN)
        ∧ ((∃ j, j < capTiles s.variant ∧ tileDone s j < 8) → t.bget Reg.GLB_OVERRUN 2 = true ∧ t.sched.overrun = true))
    ∧ (s.sched.nibClosed = true → exec (.nibDeadline part) s = .next s)
    ∧ (g < 8 → s.scene.sumDone = g → ready → s.sched.cycle ≤ s.slot 343999 305999 → ∃ t, exec (.sumTreeReduce g) s = .next t ∧ t.scene.sumDone = g + 1
        ∧ (128 * g ≤ out → out < 128 * g + 128 → out < capOuts s.variant → Tab.get (fun _ => []) t.scene.ys out = (scaled s out).map (satS 24))
        ∧ ((out < 128 * g ∨ 128 * g + 128 ≤ out) → Tab.get (fun _ => []) t.scene.ys out = Tab.get (fun _ => []) s.scene.ys out))
    ∧ (¬ ready ∨ s.slot 343999 305999 < s.sched.cycle → exec (.sumTreeReduce g) s = .next s)
    ∧ (partMuted s = true → scaled s out = List.replicate s.blockLen 0)
    ∧ (partMuted s = false → scaled s out = (treeSum s out).map (fun v => v / ((2 ^ (10 + s.fget Reg.NIB_OUT_SHIFT 4 0) : Nat) : Int)))
    ∧ (test → sig = true →
        (crc = true ∨ (Tab.get (fun _ => 0) s.scene.bistN k + 1) % 4096 ≠ 0) → exec (.nibBistPass k lane sig crc) s = .next passed)
    ∧ ((s.sched.nibClosed = true ∨ last < s.sched.cycle ∨ lane < tileLeft s k) → exec (.nibBistPass k lane sig crc) s = .next s)
    ∧ (test → sig = false →
        s.bget (Reg.NIB_TILE_BIST_STATUS k) 31 = true → s.scene.bistBlock.contains k = true →
        exec (.nibBistPass k lane sig crc) s = .next (passed.count (Reg.NIB_TILE_BIST_FAIL_CNT k) 1))

/-- R22, R34, R36, R156, R181: the output groups in order: each output's words in the egress buffer follow the formula of
R156, 0 under the panic mute; at the output stage's deadline the outputs not written egress 0; and the deadline of the
Quill cores. The model's own choices among its clauses are named in log entries 3, 21, 31, 152 and 179. -/
def Obligations.OutputGroupsAndDeadlines : Prop :=
  ∀ (s : State) (g f : Nat), s.sched.rendering = true →
    let last := s.slot 391999 324999
    let z := s.reach last
    let did := (groupOuts s g).foldl processOut (s.reach 256)
    let left := ((List.range 8).filter (fun k => decide (s.out.done ≤ k))).flatMap (groupOuts s)
    let n := if s.out.done < s.scene.sumDone then Nat.min f ((groupOuts s s.out.done).length - 1) else 0
    let cut := (left.drop n).foldl silentOut ((left.take n).foldl processOut z)
    (s.sched.outClosed = false → g < 7 → s.out.done = g → g < s.scene.sumDone → f ≤ last → s.sched.cycle ≤ last →
      exec (.outputGroupProcess g f) s = .next { did with out := { did.out with done := g + 1 } })
    ∧ (∀ (u : State) (out i : Nat),
      let B := u.blockLen
      let j := u.bn - 2
      let o := u.outSt out
      let spk := u.spkO out
      let zone := spk.field 4 13 8
      let raw := (List.range B).map (fun i => fdiv (nth 0 (Tab.get (fun _ => []) u.scene.ys out) i * rampPos o.gainPrev (spk.field 6 17 0) i B) 65536)
      let x1 := raw.map (satS 24)
      let x2 := ringBlock out (j * B) (spk.field 5 17 0) x1 B
        (ringWrite out (j * B) x1 (u.count Reg.OUT_GAIN_SAT_CNT ((List.zip raw x1).filter (fun p => p.1 != p.2)).length))
      let x3 := rccBlock out j (spk.field 4 23 16) o.profPrev o.x2prev x2.1 x2.2
      let w := x3.2
      let lg : Int := if w.bget (Reg.OUT_LIM_CTL zone) 0 then 65536 else rampPos (w.limZone zone).lgPrev (w.limZone zone).lgNew i B
      let c : Int := ((zoneCeil w zone : Nat) : Int)
      let x5 := Min.min (Max.max (nth 0 x3.1 i * lg / 65536) (-c)) c
      let x6 := x5 * ((nth 0 (fadeBlock B o).1 i : Nat) : Int) / 65536
      let v := ringWrite out (j * B) (List.replicate B 0) u
      let q := if hasRcc v out then storeSpectrum out j (spectrum v o.x2prev (List.replicate B 0)) v else v
      (spk.field 5 17 0 = o.bulkPrev → out < 1024 → i < B → w.blockLen = B → w.bankOn 287 = true → (∀ k, winMap w 287 k = k) → bankPresent w.variant 287 = true →
        (processOut u out).mem.rdWord (egressAddr w j out i) = (if w.bget Reg.OUT_CTL 0 then 0 else BitVec.ofInt 32 (x6 * 256)))
      ∧ (out < 1024 → i < B → q.blockLen = B → q.bankOn 287 = true → (∀ k, winMap q 287 k = k) → bankPresent q.variant 287 = true →
        (silentOut u out).mem.rdWord (egressAddr q j out i) = 0))
    ∧ (s.sched.outClosed = false → g < 8 → s.out.done = g → g < s.scene.sumDone → f ≤ last → s.sched.cycle ≤ last →
      ∃ t, exec (.outputGroupProcess g f) s = .next t ∧ t.out.done = g + 1 ∧ (g = 7 → t.sched.outClosed = true ∧ t.sched.finOut = f / 16)
        ∧ t.scene = s.scene)
    ∧ ((s.sched.outClosed = true ∨ s.out.done ≠ g ∨ s.scene.sumDone ≤ g ∨ last < f ∨ last < s.sched.cycle) → exec (.outputGroupProcess g f) s = .next s)
    ∧ (s.sched.outClosed = false → exec (.outputStageDeadline f) s = .next (setOverrun 3 (endOutBlock
        { cut with sched := { cut.sched with finOut := outDeadline cut / 16, outClosed := true } })))
    ∧ (s.sched.outClosed = false → ∃ t, exec (.outputStageDeadline f) s = .next t ∧ t.sched.outClosed = true ∧ t.bget Reg.GLB_OVERRUN 3 = true
        ∧ t.sched.overrun = true ∧ t.scene = s.scene)
    ∧ (s.sched.outClosed = true → exec (.outputStageDeadline f) s = .next s)
    ∧ (s.sched.quillClosed = false → unsubmitted s = [] → ∃ t, exec .quillDeadline s = .next t ∧ t.sched.quillClosed = true ∧ t.mem = s.mem
        ∧ t.regs = s.regs ∧ t.scene = s.scene)
    ∧ (s.sched.quillClosed = false → unsubmitted s ≠ [] → ∃ t, exec .quillDeadline s = .next t ∧ t.sched.quillClosed = true
        ∧ t.bget Reg.GLB_OVERRUN 1 = true ∧ t.sched.overrun = true ∧ t.scene = s.scene)
    ∧ (s.sched.quillClosed = true → exec .quillDeadline s = .next s)

/-- R53 to R58, R92: OBJ_SPAWN, OBJ_SET, OBJ_RELEASE and OBJ_GET: what each stages or returns, and the first refusals. The
model's own choices among its clauses are named in log entries 10, 107, 108, 109, 141, 143, 146 and 148. -/
def Obligations.ObjectCommands : Prop :=
  ∀ (s : State) (q : Nat) (tag : Word) (args : List Word),
    let o := arg args 0
    let e := epochOf args
    let ws := (List.range 6).map (fun i => nth 0 args (3 + i) &&& objMask i)
    let u (op : Nat) : State := atCommand op q tag args s
    let there := o < objCount s
    (there → ((u 0x10).obj o).st = .free → partPending (u 0x10) = false → objStatus s.variant ws = [] → EpochOk e (u 0x10) →
      CmdDone (.objSpawn q tag args) 0x10 q tag args s .ok [] ((stage e [.spawn o ws] [] (u 0x10)).2.spawnObj o
        { Obj.reset with st := .armed, words := ws, armBN := e, armCid := (stage e [.spawn o ws] [] (u 0x10)).1, hold := vecAt args 12 }))
    ∧ (there → objStatus s.variant ws = [] → EpochOk e (u 0x10) → (((u 0x10).obj o).st ≠ .free ∨ partPending (u 0x10) = true) →
      CmdDone (.objSpawn q tag args) 0x10 q tag args s .state [] (u 0x10))
    ∧ (2 * capObjs s.variant ≤ o → CmdDone (.objSpawn q tag args) 0x10 q tag args s .absent [] (u 0x10)
        ∧ CmdDone (.objSet q tag args) 0x11 q tag args s .absent [] (u 0x11) ∧ CmdDone (.objRelease q tag args) 0x12 q tag args s .absent [] (u 0x12)
        ∧ CmdDone (.objGet q tag args) 0x13 q tag args s .absent [] (u 0x13))
    ∧ (objCount s ≤ o → o < 2 * capObjs s.variant → CmdDone (.objGet q tag args) 0x13 q tag args s .state [] (u 0x13))
    ∧ (there → (((u 0x11).obj o).st = .armed ∨ ((u 0x11).obj o).st = .live) → objStatus s.variant (layOver (setPairs args) (recordAt o e (u 0x11))) = [] →
      EpochOk e (u 0x11) → CmdDone (.objSet q tag args) 0x11 q tag args s .ok [] (stage e [.objSet o (setPairs args)] [] (u 0x11)).2)
    ∧ (there → ((u 0x12).obj o).st = .live → EpochOk e (u 0x12) →
      CmdDone (.objRelease q tag args) 0x12 q tag args s .ok [] (stage e [.release o] [] (u 0x12)).2)
    ∧ (there → ((u 0x12).obj o).st ≠ .live → e ≤ (u 0x12).bn + 16777216 → CmdDone (.objRelease q tag args) 0x12 q tag args s .state [] (u 0x12))
    ∧ (there → CmdDone (.objGet q tag args) 0x13 q tag args s .ok (objRecord (objShown o (u 0x13))) (u 0x13))
    ∧ (let x := (u 0x13).obj o
      let y := objShown o (u 0x13)
      { y with words := [] } = { Tab.get (fun _ => Obj.reset) (u 0x13).scene.seen o with words := [] }
        ∧ (x.st = .live ∨ x.st = .releasing → y.words.drop 1 = x.words.drop 1)
        ∧ (x.st = .armed → y.words = appliedWords o (u 0x13)) ∧ (x.st = .free → y.words = x.words))

/-- R61 to R64, R149, R150, R457, R466, R487: the trajectory commands wait for the next boundary, or for the standby;
PARTITION_SET, CLOCK_SET and TWIN_HANDOVER stage for their epoch. The model's own choices among its clauses are named in
log entries 10, 18, 28, 107, 109, 111, 142 and 182. -/
def Obligations.TrajectoryAndModuleCommands : Prop :=
  ∀ (s : State) (q : Nat) (tag : Word) (args : List Word),
    let o := arg args 0
    let e := epochOf args
    let g := segOf args
    let u (op : Nat) : State := atCommand op q tag args s
    let wait (op : Nat) (x : Option Seg) : State :=
      { u op with scene := { (u op).scene with trajOps := (u op).scene.trajOps ++ [⟨o, x⟩] } }
    let later (l : List Seg) : Prop := ∀ x, l.getLast? = some x → x.tEnd ≤ g.tStart
    (o < objCount s → g.tStart < g.tEnd → g.tEnd < g.tStart + 2 ^ 40 → ((u 0x14).obj o).st ≠ .free → (segsSeen o (u 0x14)).length < 4 →
      later (segsSeen o (u 0x14)) → holdsItems (u 0x14) = false → CmdDone (.trajPush q tag args) 0x14 q tag args s .ok [] (wait 0x14 (some g)))
    ∧ (o < objCount s → g.tStart < g.tEnd → g.tEnd < g.tStart + 2 ^ 40 → later (segsSeen o (u 0x14)) →
      (((u 0x14).obj o).st = .free ∨ 4 ≤ (segsSeen o (u 0x14)).length) → CmdDone (.trajPush q tag args) 0x14 q tag args s .state [] (u 0x14))
    ∧ (o < objCount s → (g.tEnd ≤ g.tStart ∨ g.tStart + 2 ^ 40 ≤ g.tEnd) → CmdDone (.trajPush q tag args) 0x14 q tag args s .range [] (u 0x14))
    ∧ (o < objCount s → ((u 0x15).obj o).st ≠ .free → holdsItems (u 0x15) = false →
      CmdDone (.trajFlush q tag args) 0x15 q tag args s .ok [] (wait 0x15 none))
    ∧ (o < objCount s → ((u 0x15).obj o).st ≠ .free → holdsItems (u 0x15) = true → CmdWaits (.trajFlush q tag args) 0x15 q tag args s
      (holdItem 0 q tag (0x15 :: args) (hold 0x15 q tag (u 0x15).twin.nextCseq (u 0x15))))
    ∧ ((∀ p ∈ (u 0x1E).scene.objs, p.2.st = .free) → EpochOk e (u 0x1E) → CmdDone (.partitionSet q tag args) 0x1E q tag args s .ok []
        (stage e [.partition (arg args 3 = 1)] [Reg.NIB_PARTITION] ((u 0x1E).bset Reg.NIB_PARTITION_SHADOW 0 (arg args 3 = 1))).2)
    ∧ ((∃ p ∈ (u 0x1E).scene.objs, p.2.st ≠ .free) → e ≤ (u 0x1E).bn + 16777216 →
      CmdDone (.partitionSet q tag args) 0x1E q tag args s .state [] (u 0x1E))
    ∧ (EpochOk e (u 0x04) → CmdDone (.clockSet q tag args) 0x04 q tag args s .ok []
        (stage e [.reg Reg.PWR_CLK 1 (arg args 3)] [Reg.PWR_CLK] ((u 0x04).wr (shadowOf Reg.PWR_CLK) (arg args 3))).2)
    ∧ (hasTwin (u 0x24) = true → transmits (u 0x24) = true → peerStands (u 0x24) = true → EpochOk e (u 0x24) →
      CmdDone (.twinHandover q tag args) 0x24 q tag args s .ok [] (stage e [.handover] [] (u 0x24)).2)
    ∧ (hasTwin (u 0x24) = true → (transmits (u 0x24) = false ∨ peerStands (u 0x24) = false) → e ≤ (u 0x24).bn + 16777216 →
      CmdDone (.twinHandover q tag args) 0x24 q tag args s .state [] (u 0x24))
    ∧ (hasTwin (u 0x24) = false → CmdDone (.twinHandover q tag args) 0x24 q tag args s .absent [] (u 0x24))

/-- R53, R74, R75, R78, R95, R100, R166, R183: the set commands of speakers, zones, masks, triplets and routes stage their
values for their epoch, and the get commands return the live record. The model's own choices among its clauses are named in
log entries 10, 109 and 153. -/
def Obligations.SpeakerZoneMaskAndTableCommands : Prop :=
  ∀ (s : State) (q : Nat) (tag : Word) (args : List Word),
    let n := arg args 0
    let e := epochOf args
    let u (op : Nat) : State := atCommand op q tag args s
    let ws := (List.range 8).map (fun i => nth 0 args (3 + i) &&& spkMask i)
    let k := arg args 3
    let f (op w : Nat) : Fetch := fetch (addrOf args 4) (4 * w * k) (u op)
    let es (op w : Nat) : List (Nat × List Word) := (List.range k).zip (chop w k (f op w).words)
    (n < capOuts s.variant → getF (nth 0 ws 5).toNat 17 0 ≤ 196608 → ((u 0x18).slotSt (getF (nth 0 ws 4).toNat 23 16)).st ≠ 1 → EpochOk e (u 0x18) →
      CmdDone (.spkSet q tag args) 0x18 q tag args s .ok [] (stage e [.spk n ws] [] (u 0x18)).2)
    ∧ (capOuts s.variant ≤ n → CmdDone (.spkSet q tag args) 0x18 q tag args s .absent [] (u 0x18)
        ∧ CmdDone (.spkGet q tag args) 0x19 q tag args s .absent [] (u 0x19))
    ∧ (n < capOuts s.variant → CmdDone (.spkGet q tag args) 0x19 q tag args s .ok (spkRecord n (u 0x19)) (u 0x19))
    ∧ (n < 64 → -10240 ≤ sgn 16 k → sgn 16 k ≤ 15360 → arg args 4 ≠ 0 → EpochOk e (u 0x1A) → CmdDone (.zoneSet q tag args) 0x1A q tag args s .ok []
        (stage e [.zone n [nth 0 args 3 &&& 0xFFFF, nth 0 args 4]] [] (u 0x1A)).2)
    ∧ (64 ≤ n → CmdDone (.zoneSet q tag args) 0x1A q tag args s .range [] (u 0x1A) ∧ CmdDone (.zoneGet q tag args) 0x1B q tag args s .range [] (u 0x1B)
        ∧ CmdDone (.maskSet q tag args) 0x1C q tag args s .range [] (u 0x1C))
    ∧ (n < 64 → let z := (u 0x1B).zone n
        CmdDone (.zoneGet q tag args) 0x1B q tag args s .ok [toW (uns 16 z.temp), toW z.dRef, toW z.spm, 0] (u 0x1B))
    ∧ (n < 64 → EpochOk e (u 0x1C) → CmdDone (.maskSet q tag args) 0x1C q tag args s .ok []
        (stage e [.maskSet n (maskBits ((args.drop 3).take 32))] [] (u 0x1C)).2)
    ∧ (n + k ≤ 2048 → 1 ≤ k → k ≤ 64 → (f 0x1D 12).ok = true → (f 0x1D 12).bad = 0 → EpochOk e (u 0x1D) →
      (∀ p ∈ chop 12 k (f 0x1D 12).words, vbapAbsent s.variant p = false) → CmdDone (.vbapSet q tag args) 0x1D q tag args s .ok []
        (stage e ((es 0x1D 12).map (fun p => Item.vbap (n + p.1) (p.2.take 10 ++ [0, 0]))) [] (f 0x1D 12).st).2)
    ∧ (n + k ≤ 1024 → 1 ≤ k → k ≤ 64 → (f 0x20 2).ok = true → (f 0x20 2).bad = 0 → EpochOk e (u 0x20) →
      (∀ p ∈ chop 2 k (f 0x20 2).words, routeStatus s.variant p = []) → CmdDone (.routeSet q tag args) 0x20 q tag args s .ok []
        (stage e ((es 0x20 2).map (fun p => Item.route (n + p.1) (BitVec.ofNat 64 ((nth 0 p.2 0).toNat + (nth 0 p.2 1).toNat * 2 ^ 32)))) [] (f 0x20 2).st).2)
    ∧ (n + k ≤ 1024 → 1 ≤ k → k ≤ 64 → (f 0x20 2).ok = true → (f 0x20 2).bad = 0 → (∃ p ∈ chop 2 k (f 0x20 2).words, Status.range ∈ routeStatus s.variant p) →
      (∀ p ∈ chop 2 k (f 0x20 2).words, Status.absent ∉ routeStatus s.variant p) → CmdDone (.routeSet q tag args) 0x20 q tag args s .range [] (f 0x20 2).st)
    ∧ (∀ w0 w1 : Word, getF w1.toNat 13 7 = 0 → Status.range ∈ routeStatus s.variant [w0, w1])
    ∧ ((k = 0 ∨ 64 < k) → CmdDone (.routeSet q tag args) 0x20 q tag args s .range [] (u 0x20))

/-- R266, R279, R280, R285 to R296: a push, a pop, a flush, a configuration write and a level write of a queue, and the
arrival of a word that crosses clock domains. A push that reaches the level of an armed watermark sets WM_FLAG, counts,
fires the event and disarms it; a pop below the level arms it again; a word that fails its check leaves as BLOT; queue 16
pushes its pairs together. The model's own choices among its clauses are named in log entries 3, 11, 24, 36, 37, 38, 154
and 191. -/
def Obligations.QueuesPushPopAndFlush : Prop :=
  ∀ (s : State) (m : Master) (q : Nat) (v : Word) (p : BitVec 60) (ps : List (BitVec 60)) (e : QEntry) (es : List QEntry) (same : Bool), q < 256 →
    let k := Master.key m * 256 + q
    let its := (s.queue q).items
    let pay := BitVec.ofNat 60 ((Tab.get (fun _ => 0) s.qHold k).toNat + (v.toNat % 2 ^ 28) * 2 ^ 32)
    let s' := { s with qHold := Tab.put (fun _ => 0) s.qHold k 0 }
    let ok := producerOk (s.fget (Reg.QUEUE_CFG q) 7 0) (Master.qcode m) = true
    let mine := s.fget (Reg.QUEUE_CFG q) 15 8 = Master.qcode m
    let n := s.rd (Reg.QUEUE_BASE q) + ((s.queue q).head + its.length) % s.qDepth q
    let b := slotWords n s
    let open' := s.qEnabled q = true ∧ s.rd (Reg.QUEUE_WM q) = 0
    let level := s.rd (Reg.QUEUE_WM q)
    let armed := if same then (s.queue q).popped.getD (s.queue q).armed else (s.queue q).armed
    let d := getF v.toNat 28 16
    let fits := 16 ≤ d ∧ d ≤ 4096 ∧ s.rd (Reg.QUEUE_BASE q) + d ≤ 98304 ∧ ∀ j, j < 256 → j ≠ q → s.qEnabled j = true →
      overlap (s.rd (Reg.QUEUE_BASE q)) d (s.rd (Reg.QUEUE_BASE j)) (s.qDepth j) = false
    (s.served (Reg.QUEUE_PUSH_HI q) = true → ¬ ok → exec (.queuePush m q v same) s = .next (s'.count (Reg.QUEUE_DENY_CNT q) 1))
    ∧ (s.served (Reg.QUEUE_PUSH_HI q) = true → ok → q ≠ 16 → dualClock q = false → (m = .host → holdsItems s = false) → open' →
        ∃ t, exec (.queuePush m q v same) s = .next t ∧ Tab.get (fun _ => 0) t.qHold k = 0 ∧ t.cores = s.cores
          ∧ (its.length + 2 ≤ s.qDepth q → (t.queue q).items = its ++ [⟨pay, false, false⟩]
              ∧ (∀ a, (a < b.1 ∨ b.1 + 4 ≤ a) → (a < b.2 ∨ b.2 + 4 ≤ a) → t.byteAt a = s.byteAt a)
              ∧ (s.bankOn (slotBank n) = true → b.1 ≠ b.2 → t.mem.rdWord b.1 = toW pay.toNat ∧ t.mem.rdWord b.2 = toW (pay.toNat / 2 ^ 32)))
          ∧ (s.qDepth q < its.length + 2 → (∀ x, its.getLast? = some x → x.gap = false) → (t.queue q).items = its ++ [gapEntry 1])
          ∧ (∀ x, s.qDepth q < its.length + 2 → its.getLast? = some x → x.gap = true →
              (t.queue q).items = its.dropLast ++ [⟨(gapEntry (x.pay.toNat + 1)).pay, true, x.bad⟩]))
    ∧ (s.served (Reg.QUEUE_PUSH_HI q) = true → ok → q = 16 → holdsItems s = false → pay.toNat / 2 ^ 56 = 1 → Tab.find s.pairs (Master.key m) = none →
        exec (.queuePush m q v same) s = .next { s' with pairs := Tab.ins s.pairs (Master.key m) pay })
    ∧ (s.served (Reg.QUEUE_PUSH_HI q) = true → ok → dualClock q = true →
        exec (.queuePush m q v same) s = .next (s'.setQueue q { s.queue q with transit := (s.queue q).transit ++ [pay] }))
    ∧ (s.served (Reg.QUEUE_POP_LO q) = true → mine → s.qEnabled q = true → its = [] → exec (.queuePop m q) s = .next
        (({ (if (s.queue q).popped = none then s else s.setQueue q { s.queue q with popped := none }) with
            qLatch := Tab.put (fun _ => 0) s.qLatch k (toW (2 ^ 60 / 2 ^ 32)) }).answer (toW (2 ^ 60))))
    ∧ (s.served (Reg.QUEUE_POP_LO q) = true → mine → s.qEnabled q = true → its.length = es.length + 1 → its.tail = es →
        s.bankOn (slotBank (slotAt q 0 s)) = true → slotView (slotAt q 0 s) s = e → e.bad = false →
        ∃ t, exec (.queuePop m q) s = .next t ∧ (t.queue q).items = es ∧ t.readData = toW e.word ∧ t.mem = s.mem ∧ t.cores = s.cores
          ∧ Tab.get (fun _ => 0) t.qLatch k = toW (e.word / 2 ^ 32) ∧ (t.queue q).popped = some (s.queue q).armed
          ∧ (es.length < level → (t.queue q).armed = true ∧ t.rd (Reg.QUEUE_STATUS q) = s.rd (Reg.QUEUE_STATUS q)))
    ∧ (s.served (Reg.QUEUE_POP_LO q) = true → mine → s.qEnabled q = true → its.length = es.length + 1 → its.tail = es →
        s.bankOn (slotBank (slotAt q 0 s)) = true → slotView (slotAt q 0 s) s = e → e.bad = true →
        ∃ t, exec (.queuePop m q) s = .next t ∧ t.readData = toW e.pay.toNat ∧ Tab.get (fun _ => 0) t.qLatch k = toW (e.pay.toNat / 2 ^ 32 + 2 * 2 ^ 28)
          ∧ (s.sched.parityBlock = true → (t.queue q).items = es ∧ t.cores = s.cores
              ∧ t.rd (Reg.QUEUE_PARITY_CNT q) = Nat.min (s.rd (Reg.QUEUE_PARITY_CNT q) + 1) 0xFFFFFFFF))
    ∧ (s.served (Reg.QUEUE_PUSH_HI q) = true → ok → q ≠ 16 → dualClock q = false → (m = .host → holdsItems s = false) → s.qEnabled q = true → 0 < level →
        its.length + 2 ≤ s.qDepth q → armed = true → level ≤ its.length + 1 →
        ∃ u, exec (.queuePush m q v same) s = .next (fire 0x1A q (pendQueueIrq q u)) ∧ (u.queue q).items = its ++ [⟨pay, false, false⟩]
          ∧ (u.queue q).armed = false ∧ u.bget (Reg.QUEUE_STATUS q) 31 = true ∧ u.cores = s.cores
          ∧ u.rd (Reg.QUEUE_WM_CNT q) = Nat.min (s.rd (Reg.QUEUE_WM_CNT q) + 1) 0xFFFFFFFF
          ∧ u.rd (Reg.QUEUE_PEAK q) = Nat.max (its.length + 1) (s.rd (Reg.QUEUE_PEAK q)))
    ∧ (s.served (Reg.QUEUE_PUSH_HI q) = true → ok → q ≠ 16 → dualClock q = false → (m = .host → holdsItems s = false) → s.qEnabled q = true → 0 < level →
        its.length + 2 ≤ s.qDepth q → (armed = false ∨ its.length + 1 < level) →
        ∃ t, exec (.queuePush m q v same) s = .next t ∧ (t.queue q).items = its ++ [⟨pay, false, false⟩]
          ∧ (t.queue q).armed = decide (its.length + 1 < level) ∧ t.rd (Reg.QUEUE_STATUS q) = s.rd (Reg.QUEUE_STATUS q)
          ∧ t.rd (Reg.QUEUE_WM_CNT q) = s.rd (Reg.QUEUE_WM_CNT q) ∧ t.cores = s.cores)
    ∧ (∀ u : State, (u.fget (Reg.QUEUE_CFG q) 15 8 < 64 → pendQueueIrq q u = u.setCore (u.fget (Reg.QUEUE_CFG q) 15 8)
          { u.core (u.fget (Reg.QUEUE_CFG q) 15 8) with ipend := (u.core (u.fget (Reg.QUEUE_CFG q) 15 8)).ipend ||| 4 })
        ∧ (64 ≤ u.fget (Reg.QUEUE_CFG q) 15 8 → pendQueueIrq q u = u))
    ∧ (∀ h, s.served (Reg.QUEUE_PUSH_HI q) = true → ok → q = 16 → (m = .host → holdsItems s = false) → open' → Tab.find s.pairs (Master.key m) = some h →
        ∃ t, exec (.queuePush m q v same) s = .next t ∧ t.cores = s.cores
          ∧ (pay.toNat / 2 ^ 56 ≠ 1 → t.pairs = Tab.del s.pairs (Master.key m)
              ∧ (its.length + 3 ≤ s.qDepth q → (t.queue q).items = its ++ [⟨h, false, false⟩, ⟨pay, false, false⟩])
              ∧ (s.qDepth q < its.length + 3 → (∀ x, its.getLast? = some x → x.gap = false) → (t.queue q).items = its ++ [gapEntry 2]
                  ∧ t.rd (Reg.QUEUE_GAP_CNT q) = Nat.min (s.rd (Reg.QUEUE_GAP_CNT q) + 2) 0xFFFFFFFF))
          ∧ (pay.toNat / 2 ^ 56 = 1 → t.pairs = Tab.ins s.pairs (Master.key m) pay
              ∧ (its.length + 2 ≤ s.qDepth q → (t.queue q).items = its ++ [⟨h, false, false⟩])))
    ∧ (s.served (Reg.QUEUE_PUSH_HI q) = true → ok → q = 16 → (m = .host → holdsItems s = false) → open' → pay.toNat / 2 ^ 56 ≠ 1 →
        Tab.find s.pairs (Master.key m) = none → its.length + 2 ≤ s.qDepth q →
        ∃ t, exec (.queuePush m q v same) s = .next t ∧ (t.queue q).items = its ++ [⟨pay, false, false⟩] ∧ t.pairs = s.pairs)
    ∧ (s.served (Reg.QUEUE_POP_LO q) = true → ¬ mine → ∃ t, exec (.queuePop m q) s = .next t ∧ t.queues = s.queues ∧ t.readData = toW (2 ^ 60)
        ∧ t.rd (Reg.QUEUE_DENY_CNT q) = Nat.min (s.rd (Reg.QUEUE_DENY_CNT q) + 1) 0xFFFFFFFF)
    ∧ (s.served (Reg.QUEUE_FLUSH q) = true → hostBarred m q = false → bitOf v.toNat 0 = true → (bitOf v.toNat 1 = false ∨ its = []) →
        ∃ t, exec (.queueFlush m q v) s = .next t ∧ (t.queue q).items = [] ∧ t.mem = s.mem ∧ t.cores = s.cores)
    ∧ (s.served (Reg.QUEUE_FLUSH q) = true → hostBarred m q = false → bitOf v.toNat 0 = true → bitOf v.toNat 1 = true → its ≠ [] →
        s.rd (Reg.QUEUE_WM q) = 0 → ∃ t, exec (.queueFlush m q v) s = .next t ∧ (t.queue q).items = [gapEntry (flushCount (s.qView q))])
    ∧ ((hostBarred m q = true ∨ bitOf v.toNat 0 = false) → exec (.queueFlush m q v) s = .next s)
    ∧ (s.served (Reg.QUEUE_CFG q) = true → m ≠ .host → s.qEnabled q = true → bitOf v.toNat 31 = true → exec (.queueEnableWrite m q v) s = .next s)
    ∧ (s.served (Reg.QUEUE_CFG q) = true → m ≠ .host → s.qEnabled q = true → bitOf v.toNat 31 = false →
        exec (.queueEnableWrite m q v) s = .next ((s.bset (Reg.QUEUE_CFG q) 31 false).setQueue q
          ⟨0, [], decide (0 < s.rd (Reg.QUEUE_WM q)), (s.queue q).transit, none⟩))
    ∧ (s.served (Reg.QUEUE_CFG q) = true → m ≠ .host → s.qEnabled q = false → bitOf v.toNat 31 = true → ∃ t, exec (.queueEnableWrite m q v) s = .next t
        ∧ t.qDepth q = d ∧ (fits → t.qEnabled q = true ∧ t.queue q = ⟨0, [], decide (0 < s.rd (Reg.QUEUE_WM q)), (s.queue q).transit, none⟩)
        ∧ (¬ fits → t.qEnabled q = false ∧ t.queues = s.queues ∧ t.bget (Reg.QUEUE_STATUS q) 29 = true))
    ∧ (s.served (Reg.QUEUE_CFG q) = true → q < 32 → q ≠ 17 → exec (.queueEnableWrite .host q v) s = .next s)
    ∧ (s.served (Reg.QUEUE_WM q) = true → exec (.queueWmWrite m q v) s = .next ((s.wr (Reg.QUEUE_WM q) (v.toNat % 2 ^ 13)).setQueue q
        { s.queue q with armed := decide (its.length < v.toNat % 2 ^ 13), popped := none }))
    ∧ ((s.queue q).transit = [] → exec (.dualClockArrival q same) s = .next s)
    ∧ ((s.queue q).transit = p :: ps → open' → its.length + 2 ≤ s.qDepth q → ∃ t, exec (.dualClockArrival q same) s = .next t
        ∧ (t.queue q).items = its ++ [⟨p, false, false⟩] ∧ (t.queue q).transit = ps ∧ t.sched = s.sched)

/-- R234, R235, R314, R315, R510: program memory is written a whole bundle at a time and read back where it may be; the
Time unit seals its anchor commit, or notes the refusal. The model's own choices among its clauses are named in log entries
3, 76, 91, 135 and 189. -/
def Obligations.ProgramMemoryAndAnchorSeal : Prop :=
  ∀ (s : State) (m : Master) (k : Nat) (v : Word), k < 64 →
    let i := s.rd (Reg.QCORE_PM_IDX k)
    let b := Tab.get (fun _ => (0 : Bundle)) (s.core k).pm i
    (s.served (Reg.QCORE_PM_HI k) = true → (s.core k).st ≠ .running → s.level = 2 → ∃ t, exec (.qcorePmHiWrite m k v) s = .next t
        ∧ Tab.get (fun _ => (0 : Bundle)) (t.core k).pm i = v ++ Tab.get (fun _ => 0) s.held (Reg.QCORE_PM_LO k)
        ∧ (∀ j, j ≠ i → Tab.get (fun _ => (0 : Bundle)) (t.core k).pm j = Tab.get (fun _ => (0 : Bundle)) (s.core k).pm j)
        ∧ i ∉ (t.core k).pmBad ∧ t.rd (Reg.QCORE_PM_IDX k) = (i + 1) % 4096 ∧ (t.core k).pc = (s.core k).pc ∧ (t.core k).d = (s.core k).d
        ∧ t.mem = s.mem ∧ ∀ j, j ≠ k → t.core j = s.core j)
    ∧ (s.served (Reg.QCORE_PM_HI k) = true → ((s.core k).st = .running ∨ s.level ≠ 2) →
        exec (.qcorePmHiWrite m k v) s = .next (s.bset (Reg.QCORE_STATUS k) 18 true))
    ∧ (s.served (Reg.QCORE_PM_LO k) = true → (s.core k).st ≠ .running → s.quillDebug k = true → exec (.qcorePmLoRead m k) s = .next
        ((s.latch m (Reg.QCORE_PM_HI k) (b.extractLsb' 32 32)).answer (b.extractLsb' 0 32)))
    ∧ (((s.core k).st = .running ∨ s.quillDebug k = false) → exec (.qcorePmLoRead m k) s = .next (s.answer 0))
    ∧ (s.time.anchorDue = false → exec .anchorSeal s = .next s)
    ∧ (let u := { s with time := { s.time with anchorDue := false } }
      s.time.anchorDue = true → (s.sched.rendering = false → exec .anchorSeal s = .next u)
        ∧ (EpochOk (s.bn + 2) s → exec .anchorSeal s = .next (stage (s.bn + 2) [.anchor s.time.oReq] [] u).2)
        ∧ (s.sched.rendering = true → ¬ EpochOk (s.bn + 2) s → exec .anchorSeal s = .next { s with time := { s.time with anchorDue := false, anchorRetry := true } }))

/-- R525, R526, R528, R530, R531, R482: NOP, RENDER_CFG, RENDER_START and POWER_REQ, and words of a command queue that are
no command. A command's words stand at the front of its queue, and the round robin has come to that queue. The model's own
choices among its clauses are named in log entries 3, 10, 100 and 112. -/
def Obligations.ModuleCommandsAndStrayWords : Prop :=
  ∀ (s : State) (q : Nat) (tag : Word) (args : List Word) (h : QEntry) (rest : List QEntry),
    let u (op : Nat) : State := atCommand op q tag args s
    let a := arg args 0
    let w := h.pay.toNat
    let n := getF w 47 42
    let run := rest.takeWhile isArg
    let room := frontRoom (s.qView q)
    let front := eligible q room s = true ∧ inTurn q s = true ∧ s.hif.skipping.contains q = false ∧ s.qView q = h :: rest
    let z := serve q s
    let found := earlyStatus (getF w 55 48) n (getF w 41 32 == 0 && (run.take n).all (fun e => getF e.pay.toNat 55 32 == 0))
      (run.map (fun e => toW e.pay.toNat))
    CmdDone (.nop q tag args) 0x00 q tag args s .ok [] (u 0x00)
    ∧ ((u 0x01).sched.rendering = false → (u 0x01).mediaRun = false → CmdDone (.renderCfg q tag args) 0x01 q tag args s .ok []
        (spmAll (((u 0x01).fset Reg.GLB_RENDER_CFG 0 0 a).fset Reg.GLB_RENDER_CFG 13 8 (if a = 0 then 32 else 16))))
    ∧ (((u 0x01).sched.rendering = true ∨ (u 0x01).mediaRun = true) → CmdDone (.renderCfg q tag args) 0x01 q tag args s .state [] (u 0x01))
    ∧ (canStart (u 0x02) = true → CmdDone (.renderStart q tag args) 0x02 q tag args s .ok [toW ((u 0x02).bn + 2), toW (((u 0x02).bn + 2) / 2 ^ 32)]
        { u 0x02 with sched := { (u 0x02).sched with startAt := some ((u 0x02).bn + 2) } })
    ∧ (canStart (u 0x02) = false → CmdDone (.renderStart q tag args) 0x02 q tag args s .state [] (u 0x02))
    ∧ (canStart s = true ↔ s.sched.rendering = false ∧ s.sched.startAt = none ∧ s.sched.quietAt = none ∧ s.fget Reg.PWR_STATUS 31 30 = 0
        ∧ s.hif.stage = 7 ∧ s.bget Reg.CLK_MEDIA_STATUS 31 = true
        ∧ ∀ c, c < 2 → present s.variant (Reg.DDR_CTL c) = true → 2 ≤ s.fget (Reg.DDR_STATUS c) 31 29 ∧ s.fget (Reg.DDR_STATUS c) 31 29 ≤ 4)
    ∧ ((a = 0 ∨ 3 < a) → CmdDone (.powerReq q tag args) 0x03 q tag args s .range [] (u 0x03))
    ∧ (1 ≤ a → a ≤ 3 → (pwrBusy (u 0x03) = true ∨ pwrState (u 0x03) = 2 ∨ a = pwrState (u 0x03) + 1) →
        CmdDone (.powerReq q tag args) 0x03 q tag args s .state [] ((u 0x03).bset Reg.PWR_STATUS 28 true))
    ∧ (a = 1 → pwrBusy (u 0x03) = false → pwrState (u 0x03) = 1 → CmdDone (.powerReq q tag args) 0x03 q tag args s .ok []
        { (u 0x03).bset Reg.PWR_STATUS 29 true with pwr := { (u 0x03).pwr with want := 1, heldReq := 0, peerRose := false } })
    ∧ ((eligible q room s = false ∨ inTurn q s = false ∨ (s.hif.skipping.contains q = false ∧ s.qView q = [])) → exec (.strayQueueWord q) s = .next s)
    ∧ (eligible q room s = true → inTurn q s = true → s.hif.skipping.contains q = true → exec (.strayQueueWord q) s = .next (skipWords q s))
    ∧ (front → h.bad = true → exec (.strayQueueWord q) s = .next (complete 0 q 0 .lost [] (popN 1 q z)))
    ∧ (front → h.bad = false → h.gap = true → exec (.strayQueueWord q) s = .next (complete 0 q 0 .lost [toW w] (popN 1 q z)))
    ∧ (front → h.bad = false → h.gap = false → w / 2 ^ 56 ≠ 8 → exec (.strayQueueWord q) s = .next (skipWords q (complete 0 q 0 .format [] z)))
    ∧ (front → isHeader h = true → n ≤ run.length → getF w 41 32 = 0 → (∀ e ∈ run.take n, getF e.pay.toNat 55 32 = 0) →
        (nargsOf (getF w 55 48) [] = none → exec (.strayQueueWord q) s = .next (complete (getF w 55 48) q (toW w) .opcode [] (popN (n + 1) q z)))
        ∧ (nargsOf (getF w 55 48) [] ≠ none → exec (.strayQueueWord q) s = .next s))
    ∧ (front → isHeader h = true → n ≤ run.length → (getF w 41 32 ≠ 0 ∨ ∃ e ∈ run.take n, getF e.pay.toNat 55 32 ≠ 0) →
        exec (.strayQueueWord q) s = .next (complete (getF w 55 48) q (toW w) .format [] (popN (n + 1) q z)))
    ∧ (∀ e, front → isHeader h = true → run.length < n → (rest.drop run.length).head? = some e → isHeader e = true →
        exec (.strayQueueWord q) s = .next (complete (getF w 55 48) q (toW w) .format [] (popN (run.length + 1) q z)))
    ∧ (∀ e, front → isHeader h = true → run.length < n → (rest.drop run.length).head? = some e → isHeader e = false →
        exec (.strayQueueWord q) s = .next (skipWords q (endBad (getF w 55 48) q (toW w) found (some e) (popN (run.length + 1) q z))))
    ∧ (∀ (op tag' : Nat) (e : QEntry) (t : State), e.bad = true ∨ e.gap = true →
        (endBad op q (toW tag') [] (some e) t = complete op q (toW tag') .lost (if e.bad then [] else [toW e.pay.toNat]) t)
        ∧ (endBad op q (toW tag') [.format] (some e) t = complete op q (toW tag') .format [] t)
        ∧ endBad op q (toW tag') [.opcode] (some e) t = complete op q (toW tag') .opcode [] t)
    ∧ (∀ (op k : Nat) (zero : Bool) (as : List Word), (nargsOf op as = none → zero = true → earlyStatus op k zero as = [.opcode])
        ∧ (nargsOf op as = some k → zero = true → bitsOk op as = true → earlyStatus op k zero as = [])
        ∧ (∀ j, nargsOf op as = some j → (zero = false ∨ bitsOk op as = false ∨ (j ≠ k ∧ op ≠ 0x11)) → earlyStatus op k zero as = [.format]))
    ∧ (inTurn q s = true ↔ ∀ j, j < 8 → wants j s = true → turnsTo q s ≤ turnsTo j s)

/-- R163 to R166, R187: RCC_CLEAR frees a slot, RCC_LOAD checks an image and waits for its copy, and the copy's end loads
the slot. The model's own choices among its clauses are named in log entries 3, 10, 18, 110, 151 and 183. -/
def Obligations.RoomCorrectionSlots : Prop :=
  ∀ (s : State) (q : Nat) (tag : Word) (args : List Word) (l : RccLoad) (ls : List RccLoad),
    let p := arg args 0
    let a := addrOf args 1
    let u (op : Nat) : State := atCommand op q tag args s
    let h := readMarked 16 a (u 0x21)
    let parts := imgParts (nth (0, true) h.1 0).1
    let x := readMarked ((parts + 3) / 4) (a + 64) h.2
    let free := slotNamed p (u 0x22) = false ∧ ((u 0x22).slotSt p).st ≠ 1
    let done := (setSlot l.slot { s.slotSt l.slot with st := 2 }
      (copySlot l.slot l.src (s.slotSt l.slot).parts { s with out := { s.out with loads := ls } })).count Reg.RCC_LOAD_CNT 1
    let waiting := done.hif.waitingCmds.find? (fun w => w.opcode == 0x21 && w.q == l.q && w.tag == l.tag)
    (capRcc s.variant ≠ 0 → p < 256 → free → holdsItems (u 0x22) = false →
      CmdDone (.rccClear q tag args) 0x22 q tag args s .ok [] (setSlot p RccSlot.reset (u 0x22)))
    ∧ (capRcc s.variant ≠ 0 → p < 256 → ¬ free → CmdDone (.rccClear q tag args) 0x22 q tag args s .state [] (u 0x22))
    ∧ (capRcc s.variant ≠ 0 → 255 < p → CmdDone (.rccClear q tag args) 0x22 q tag args s .range [] (u 0x22))
    ∧ (capRcc s.variant = 0 → CmdDone (.rccClear q tag args) 0x22 q tag args s .absent [] (u 0x22)
        ∧ CmdDone (.rccLoad q tag args) 0x21 q tag args s .absent [] (u 0x21))
    ∧ (capRcc s.variant ≠ 0 → (255 < p ∨ a % 64 ≠ 0 ∨ spanDram s.variant a 64 = false) →
        CmdDone (.rccLoad q tag args) 0x21 q tag args s .range [] (u 0x21))
    ∧ (capRcc s.variant ≠ 0 → p < 256 → a % 64 = 0 → spanDram s.variant a 64 = true → (∀ w ∈ h.1 ++ x.1, w.2 = false) →
        1 ≤ parts → parts ≤ partsMax (u 0x21).is48 → getF (nth (0, true) h.1 0).1.toNat 17 16 = b2n (u 0x21).is48 →
        getF (nth (0, true) h.1 0).1.toNat 31 18 = 0 → getF (nth (0, true) h.1 0).1.toNat 15 9 = 0 → (∀ w ∈ h.1.drop 1, w.1 = 0) →
        spanDram s.variant a (imgLen (u 0x21).is48 parts) = true → imgExpBad parts x.1 = false →
        slotNamed p (u 0x21) = false → ((u 0x21).slotSt p).st ≠ 1 → holdsItems (u 0x21) = false →
        CmdWaits (.rccLoad q tag args) 0x21 q tag args s
          (let v := setSlot p ⟨1, parts, x.2.is48⟩ x.2
           hold 0x21 q tag p { v with out := { v.out with loads := v.out.loads ++ [⟨p, a, q, tag⟩] } }))
    ∧ ((∀ l', s.out.loads.head? = some l' → l'.slot ≠ p) → exec (.rccLoadComplete p) s = .next s)
    ∧ (s.out.loads = l :: ls → waiting = none → exec (.rccLoadComplete l.slot) s = .next done)
    ∧ (∀ w, s.out.loads = l :: ls → waiting = some w → exec (.rccLoadComplete l.slot) s = .next (release w .ok [] done))

/-- R532 to R534, R569: ABORT, by command and by register: its refusals, a unit that is idle, a unit that stops later; and
DMA_COPY with the end of its transfer. The model's own choices among its clauses are named in log entries 3, 10, 113, 114
and 115. -/
def Obligations.AbortsAndDma : Prop :=
  ∀ (s : State) (q c : Nat) (tag : Word) (args : List Word) (m : Master) (v : Word) (d : Dma) (own : List (Nat × PortOp)),
    let a := arg args 0
    let u (op : Nat) : State := atCommand op q tag args s
    let r := v.toNat % 4096
    let src := addrOf args 0
    let dst := addrOf args 2
    let n := arg args 4
    let moved := dmaMove own (d.len / 4) d.src d.dst 0 s
    let ended := { moved.2 with hif := { moved.2.hif with dma := moved.2.hif.dma.filter (fun p => p != (c, d)) } }
    let waiting := moved.2.hif.waitingCmds.find? (fun w => w.opcode == 0x09 && w.q == d.q && w.tag == d.tag)
    let sized := n % 4 = 0 ∧ 4 ≤ n ∧ n ≤ 16777216 ∧ dst % 4 = 0
    let reach := (src < hostBit ∧ dst < hostBit) ∨ hostReach (u 0x09) = true
    (abortCode a = false → CmdDone (.abort q tag args) 0x05 q tag args s .range [] (u 0x05))
    ∧ (abortCode a = true → abortPresent s.variant a = false → CmdDone (.abort q tag args) 0x05 q tag args s .absent [] (u 0x05))
    ∧ (abortCode a = true → abortPresent s.variant a = true → abortIdle a (u 0x05) = true → CmdDone (.abort q tag args) 0x05 q tag args s .ok [] (u 0x05))
    ∧ (abortCode a = true → abortPresent s.variant a = true → abortIdle a (u 0x05) = false → CmdWaits (.abort q tag args) 0x05 q tag args s
        (hold 0x05 q tag a { u 0x05 with hif := { (u 0x05).hif with aborting := insNat (u 0x05).hif.aborting a, abortBusy := true } }))
    ∧ (s.served Reg.HIF_ABORT = true → s.hif.abortBusy = true → exec (.hifAbortWrite m v) s = .next (s.count Reg.HIF_BAD_ACCESS_CNT 1))
    ∧ (s.served Reg.HIF_ABORT = true → s.hif.abortBusy = false → (abortCode r = false ∨ abortPresent s.variant r = false) →
        exec (.hifAbortWrite m v) s = .next ((s.count Reg.HIF_BAD_ACCESS_CNT 1).wr Reg.HIF_BAD_ACCESS_LAST (2 ^ 31 + Reg.HIF_ABORT)))
    ∧ (s.served Reg.HIF_ABORT = true → s.hif.abortBusy = false → abortCode r = true → abortPresent s.variant r = true →
        exec (.hifAbortWrite m v) s = .next (if abortIdle r s = true then s else
          { s with hif := { s.hif with aborting := insNat s.hif.aborting r, abortBusy := true } }))
    ∧ (a ∉ s.hif.aborting → exec (.abortComplete a) s = .next s)
    ∧ (a ∈ s.hif.aborting → a < 0x40 → ∃ t : State, (t.core a).st = .halted ∧ ((s.core a).st ≠ .halted → (t.core a).cause = 2)
        ∧ t.hif.aborting = s.hif.aborting.filter (fun x => x != a) ∧ t.hif.abortBusy = !t.hif.aborting.isEmpty
        ∧ t.scene.objs = s.scene.objs ∧ ((s.core a).wbuf = [] → t.scene = s.scene)
        ∧ exec (.abortComplete a) s = .next ((t.hif.waitingCmds.filter (fun w => w.opcode == 0x05 && w.arg == a)).foldl (fun s w => release w .ok [] s) t))
    ∧ ((¬ sized ∨ sourceOk s.variant src n = false ∨ destOk s.variant dst n = false) → CmdDone (.dmaCopy q tag args) 0x09 q tag args s .range [] (u 0x09))
    ∧ (sized → sourceOk s.variant src n = true → destOk s.variant dst n = true → ¬ reach → CmdDone (.dmaCopy q tag args) 0x09 q tag args s .link [0] (u 0x09))
    ∧ (sized → sourceOk s.variant src n = true → destOk s.variant dst n = true → reach →
        let w := (u 0x09).bset (Reg.HIF_DMA_STATUS (q % 4)) 30 false
        CmdWaits (.dmaCopy q tag args) 0x09 q tag args s
          (hold 0x09 q tag (q % 4) { w with hif := { w.hif with dma := w.hif.dma ++ [(q % 4, ⟨q, tag, src, dst, n, n / 4⟩)] } }))
    ∧ ((∀ p ∈ s.hif.dma, p.1 ≠ c) → exec (.dmaTransferComplete c own) s = .next s)
    ∧ (s.hif.dma.find? (fun p => p.1 == c) = some (c, d) →
        (waiting = none → exec (.dmaTransferComplete c own) s = .next ended)
        ∧ (∀ w, waiting = some w → exec (.dmaTransferComplete c own) s = .next
            (release w (if moved.1 = 0 then .ok else .fault) (if moved.1 = 0 then [] else [toW moved.1]) ended)))

/-- R499 to R502, R535 to R538: FOLIO_LOAD, MRAM_WRITE and MRAM_COMMIT: the codes of a Folio that fails its steps, what a
good one loads, and what the commands write or refuse. The model's own choices among its clauses are named in log entries
6, 10, 90, 91, 116 and 117. -/
def Obligations.FoliosAndMram : Prop :=
  ∀ (s : State) (q : Nat) (tag : Word) (args : List Word) (f : List Byte),
    let u (op : Nat) : State := atCommand op q tag args s
    let a := addrOf args 0
    let b := addrOf args 1
    let off := arg args 0
    let n := arg args 3
    let h := fetch a 320 (u 0x06)
    let g := fetch a (320 + folioLen (wordBytes h.words)) (u 0x06)
    let image := (wordBytes g.words).take (320 + folioLen (wordBytes h.words))
    let w := fetch b n (u 0x07)
    let inBanks := imageBank 0 ≤ off ∧ off + n ≤ imageBank 2
    let running := runBank (u 0x07) < 2 ∧ off < imageBank (runBank (u 0x07)) + 0x1F00000 ∧ imageBank (runBank (u 0x07)) < off + n
    let e := fetch a 32768 (u 0x08)
    let d := wordBytes e.words
    let folio0 := mramGet (dirFolio d 0).1 (dirFolio d 0).2.1 e.st
    let fails (k : Nat) (s : State) : State := (s.wr Reg.SEC_LAST_FAIL (2 ^ 31 + folioType f % 16 * 2 ^ 16 + k)).count Reg.SEC_FAIL_CNT 1
    (folioFormat f = false → folioRun f s = (1, fails 1 s))
    ∧ (folioFormat f = true → folioKey s.sec f = false → folioRun f s = (2, fails 2 s))
    ∧ (folioFormat f = true → folioKey s.sec f = true → folioSig f = false → folioRun f s = (3, fails 3 s))
    ∧ (folioFormat f = true → folioKey s.sec f = true → folioSig f = true → folioRoll s.sec f = false → folioRun f s = (4, fails 4 s))
    ∧ (folioFormat f = true → folioKey s.sec f = true → folioSig f = true → folioRoll s.sec f = true → folioEnc f = true → s.sec.imgKey = none →
        folioRun f s = (5, fails 5 s))
    ∧ (folioFormat f = true → folioKey s.sec f = true → folioSig f = true → folioRoll s.sec f = true → folioEnc f = false →
        folioRun f s = if folioRegion s.variant f then (0, folioStore f (folioPayload f) s) else (7, fails 7 s))
    ∧ (sourceOk (u 0x06).variant a 320 = false → CmdDone (.folioLoad q tag args) 0x06 q tag args s .range [] (u 0x06))
    ∧ (h.ok = true → folioAbsent s.variant (wordBytes h.words) = false → folioFormat (wordBytes h.words) = true →
        sourceOk (u 0x06).variant a (320 + folioLen (wordBytes h.words)) = false → CmdDone (.folioLoad q tag args) 0x06 q tag args s .range [] h.st)
    ∧ (h.ok = true → folioAbsent s.variant (wordBytes h.words) = true → CmdDone (.folioLoad q tag args) 0x06 q tag args s .absent [] h.st)
    ∧ (h.ok = true → folioAbsent s.variant (wordBytes h.words) = false → (folioFormat (wordBytes h.words) = true → sourceOk (u 0x06).variant a (320 + folioLen (wordBytes h.words)) = true) →
        folioBarred (wordBytes h.words) (u 0x06) = true → CmdDone (.folioLoad q tag args) 0x06 q tag args s .state [] h.st)
    ∧ (h.ok = true → folioAbsent s.variant (wordBytes h.words) = false → folioBarred (wordBytes h.words) (u 0x06) = false → folioFormat (wordBytes h.words) = true → g.ok = true → g.bad = 0 →
        ((folioRun image g.st).1 = 0 → CmdDone (.folioLoad q tag args) 0x06 q tag args s .ok [] (folioRun image g.st).2)
        ∧ ((folioRun image g.st).1 ≠ 0 → CmdDone (.folioLoad q tag args) 0x06 q tag args s .auth [toW (folioRun image g.st).1] (folioRun image g.st).2))
    ∧ (inBanks → ¬ running → w.ok = true → w.bad = 0 → CmdDone (.mramWrite q tag args) 0x07 q tag args s .ok []
        (mramBytes off ((wordBytes w.words).take n) w.st))
    ∧ (¬ inBanks → CmdDone (.mramWrite q tag args) 0x07 q tag args s .range [] w.st)
    ∧ (inBanks → running → sourceOk (u 0x07).variant b n = true → CmdDone (.mramWrite q tag args) 0x07 q tag args s .state [] w.st)
    ∧ (e.ok = true → e.bad = 0 → dirOk d = true → folioField d 8 4 ≠ runBank (u 0x08) →
        (bootFolioCode (u 0x08).sec folio0 = 0 → CmdDone (.mramCommit q tag args) 0x08 q tag args s .ok [toW (dirPlace e.st).1] (dirWrite d e.st))
        ∧ (bootFolioCode (u 0x08).sec folio0 ≠ 0 → CmdDone (.mramCommit q tag args) 0x08 q tag args s .auth
            [toW (bootFolioCode (u 0x08).sec folio0)] (noteFolioFail (bootFolioCode (u 0x08).sec folio0) folio0 e.st)))
    ∧ (e.ok = true → dirOk d = false → CmdDone (.mramCommit q tag args) 0x08 q tag args s .range [] e.st)
    ∧ (e.ok = true → dirOk d = true → folioField d 8 4 = runBank (u 0x08) → CmdDone (.mramCommit q tag args) 0x08 q tag args s .state [] e.st)

/-- R518, R520, R522, R523, R535, R536, R538 to R541, R591: the loss and the training of the PCIe link, its configuration
space, the DRAM window, the stages of boot and the host's doorbell. The model's own choices among its clauses are named in
log entries 3, 92, 117, 118 and 120. -/
def Obligations.LinkAndBootStages : Prop :=
  ∀ (s : State) (m : Master) (v : Word) (bank : Nat),
    let h := fabGet 320 0x107100000 s
    let len := if folioFormat h.1 then 320 + Nat.min (folioLen h.1) 1048256 else 320
    let g := fabGet len 0x107100000 h.2
    let f := g.1
    let cold := s.hif.bootSrc = true ∨ s.bget Reg.HIF_BOOT 26 = true
    let d (k : Nat) : List Byte := dirCopy k s
    let e := dirFolio (d 0) 0
    let f0 := mramGet e.1 e.2.1 s
    let firmware (t t' : State) (b : Nat) (f : List Byte) : Prop := t.hif.stage = 3 ∧ t.fget Reg.HIF_BOOT 25 24 = b ∧ t.sec.svnRun = folioField f 12 4
      ∧ t.mem = t'.mem ∧ t.freeCtr = t'.freeCtr + 1
    (∃ t, exec .pcieLinkLoss s = .next t ∧ t.hif.linkUp = false ∧ t.hif.msixPend = 0 ∧ t.hif.msixSent = [] ∧ t.hif.funcMask = false
        ∧ t.hif.msixEn = false ∧ t.hif.d3 = false ∧ t.hif.aerStatus = 0 ∧ t.hif.aerMask = 0
        ∧ t.rd Reg.HIF_STATUS = 0 ∧ t.rd Reg.HIF_DRAM_WIN = 0x80 ∧ (∀ o, 0x18000 ≤ o → o < 0x18400 → t.rd o = (resetWord o).toNat)
        ∧ (∀ k, k < 256 → Tab.get (fun _ => 0) t.qHold k = 0) ∧ (∀ p ∈ t.hif.dma, p.2.src < hostBit ∧ p.2.dst < hostBit)
        ∧ ((∀ p ∈ s.hif.dma, p.2.src < hostBit ∧ p.2.dst < hostBit) → t.mem = s.mem ∧ t.sched = s.sched ∧ t.hif.dma = s.hif.dma ∧ t.queues = s.queues
          ∧ t.rd Reg.HIF_LINK_DOWN_CNT = if s.hif.linkUp then Nat.min (s.rd Reg.HIF_LINK_DOWN_CNT + 1) 0xFFFFFFFF else s.rd Reg.HIF_LINK_DOWN_CNT))
    ∧ ((s.hif.linkUp = true ∨ s.hif.stage = 0) → exec .pcieLinkUp s = .next s)
    ∧ (s.hif.linkUp = false → s.hif.stage ≠ 0 → ∃ t, exec .pcieLinkUp s = .next t ∧ t.hif.linkUp = true ∧ t.bget Reg.HIF_STATUS 31 = true ∧ t.bget Reg.HIF_STATUS 0 = false
        ∧ (cold ∧ (s.hif.stage = 1 ∨ s.hif.stage = 2) → t.hif.stage = 8)
        ∧ (¬ (cold ∧ (s.hif.stage = 1 ∨ s.hif.stage = 2)) → t.hif.stage = s.hif.stage)
        ∧ (¬ (cold ∧ s.hif.stage = 1) → t.mem = s.mem) ∧ (cold ∧ s.hif.stage = 1 → t.mem = (romStage s).mem) ∧ ∀ o, o ≠ Reg.HIF_STATUS → t.rd o = s.rd o)
    ∧ (∀ a, (romStage s).byteAt a = if (bankOf a).any (fun p => decide (272 ≤ p.1) && decide (p.1 < 276)) = true then 0 else s.byteAt a)
    ∧ (s.served Reg.HIF_DRAM_WIN = true → exec (.hifDramWinWrite m v) s
        = .next (if 0x80 ≤ v.toNat % 256 then s.wr Reg.HIF_DRAM_WIN (v.toNat % 256) else s))
    ∧ ((s.hif.stage ≠ 8 ∨ bitOf v.toNat 0 = false) → exec (.hostBootDoorbell m v) s = .next s)
    ∧ (s.hif.stage = 8 → bitOf v.toNat 0 = true → ¬ (folioFormat f = true ∧ folioType f ≠ 1) →
        ((folioRun f g.2).1 = 0 → ∃ t, exec (.hostBootDoorbell m v) s = .next t ∧ firmware t (folioRun f g.2).2 2 f)
        ∧ ((folioRun f g.2).1 ≠ 0 → exec (.hostBootDoorbell m v) s = .next ((folioRun f g.2).2.fset Reg.HIF_BOOT 15 12 (folioRun f g.2).1)))
    ∧ (s.hif.stage = 1 → exec .bootStageComplete s = .next (if s.hif.bootSrc then (if s.hif.linkUp then { romStage s with hif := { s.hif with stage := 8 } } else s)
        else { romStage s with hif := { s.hif with stage := 2 } }))
    ∧ (s.hif.stage = 2 → s.bget Reg.HIF_BOOT 26 = false → dirValid (d 0) = false → dirValid (d 1) = false → s.hif.linkUp = true →
        exec .bootStageComplete s = .next { s.bset Reg.HIF_BOOT 26 true with hif := { s.hif with stage := 8 } })
    ∧ (s.hif.stage = 2 → s.bget Reg.HIF_BOOT 26 = false → dirValid (d 0) = true → (dirValid (d 1) = false ∨ folioField (d 1) 4 4 ≤ folioField (d 0) 4 4) →
        folioField (d 0) 8 4 = bank → bank < 2 → folioType f0 = 1 → (folioRun f0 s).1 = 0 →
        ∃ t, exec .bootStageComplete s = .next t ∧ firmware t (folioRun f0 s).2 bank f0 ∧ t.hif.dirUsed = some 0)
    ∧ (s.hif.stage = 3 → exec .bootStageComplete s = .next { s with hif := { s.hif with stage := 4 } })
    ∧ (s.hif.stage = 4 → ∃ t, exec .bootStageComplete s = .next t ∧ t.hif.stage = 5 ∧ t.mem = s.mem ∧ ∀ c, c < 2 →
        present s.variant (Reg.DDR_CTL c) = true → t.bget (Reg.DDR_CTL c) 31 = true
          ∧ t.fget (Reg.DDR_STATUS c) 31 29 = if s.fget (Reg.DDR_STATUS c) 31 29 = 1 then 2 else s.fget (Reg.DDR_STATUS c) 31 29)
    ∧ (s.hif.stage = 5 → ∃ t, exec .bootStageComplete s = .next t ∧ t.hif.stage = 6
        ∧ (∀ q, q < 32 → t.qEnabled q = true ∧ t.qDepth q = (bootQueue q).1 ∧ t.rd (Reg.QUEUE_BASE q) = (bootQueue q).2 ∧ t.queue q = ⟨0, [], false, (s.queue q).transit, none⟩)
        ∧ t.fget (Reg.QUEUE_CFG 17) 15 8 = 0x40 ∧ ∀ a, t.byteAt a = if ((bankOf a).any (fun p => decide (p.1 < 272) || decide (276 ≤ p.1))) = true then 0 else s.byteAt a)
    ∧ (s.hif.stage = 6 → s.pwr.planDue = false →
        (∀ k, s.hif.dirUsed = some k → ∀ n, n < folioField (d k) 12 4 → (dirFolio (d k) n).2.2.1 < 2 ∨ 4 < (dirFolio (d k) n).2.2.1) →
        exec .bootStageComplete s = .next (fire 0x04 0 { s with hif := { s.hif with stage := 7 }, sec := { s.sec with twinKey := s.sec.keyKept } }))
    ∧ (s.hif.stage = 6 → s.pwr.planDue = true → exec .bootStageComplete s = .next s)
    ∧ (s.hif.linkUp = true →
        (∀ r, exec (.bar2Write 0 v .idle (.cfgRead r)) s = .next (s.answer (cfgWord r s)))
        ∧ exec (.bar2Write 0 v .idle (.cfgWrite .command)) s = .next (s.bset Reg.HIF_STATUS 0 (bitOf v.toNat 2))
        ∧ exec (.bar2Write 0 v .idle (.cfgWrite .msix)) s = .next { s with hif := { s.hif with msixEn := bitOf v.toNat 31, funcMask := bitOf v.toNat 30 } }
        ∧ exec (.bar2Write 0 v .idle (.cfgWrite .aerMask)) s = .next { s with hif := { s.hif with aerMask := v } }
        ∧ exec (.bar2Write 0 v .idle (.cfgWrite .id)) s = .next s ∧ exec (.bar2Write 0 v .idle (.cfgWrite .classCode)) s = .next s
        ∧ (v.toNat % 4 = 3 → exec (.bar2Write 0 v .idle (.cfgWrite .power)) s = .next { s with hif := { s.hif with d3 := true } })
        ∧ (v.toNat % 4 = 0 → exec (.bar2Write 0 v .idle (.cfgWrite .power)) s = .next { s with hif := { s.hif with d3 := false } })
        ∧ (∃ t, exec (.bar2Write 0 v .idle (.cfgWrite .aerStatus)) s = .next t ∧ t.hif.linkUp = true ∧ t.regs = s.regs
          ∧ ∀ b, b < 32 → t.hif.aerStatus.getLsbD b = (s.hif.aerStatus.getLsbD b && !v.getLsbD b)))
    ∧ (s.hif.linkUp = false → ∀ r, exec (.bar2Write 0 v .idle (.cfgRead r)) s = .next s ∧ exec (.bar2Write 0 v .idle (.cfgWrite r)) s = .next s)
    ∧ (cfgWord .id s = toW (capCode s.variant * 65536 + Config.vendorId.toNat) ∧ cfgWord .command s = toW (4 * b2n (s.bget Reg.HIF_STATUS 0))
        ∧ cfgWord .power s = (if s.hif.d3 then 3 else 0) ∧ cfgWord .msix s = toW (b2n s.hif.msixEn * 2 ^ 31 + b2n s.hif.funcMask * 2 ^ 30 + 63 * 2 ^ 16))
    ∧ ((s.hif.stage = 0 ∨ 7 ≤ s.hif.stage) → exec .bootStageComplete s = .next s)

/-- R523, R547, R554 to R556: a message on an interrupt vector carries what is pending on it, if host memory can be
reached, MSI-X is enabled and nothing masks or delays it. The trace port sends the oldest packet of its buffer, or the idle
byte, and a traced core adds what it has branched and trapped. The model's own choices among its clauses are named in log
entries 3, 119, 122 and 175. -/
def Obligations.MessagesAndTrace : Prop :=
  ∀ (s : State) (v core : Nat) (p : List Byte) (ps : List (List Byte)),
    let a := (s.rd (Reg.HIF_MSIX_ADDR_LO v) + s.rd (Reg.HIF_MSIX_ADDR_HI v) * 2 ^ 32) % 2 ^ 63
    let spaced := ∀ n, Tab.find s.hif.msixSent v = some n → s.fget Reg.EVT_MOD 7 0 ≤ n
    let ready := s.hif.linkUp = true ∧ s.bget Reg.HIF_STATUS 0 = true ∧ s.hif.d3 = false ∧ s.hif.msixEn = true ∧ bitOf s.hif.msixPend.toNat v = true ∧ s.bget (Reg.HIF_MSIX_CTRL v) 0 = false ∧ s.hif.funcMask = false ∧ spaced
    (v < 64 → ready → ∃ t, exec (.msixMessage v) s = .next t ∧ t.hif.msixOut = s.hif.msixOut ++ [v]
        ∧ (∀ w, bitOf t.hif.msixPend.toNat w = (bitOf s.hif.msixPend.toNat w && w != v)) ∧ Tab.find t.hif.msixSent v = some 0 ∧ t.regs = s.regs
        ∧ t.sched = s.sched ∧ t.mem.rdWord ((hostBit + a) / 4 * 4) = toW (s.rd (Reg.HIF_MSIX_DATA v))
        ∧ ∀ x, (x < (hostBit + a) / 4 * 4 ∨ (hostBit + a) / 4 * 4 + 4 ≤ x) → t.byteAt x = s.byteAt x)
    ∧ ((64 ≤ v ∨ ¬ ready) → exec (.msixMessage v) s = .next s)
    ∧ (traceOn s = false → exec (.tracePacket core) s = .next { s with stat := { s.stat with traceBuf := [], traceLost := 0, traceCount := 0 } })
    ∧ (traceOn s = true → s.stat.traceBuf = p :: ps → s.stat.traceLost = 0 → (4 ≤ core ∨ s.bget Reg.DBG_TRACE_CTL core = false) →
        exec (.tracePacket core) s = .next { s with stat := { s.stat with traceBuf := ps, traceOut := p } })
    ∧ (traceOn s = true → s.stat.traceBuf = [] → (4 ≤ core ∨ s.bget Reg.DBG_TRACE_CTL core = false) →
        exec (.tracePacket core) s = .next { s with stat := { s.stat with traceOut := [0x00] } })
    ∧ (traceOn s = true → s.stat.traceBuf = p :: ps → core < 4 → s.bget Reg.DBG_TRACE_CTL core = true → ∃ t more, exec (.tracePacket core) s = .next t
        ∧ t.stat.traceOut = p ∧ t.stat.traceBuf = ps ++ more ∧ t.regs = s.regs ∧ t.mem = s.mem)
    ∧ (traceOn s = true → s.stat.traceBuf = [] → core < 4 → s.bget Reg.DBG_TRACE_CTL core = true → ∃ t, exec (.tracePacket core) s = .next t
        ∧ ((t.stat.traceOut.length = 8 ∧ t.stat.traceOut.head? = some (traceHead 2 core))
          ∨ (t.stat.traceOut.length = 7 ∧ t.stat.traceOut.head? = some (traceHead 3 core))) ∧ t.regs = s.regs ∧ t.mem = s.mem)

/-- R476 to R480, R509, R572 to R577: power arrives and the module boots, or waits while RESET_N is low; the feeds are
sampled and their states confirmed, a tripped one after 100 ms within HIGH_MV; a collapse moves the load; hold-up of at
least 2 ms ends in OFF; RESET_N holds the module, its release restarts it; and what the pads show meanwhile, or under
EXTEST. The model's own choices among its clauses are named in log entries 3, 7, 20, 94, 95, 96, 97, 105 and 170. -/
def Obligations.FeedsAndReset : Prop :=
  ∀ (s : State) (f a b ns : Nat) (src : Bool) (edge : ResetEdge),
    let low := s.fget Reg.PWR_FEED_THR 15 0
    let high := s.fget Reg.PWR_FEED_THR 31 16
    let st (i mv : Nat) : Nat := (feedStep (feedState s i) (feedClass low high mv) (if i = 0 then s.pwr.feedA else s.pwr.feedB)).1
    let off := s.pwr.off = true ∧ s.pwr.powering = false
    let deaf := s.pwr.off = true ∨ pwrState s = 2 ∨ s.pwr.inReset = true
    let kept (t : State) : Prop := ∀ o, unitOf o = some .pwr → t.rd o = s.rd o
    let held (t : State) : Prop := Rebooted s t ∧ t.hif.stage = 0 ∧ t.pwr.inReset = true ∧ (s.sec.ir ≠ 3 → PadsRest t)
    (∀ p, padPowered s p = true → padPresent s p = false → padShows s p = .highZ)
    ∧ (∀ p, padPowered s p = true → padPresent s p = true → extestOn s = true → padShows s p = .level (s.sec.boundary.getD (Config.scanCell p.code) false))
    ∧ (∀ lo hi mv, (feedClass lo hi mv = 0 ↔ 9000 ≤ mv ∧ mv ≤ 14000 ∧ lo ≤ mv ∧ mv ≤ hi) ∧ (feedClass lo hi mv = 3 ↔ mv < 9000)
        ∧ (feedClass lo hi mv = 4 ↔ 14000 < mv) ∧ feedClass lo hi mv ≤ 4)
    ∧ (off → f < 2 → feedClass low high a = 0 → exec (.feedRise f a) s
        = .next ({ s with pwr := { s.pwr with powering := true, riseAt := s.sched.up, rails := [], railSeq := [], brownAt := none } }.fset (Reg.PWR_FEED f) 15 0
            (Nat.min a 65535)))
    ∧ ((¬ off ∨ 2 ≤ f ∨ feedClass low high a ≠ 0) → exec (.feedRise f a) s = .next s)
    ∧ (s.pwr.powering = true → ∃ t, exec (.powerGood src) s = .next t ∧ Rebooted s t ∧ t.pwr.off = false
        ∧ t.pwr.powering = false ∧ t.pwr.pgood = true ∧ (s.sec.ir ≠ 3 → padShows t .pgood = .level true) ∧ t.pwr.rails = mainRails ++ [Rail.aon] ∧ t.pwr.railSeq = railsUp ∧ t.sec.fails = 0 ∧ kept t
        ∧ (s.pwr.resetLow = false → InRom t src ∧ t.lowPower = s.bget Reg.PWR_CLK 0) ∧ (s.pwr.resetLow = true → held t))
    ∧ (s.pwr.powering = false → exec (.powerGood src) s = .next s)
    ∧ (off → exec (.feedSample a b) s = .next s)
    ∧ (s.pwr.powering = true → s.pwr.brownAt = none → 3 ≤ st 0 a → 3 ≤ st 1 b → ∃ t, exec (.feedSample a b) s = .next t ∧ t.pwr.off = true
        ∧ t.pwr.powering = false ∧ t.pwr.brownAt = none ∧ t.hif.stage = 0)
    ∧ (¬ off → (s.pwr.powering = false ∨ ¬ (3 ≤ st 0 a ∧ 3 ≤ st 1 b)) → ∃ t, exec (.feedSample a b) s = .next t ∧ feedState t 0 = st 0 a ∧ feedState t 1 = st 1 b
        ∧ t.fget (Reg.PWR_FEED 0) 15 0 = Nat.min a 65535 ∧ t.fget (Reg.PWR_FEED 1) 15 0 = Nat.min b 65535
        ∧ (3 ≤ st 0 a → t.fget (Reg.PWR_FEED 0) 27 16 = 0) ∧ (3 ≤ st 1 b → t.fget (Reg.PWR_FEED 1) 27 16 = 0)
        ∧ (s.pwr.feedA.drop = true → 3 ≤ feedClass low high a → t.fget (Reg.PWR_FEED 0) 27 16 = 0)
        ∧ (s.pwr.feedB.drop = true → 3 ≤ feedClass low high b → t.fget (Reg.PWR_FEED 1) 27 16 = 0)
        ∧ t.rd Reg.PWR_POWER ≤ maxPower s ∧ (3 ≤ st 0 a → 3 ≤ st 1 b → t.rd Reg.PWR_POWER = 0)
        ∧ (s.pwr.brownAt = none → t.pwr.brownAt = if 3 ≤ st 0 a ∧ 3 ≤ st 1 b then some s.sched.up else none)
        ∧ (∀ x, s.pwr.brownAt = some x → s.sched.up ≤ x + 1000000 → ¬ (3 ≤ st 0 a ∧ 3 ≤ st 1 b) →
            t.pwr.brownAt = none ∧ t.bget Reg.PWR_STATUS 27 = true ∧ ∀ d, s.pwr.bootHeld = some d → t.hif.stage = 1 ∧ t.hif.bootSrc = d)
        ∧ t.scene = s.scene)
    ∧ (∀ cur cls x, cls ≠ cur → cls ≤ 4 →
        let calm := if cls = 2 ∨ cls = 4 then 0 else x.calm + 1
        let locked := x.trip = true ∧ cls ≤ 2 ∧ calm < 10000
        let y := feedStep cur cls x
        (3 ≤ cls → y.1 = if x.cand = cls ∧ 1 ≤ x.runs then cls else cur)
        ∧ (cls = 0 → cur ≤ 2 → ¬ locked → y.1 = 0)
        ∧ (cls = 0 → 3 ≤ cur → ¬ locked → y.1 = if x.cand = 0 ∧ 9999 ≤ x.runs then 0 else cur)
        ∧ ((cls = 1 ∨ cls = 2) → ¬ locked → y.1 = if x.cand = cls ∧ 9 ≤ x.runs then cls else cur)
        ∧ (locked → y.1 = cur) ∧ y.2.calm = calm
        ∧ y.2.trip = (if y.1 = cls then cls == 4 || (cls == 3 && x.trip) else x.trip))
    ∧ (∀ x, s.pwr.brownAt = some x → x + 2000000 ≤ s.sched.up → s.sec.burn = none →
        ∃ t, exec .holdUpEnd s = .next t ∧ Rebooted s t ∧ t.hif.stage = 0 ∧ t.pwr.off = true ∧ t.pwr.pgood = false ∧ t.rd Reg.PWR_HOURS = s.rd Reg.PWR_HOURS
          ∧ t.sec.fails = 0 ∧ t.pwr.rails = [] ∧ t.pwr.railSeq = railsDown ++ [(Rail.aon, false)] ∧ PadsOff t)
    ∧ ((∀ x, s.pwr.brownAt = some x → s.sched.up < x + 2000000) → exec .holdUpEnd s = .next s)
    ∧ (f < 2 → s.pwr.off = false → feedState s (1 - f) ≤ 2 → s.fget (Reg.PWR_FEED (1 - f)) 15 0 ≠ 0 → ∃ t, exec (.feedCollapse f) s = .next t
        ∧ t.regs = ((s.fset (Reg.PWR_FEED f) 27 16 0).fset (Reg.PWR_FEED (1 - f)) 27 16
            (Nat.min (s.rd Reg.PWR_POWER * 1000 / s.fget (Reg.PWR_FEED (1 - f)) 15 0) 4095)).regs
        ∧ t.pwr = { s.pwr with feedA := { s.pwr.feedA with drop := s.pwr.feedA.drop || f == 0 }, feedB := { s.pwr.feedB with drop := s.pwr.feedB.drop || f == 1 } }
        ∧ t.mem = s.mem ∧ t.sched = s.sched ∧ t.scene = s.scene)
    ∧ ((2 ≤ f ∨ s.pwr.off = true ∨ 3 ≤ feedState s (1 - f)) → exec (.feedCollapse f) s = .next s)
    ∧ ((deaf ∨ ns < 1000) → exec (.resetN ns src) s = .next s ∧ exec (.resetN ns src .low) s = .next { s with pwr := { s.pwr with resetLow := true } })
    ∧ (¬ deaf → 10000 ≤ ns → s.sec.burn = none → edge ≠ .release → ∃ t, exec (.resetN ns src edge) s = .next t ∧ Rebooted s t
        ∧ (edge = .pulse → s.pwr.brownAt = none → t.hif.stage = 1 ∧ t.hif.bootSrc = src ∧ t.pwr.inReset = false)
        ∧ (edge = .pulse → s.pwr.brownAt ≠ none → t.hif.stage = 0 ∧ t.pwr.inReset = true ∧ t.pwr.bootHeld = some src)
        ∧ (edge = .low → t.pwr.resetLow = true ∧ held t)
        ∧ t.sec.fails = s.sec.fails ∧ t.bget Reg.PWR_STATUS 29 = false
        ∧ ∀ o, unitOf o = some .pwr → o ≠ Reg.PWR_STATUS → t.rd o = s.rd o)
    ∧ (¬ deaf → 1000 ≤ ns → ns < 10000 → s.sec.burn = none → s.pwr.brownAt = none → ∃ t, exec (.resetN ns src) s = .next t
        ∧ (t = { s with freeCtr := s.freeCtr + 1 } ∨ (Rebooted s t ∧ t.hif.stage = 1 ∧ t.hif.bootSrc = src)))
    ∧ (s.pwr.inReset = false → exec (.resetN ns src .release) s = .next { s with pwr := { s.pwr with resetLow := false } })
    ∧ (s.pwr.inReset = true → ∀ x, s.pwr.brownAt = some x →
        exec (.resetN ns src .release) s = .next { s with pwr := { s.pwr with resetLow := false, bootHeld := some src } })
    ∧ (s.pwr.inReset = true → s.pwr.brownAt = none → ∃ t, exec (.resetN ns src .release) s = .next t ∧ t.hif.stage = 1 ∧ t.hif.bootSrc = src
        ∧ t.pwr = { s.pwr with resetLow := false, inReset := false, planDue := true, bootHeld := none } ∧ t.mem = s.mem ∧ t.scene = s.scene ∧ t.sec = s.sec)

/-- R275, R481 to R487, R531, R573, R576, R577: requests for a power state, by any write of PWR_CTL; QUIET and the return
from it; STANDBY with its rails and pads, the wakes and the thermal trip. The model's own choices among its clauses are
named in log entries 3, 97, 98, 99, 100, 174 and 180. -/
def Obligations.PowerStates : Prop :=
  ∀ (s : State) (m : Master) (v : Word) (src : Nat) (boot : Bool) (c : Instr),
    let w := s.fset Reg.PWR_CTL 9 8 (getF v.toNat 9 8)
    let r := getF v.toNat 2 0
    let busy := w.bset Reg.PWR_STATUS 29 true
    let refused := pwrBusy s = true ∨ pwrState s = 2 ∨ r = pwrState s + 1
    let x := if s.sched.cycle = 0 then s.bn + 2 else s.bn + 3
    let fired := src = 0 ∨ (src = 1 ∧ pwrState s = 2 ∧ s.rd Reg.PWR_WAKE_TIMER ≠ 0 ∧ s.pwr.standbyAt + s.rd Reg.PWR_WAKE_TIMER * 1000000000 ≤ s.sched.up)
      ∨ (src = 2 ∧ hasTwin s = true ∧ s.pwr.peerRose = true)
    let woken (t : State) : Prop := Rebooted s t ∧ (s.pwr.resetLow = false → InRom t boot)
      ∧ (s.pwr.resetLow = true → t.hif.stage = 0 ∧ t.pwr.inReset = true) ∧ t.pwr.pgood = true ∧ t.pwr.peerRose = false ∧ pwrState t = 0 ∧ pwrBusy t = false ∧ t.fget Reg.PWR_STATUS 26 24 = src
      ∧ t.rd Reg.PWR_WAKE_CNT = Nat.min (s.rd Reg.PWR_WAKE_CNT + 1) 0xFFFFFFFF ∧ t.sec.fails = 0
    ((c = .reqActive m v ∨ c = .reqQuiet m v ∨ c = .reqStandby m v) → s.served Reg.PWR_CTL = true →
      ((r = 0 ∨ 3 < r) → exec c s = .next w)
      ∧ (1 ≤ r → r ≤ 3 → refused → exec c s = .next (w.bset Reg.PWR_STATUS 28 true))
      ∧ (r = 2 ∨ r = 3 → ¬ refused → fuseBusy s = true → exec c s = .next { busy with pwr := { s.pwr with heldReq := r } })
      ∧ (¬ refused → (r = 1 ∨ (r = 3 ∧ pwrState s = 1 ∧ fuseBusy s = false)) → exec c s = .next { busy with pwr := { s.pwr with want := r, heldReq := 0, peerRose := false } })
      ∧ ((r = 2 ∨ r = 3) → pwrState s = 0 → ¬ refused → fuseBusy s = false → (transmits s = false ∨ peerStands s = false ∨ hasTwin s = false) →
        exec c s = .next { busy with pwr := { s.pwr with want := r, heldReq := 0, peerRose := false }
                                     sched := { s.sched with quietAt := some x, startAt := s.sched.startAt.filter (fun y => decide (y < x)) } }))
    ∧ ((s.sched.quietAt = none ∨ (∃ y, s.sched.quietAt = some y ∧ s.bn < y ∧ s.mediaRun = true)) → exec .quietEntry s = .next s)
    ∧ (∀ y, s.sched.quietAt = some y → (y ≤ s.bn ∨ s.mediaRun = false) → ∃ t, exec .quietEntry s = .next t ∧ t.sched.rendering = false
        ∧ t.sched.startAt = none ∧ t.sched.quietAt = none ∧ t.sched.commits = [] ∧ t.scene.objs = [] ∧ t.scene.trajOps = [] ∧ pwrState t = 1
        ∧ (s.pwr.want ≠ 3 → pwrBusy t = false ∧ t.pwr.want = 0) ∧ (s.pwr.want = 3 → t.pwr.want = 3 ∧ (s.sched.commits = [] → pwrBusy t = pwrBusy s)) ∧ (hasTwin s = true → t.twin.st = 5)
        ∧ (∀ k, k < capTiles s.variant → (t.core k).st = .idle ∨ (t.core k).st = .halted)
        ∧ (∀ n, n < 1024 → t.bget (Reg.STRM_RX_STATUS n) 31 = false ∧ t.bget (Reg.STRM_TX_STATUS n) 31 = false)
        ∧ (∀ n, n < 1024 → t.bget (Reg.STRM_RX_STATUS n) 27 = false ∧ t.bget (Reg.STRM_RX_STATUS n) 28 = false ∧ t.bget (Reg.STRM_RX_STATUS n) 29 = false)
        ∧ (s.sched.commits = [] → ∀ a i w, bankOf a = some (i, w) → 128 ≤ i → i < 192 → bankPresent s.variant i = true → s.bankOn i = true → t.byteAt a = 0)
        ∧ (s.sched.commits = [] → ∀ i, i < 272 → bankPresent s.variant i = true → s.fget (Reg.MEMC_BANK_PWR i) 31 30 ≠ 2 → s.bget (Reg.MEMC_BANK_PWR i) 29 = false →
            t.fget (Reg.MEMC_BANK_PWR i) 31 30 = 1))
    ∧ (pwrState s = 1 → s.pwr.want = 1 → ∃ t, exec .banksOnComplete s = .next t ∧ pwrState t = 0 ∧ pwrBusy t = false ∧ t.pwr.want = 0
        ∧ ∀ i, i < 288 → bankPresent s.variant i = true → t.fget (Reg.MEMC_BANK_PWR i) 31 30 = s.fget (Reg.MEMC_BANK_PWR i) 1 0
          ∧ t.bget (Reg.MEMC_BANK_PWR i) 29 = false)
    ∧ ((pwrState s ≠ 1 ∨ s.pwr.want ≠ 1) → exec .banksOnComplete s = .next s)
    ∧ (pwrState s = 1 → s.pwr.want = 3 → s.sec.burn = none → (s.pwr.heldWake = 0 ∨ s.pwr.tripHit = true) → ∃ t, exec .standbyEntry s = .next t
        ∧ Rebooted s t ∧ t.hif.stage = 0 ∧ pwrState t = 2 ∧ pwrBusy t = false ∧ t.pwr.pgood = false ∧ t.pwr.standbyAt = s.sched.up ∧ t.sec.fails = 0
        ∧ t.twin.sel = false ∧ t.pwr.rails = [Rail.aon] ∧ t.pwr.railSeq = railsDown ∧ PadsStandby t)
    ∧ ((pwrState s ≠ 1 ∨ s.pwr.want ≠ 3) → exec .standbyEntry s = .next s)
    ∧ (s.bget Reg.PWR_WAKE_EN src = true → fired → s.pwr.off = false → pwrState s = 2 → s.pwr.tripHit = false →
        ∃ t, exec (.wake src boot) s = .next t ∧ woken t)
    ∧ (s.bget Reg.PWR_WAKE_EN src = true → fired → s.pwr.off = false → (pwrState s = 2 ∧ s.pwr.tripHit = true ∨ pwrState s ≠ 2 ∧ s.pwr.want = 3) →
        exec (.wake src boot) s = .next { s with pwr := { s.pwr with heldWake := s.pwr.heldWake ||| 2 ^ src } })
    ∧ ((s.bget Reg.PWR_WAKE_EN src = false ∨ ¬ fired ∨ s.pwr.off = true) → exec (.wake src boot) s = .next s)
    ∧ ((s.pwr.off = true ∨ pwrState s = 2) → exec .thermalTrip s = .next { s with pwr := { s.pwr with tripHit := true } })
    ∧ (s.pwr.off = false → pwrState s ≠ 2 → s.sec.burn = none → ∃ t, exec .thermalTrip s = .next t ∧ t.hif.stage = 0 ∧ pwrState t = 2
        ∧ t.pwr.tripHit = true ∧ t.pwr.pgood = false ∧ t.pwr.rails = [Rail.aon] ∧ t.pwr.railSeq = railsDown ∧ t.queues = [] ∧ t.cores = [] ∧ t.scene = State.reset.scene)

/-- R434, R488 to R497: a sensor's reading and the temperature thresholds; a path replica keeps its worst slack until it is
read; writes of the voltage step, the regulator, and its guard, which raises once every canary has been read; the operating
hours; the margin planner, which re-plans DRAM delays through the spare and links that carry no render traffic. The model's
own choices among its clauses are named in log entries 3, 77, 101, 102, 103, 104, 106, 169, 171, 172, 173 and 199. -/
def Obligations.SensorsVoltageAndHours : Prop :=
  ∀ (s : State) (m : Master) (cls idx : Nat) (v : Word) (gain after : Int) (eyes : List (Nat × Nat × Int)),
    let key := cls * 64 + idx
    let noted (w : Word) : State := { s with pwr := { s.pwr with sens := Tab.ins s.pwr.sens key w } }
    let off := s.pwr.off = true ∨ pwrState s = 2
    let step := s.fget Reg.PWR_AVS 20 16
    let req := s.fget Reg.PWR_AVS 4 0
    let t0 := hottest (noted v)
    let warn := sgn 16 (s.fget Reg.PWR_THERM 15 0)
    let crit := sgn 16 (s.fget Reg.PWR_THERM 31 16)
    let w1 := if bitOf v.toNat 31 then s.bset Reg.PWR_AVS 31 false else s
    let w2 := if 5 ≤ getF v.toNat 28 24 then w1.fset Reg.PWR_AVS 28 24 (getF v.toNat 28 24) else w1
    let q := getF v.toNat 4 0
    let sl := (worstSlack s).getD after
    let recs (kk : Nat) := ((s.pwr.margins ++ [(s.rd Reg.PWR_HOURS, after * 1000 + (16 - (kk : Int)) * gain)]).reverse.take 16).reverse
    let margin (kk : Nat) := predict (recs kk) (after * 1000 + (26 - (kk : Int)) * gain)
    let hours := Nat.min (s.rd Reg.PWR_HOURS + 1) 0xFFFFFFFF
    let place := 0x403EF0000 + 4 * (hours % 64)
    let kept := match Tab.find s.pwr.sens key with
      | some old => if old.toInt < v.toInt ∧ idx ∉ s.pwr.fresh then old else v
      | none => v
    let allRead := (List.range 16).all (fun i => s.pwr.canaryRead.contains i) = true
    let swept (c : Nat) := present s.variant (Reg.DDR_CTL c) = true ∧ s.bget (Reg.DDR_STATUS c) 28 = true ∧ ddrServed s c = true ∧ ∃ e, e ∈ eyes ∧ e.1 = c
    ((s.pwr.off = true ∨ 4 ≤ cls ∨ sensCount cls ≤ idx ∨ (pwrState s = 2 ∧ cls < 2)) → exec (.sensorUpdate cls idx v) s = .next s)
    ∧ (s.pwr.off = false → (cls = 0 ∨ cls = 3) → idx < sensCount cls → pwrState s ≠ 2 → exec (.sensorUpdate cls idx v) s = .next (noted v))
    ∧ (s.pwr.off = false → cls = 1 → idx < 16 → pwrState s ≠ 2 → exec (.sensorUpdate cls idx v) s
        = .next { s with pwr := { s.pwr with sens := Tab.ins s.pwr.sens key kept, fresh := s.pwr.fresh.filter (fun i => i != idx) } })
    ∧ (canaryFails s = true ↔ ∃ i r, i < 16 ∧ i ∉ s.pwr.fresh ∧ Tab.find s.pwr.sens (64 + i) = some r ∧ r.toInt < (s.fget Reg.PWR_AVS 28 24 : Int))
    ∧ (s.pwr.off = false → cls = 2 → 16 ≤ idx → idx < 24 → exec (.sensorUpdate cls idx v) s = .next (noted v))
    ∧ (s.pwr.off = false → cls = 2 → idx < 16 → ∃ t, exec (.sensorUpdate cls idx v) s = .next t ∧ t.rd Reg.PWR_TEMP_MAX = uns 16 t0 % 2 ^ 32
        ∧ (29440 ≤ t0 → t.pwr.tripHit = true)
        ∧ (s.coreOn = true → t0 < 29440 → s.pwr.tripHit = false → warn ≤ t0 → t0 < crit → t.pwr.warnHit = true
            ∧ (s.pwr.warnHit = false → t.bget (Reg.EVT_PEND 2) 7 = true))
        ∧ (s.coreOn = true → t0 < 29440 → s.pwr.tripHit = false → crit ≤ t0 → s.pwr.critHit = false → s.bget Reg.PWR_CTL 8 = false → t.pwr.critHit = true
            ∧ t.rd Reg.PWR_THERM_CRIT_CNT = Nat.min (s.rd Reg.PWR_THERM_CRIT_CNT + 1) 0xFFFFFFFF))
    ∧ (s.served Reg.PWR_AVS = true → (s.sched.rendering = false ∨ step ≤ q) → exec (.avsStepReqWrite m v) s = .next (w2.fset Reg.PWR_AVS 4 0 (Nat.min q 26)))
    ∧ (s.served Reg.PWR_AVS = true → s.sched.rendering = true → q < step → exec (.avsStepReqWrite m v) s = .next (w2.bset Reg.PWR_STATUS 23 true))
    ∧ (¬ off → exec .avsRegulatorStep s = .next (if step = req ∨ s.sched.up < s.pwr.avsAt + 10000 then s
        else { s.fset Reg.PWR_AVS 20 16 (if step < req then step + 1 else step - 1) with pwr := { s.pwr with avsAt := s.sched.up } }))
    ∧ (canaryFails s = false → exec .pwrAvsGuard s = .next s)
    ∧ (off → exec .avsRegulatorStep s = .next s ∧ exec .pwrAvsGuard s = .next s)
    ∧ (¬ off → canaryFails s = true → ∃ t, exec .pwrAvsGuard s = .next t ∧ t.bget Reg.PWR_AVS 31 = (s.bget Reg.PWR_AVS 31 || step == 26)
        ∧ t.fget Reg.PWR_AVS 4 0 = (if s.bget Reg.PWR_CTL 9 = true ∧ allRead ∧ req < 26 then req + 1 else req)
        ∧ t.pwr.canaryRead = (if s.bget Reg.PWR_CTL 9 = true ∧ allRead ∧ req < 26 then [] else s.pwr.canaryRead)
        ∧ t.rd Reg.PWR_AVS_GUARD_CNT = (if s.bget Reg.PWR_CTL 9 = true ∧ allRead ∧ req < 26
            then Nat.min (s.rd Reg.PWR_AVS_GUARD_CNT + 1) 0xFFFFFFFF else s.rd Reg.PWR_AVS_GUARD_CNT)
        ∧ t.fget Reg.PWR_AVS 20 16 = step ∧ t.scene = s.scene)
    ∧ (¬ off → s.pwr.hourAt + 3600000000000 ≤ s.sched.up → ∃ t, exec .operatingHour s = .next t ∧ t.rd Reg.PWR_HOURS = hours
        ∧ t.pwr = { s.pwr with hourAt := s.pwr.hourAt + 3600000000000, planDue := s.pwr.planDue || hours % 1000 == 0 }
        ∧ t.mem.rdWord place = toW hours ∧ ∀ x, (x < place ∨ place + 4 ≤ x) → t.byteAt x = s.byteAt x)
    ∧ ((off ∨ s.sched.up < s.pwr.hourAt + 3600000000000) → exec .operatingHour s = .next s)
    ∧ (s.coreOn = true → s.booted = true → s.pwr.planDue = true → ∃ t kk, exec (.marginPlannerRun gain after eyes) s = .next t
        ∧ t.fget Reg.PWR_AVS 4 0 = kk ∧ ((sl < 40 ∨ s.sched.rendering = true) → kk = Nat.max req (planStep sl req gain))
        ∧ (40 ≤ sl → s.sched.rendering = false → kk = req ∨ kk = planDown sl req gain)
        ∧ t.pwr.margins = recs kk ∧ t.pwr.canaryRead = List.range 16 ∧ t.pwr.planDue = false ∧ t.pwr.sens = s.pwr.sens ∧ t.pwr.fresh = List.range 16
        ∧ (∀ c, c < 2 → (t.ddrSt c).applyAt = (if swept c then some (s.bn + 1) else (s.ddrSt c).applyAt)) ∧ (∀ c, c < 2 → ¬ swept c → t.ddrSt c = s.ddrSt c)
        ∧ (∀ l, l < 19 → carriesRender s l = true → Tab.find t.pwr.serdes l = Tab.find s.pwr.serdes l)
        ∧ t.rd Reg.PWR_MARGIN = margin kk % 2 ^ 32 ∧ (margin kk < s.rd Reg.PWR_MARGIN_WARN → t.bget (Reg.EVT_PEND 2) 9 = true)
        ∧ t.scene = s.scene)
    ∧ ((s.coreOn = false ∨ s.booted = false ∨ s.pwr.planDue = false) → exec (.marginPlannerRun gain after eyes) s = .next s)

/-- R503 to R506, R512 to R514: the burns: an SVN commit, a burn that starts or is refused, what its end leaves in the
fuses, and what an SVN burn that is cut short leaves of its bits. The model's own choices among its clauses are named in
log entries 3, 86, 87, 96 and 100. -/
def Obligations.FusesAndSvnCommit : Prop :=
  ∀ (s : State) (m : Master) (v : Word) (field : Nat) (data : List Word),
    let f := getF v.toNat 4 0
    let u := s.fset Reg.SEC_FUSE_CTL 4 0 f
    let asked := s.served Reg.SEC_FUSE_CTL = true ∧ bitOf v.toNat 31 = true
    let early := s.sec.lc ≤ 1
    let may := ((f = 1 ∨ f = 2 ∨ f = 3 ∨ f = 8 ∨ f = 9 ∨ f = 10) ∧ early) ∨ (4 ≤ f ∧ f ≤ 7 ∧ 1 ≤ s.sec.lc)
      ∨ (f = 11 ∧ s.sec.lc = 0 ∧ ∃ k, 1 ≤ k ∧ k ≤ 3 ∧ s.sec.hash k ≠ none) ∨ (f = 12 ∧ s.sec.lc = 1) ∨ f = 13
    let set := (1 ≤ f ∧ f ≤ 3 ∧ s.sec.hash f ≠ none) ∨ (f = 8 ∧ s.sec.imgKey ≠ none) ∨ (f = 9 ∧ s.sec.hash 4 ≠ none)
    let last := s.sec.lc = 2 ∧ 4 ≤ f ∧ f ≤ 7 ∧ ∀ k, 1 ≤ k → k ≤ 3 → s.sec.isRevoked k = true ∨ f - 4 = k
    let refused := ¬ may ∨ set ∨ last ∨ (f ≠ 13 ∧ (s.sched.rendering = true ∨ s.sec.burn ≠ none))
    let fin' := (State.bset { s with sec := { burnt field data s.sec with burn := none } } Reg.SEC_FUSE_CTL 30 false)
    (s.served Reg.SEC_CTL = true → bitOf v.toNat 0 = true → s.sec.burn ≠ none → exec (.svnCommit m v) s = .next (s.bset Reg.SEC_FUSE_CTL 29 true))
    ∧ (s.served Reg.SEC_CTL = true → bitOf v.toNat 0 = true → s.sec.burn = none → (s.sec.svnRun ≤ s.sec.svn ∨ s.sec.lc = 0) → exec (.svnCommit m v) s = .next s)
    ∧ (s.served Reg.SEC_CTL = true → bitOf v.toNat 0 = true → s.sec.burn = none → s.sec.svn < s.sec.svnRun → s.sec.lc ≠ 0 →
        exec (.svnCommit m v) s = .next { s.bset Reg.SEC_FUSE_CTL 30 true with sec := { s.sec with burn := some (14, []) } })
    ∧ (asked → refused → exec (.fuseBurnStart m v) s = .next (u.bset Reg.SEC_FUSE_CTL 29 true))
    ∧ (asked → ¬ refused → s.sec.burn = none → ∃ t, exec (.fuseBurnStart m v) s = .next t ∧ t.sec.burn = some (f, fuseData s)
        ∧ (∀ w, w < 12 → t.rd (Reg.SEC_FUSE_DATA w) = 0) ∧ t.bget Reg.SEC_FUSE_CTL 30 = true ∧ t.bget Reg.SEC_FUSE_CTL 29 = false ∧ t.mem = s.mem
        ∧ ((f = 11 ∨ f = 12) → t.sec.session = false) ∧ (f ≤ 10 → t.sec = { s.sec with burn := some (f, fuseData s) }))
    ∧ (asked → f = 13 → s.sec.burn ≠ none → exec (.fuseBurnStart m v) s
        = .next { u.bset Reg.SEC_FUSE_CTL 29 false with sec := { s.sec with killHeld := true } })
    ∧ (s.sec.burn = none → s.pwr.heldReq = 0 → exec .fuseBurnComplete s = .next s)
    ∧ (s.sec.burn = some (field, data) → s.sec.killHeld = false →
        (s.pwr.heldReq = 0 → field ≠ 13 → exec .fuseBurnComplete s = .next fin')
        ∧ (s.pwr.heldReq = 0 → field = 13 → exec .fuseBurnComplete s = .next (if s.sec.session then
            { fin' with sec := { fin'.sec with session := false, dmHalted := [], dmAck := [] }, stat := { s.stat with traceBuf := [], traceLost := 0, traceCount := 0 } } else fin'))
        ∧ (s.pwr.heldReq ≠ 0 → field ≠ 13 → exec .fuseBurnComplete s = .next (beginReq s.pwr.heldReq fin')))
    ∧ (s.sec.burn = some (field, data) → s.sec.killHeld = true → ∃ t, exec .fuseBurnComplete s = .next t ∧ t.sec.burn = some (13, fuseData s)
        ∧ t.bget Reg.SEC_FUSE_CTL 30 = true ∧ t.pwr = s.pwr)
    ∧ (let n := BitVec.ofNat 384 (beNat ((wordBytes data).take 48))
       (∀ k, 1 ≤ k → k ≤ 3 → burnt k data s.sec = { s.sec with hashes := upd s.sec.hashes k (some n) })
        ∧ (∀ k, k < 4 → burnt (4 + k) data s.sec = { s.sec with revoked := s.sec.revoked ||| 2 ^ k })
        ∧ burnt 8 data s.sec = { s.sec with imgKey := some (BitVec.ofNat 256 (beNat ((wordBytes data).take 32))) }
        ∧ burnt 9 data s.sec = { s.sec with hashes := upd s.sec.hashes 4 (some n) } ∧ burnt 10 data s.sec = { s.sec with authEn := true }
        ∧ burnt 11 data s.sec = { s.sec with lcProv := true } ∧ burnt 12 data s.sec = { s.sec with lcField := true }
        ∧ burnt 13 data s.sec = { s.sec with kill := true } ∧ burnt 14 data s.sec = { s.sec with svnBits := s.sec.svnBits ||| s.sec.svnBurn }
        ∧ (s.sec.svnRun ≤ 64 → s.sec.svn ≤ s.sec.svnRun → s.sec.svnRun ≤ (burnt 14 data s.sec).svn)
        ∧ (∀ i, i < 64 → (∀ j, j ≤ i → bitOf s.sec.svnBits j = true) → i < s.sec.svn) ∧ (∀ i, i < s.sec.svn → bitOf s.sec.svnBits i = true))
    ∧ (s.sec.burn = some (14, data) → (burnCut s).sec.burn = none ∧ (burnCut s).sec.killHeld = false
        ∧ ∀ i, (bitOf s.sec.svnBits i = true → bitOf (burnCut s).sec.svnBits i = true)
          ∧ (bitOf (burnCut s).sec.svnBits i = true → bitOf s.sec.svnBits i = true ∨ (s.sec.svn ≤ i ∧ i < s.sec.svnRun)))

/-- R508 to R513, R515, R517, R535: challenge and response, by any write of DBG_CTL; the pairing key, whose wrapped form
goes to MRAM; and the test access port: what each instruction does where it is allowed, EXTEST on the pads and SCRIBE_DM's
halt and resume among it, and BYPASS where it is not. The model's own choices among its clauses are named in log entries 3,
6, 20, 86, 88, 89, 92, 93, 129 and 130. -/
def Obligations.DebugAccessAndTap : Prop :=
  ∀ (s : State) (m : Master) (v : Word) (c : Instr) (t0 off a : Nat) (write : Bool) (tdi : List Bool),
    let d := authBytes s
    let passes := s.sec.kill = false ∧ (s.sec.lc = 1 ∨ (s.sec.lc ≠ 0 ∧ s.sec.authEn = true)) ∧ s.sec.fails < 3
      ∧ s.sec.hash 4 = some (sha384 (d.take 97))
      ∧ ecdsaOk (d.take 97) (sha384 (([0x44, 0x42, 0x47, 0x31] : List Byte) ++ leBytes 8 s.sec.uid.toNat ++ wordBytes s.sec.verifying)) (slice d 128 96) = true
      ∧ s.sec.verifyAge ≤ 10000000000
    let phase := b2n s.sec.nonceAt.isSome
    let nonce := (List.range 8).map (fun w => toW (s.rd (Reg.DBG_CHAL w)))
    let verify := { s.sec with phase := 2, nonceAt := none, verifyAge := s.sched.up - t0, verifying := nonce }
    let on := s.pwr.off = false
    let reg (k : Nat) : State := { s with sec := { s.sec with ir := k } }
    let bypassed (tdi : List Bool) : State := { s with sec := { s.sec with ir := 0xFF, tdo := ([false] ++ tdi).take tdi.length } }
    let scan := on ∧ pwrState s ≠ 2 ∧ (s.level = 2 ∨ s.level = 1)
    let full := on ∧ pwrState s ≠ 2 ∧ s.level = 2
    let key := BitVec.ofNat 128 (beNat (wordBytes ((List.range 4).map (fun w => toW (s.rd (Reg.SEC_TWIN_KEY w))))))
    let wrapped := (Config.wrapKey s.sec.imgKey s.sec.uid key).toNat
    let dm (x : SecSt) : State := { s with sec := { x with ir := 0x12, tdo := [] } }
    let ctl (bits : Nat) : Option (Nat × Option Word) := some (0x10, some (toW (2 ^ 16 * t0 + bits)))
    ((c = .challenge m v ∨ c = .go m v ∨ c = .debugSessionEnd m v) → s.served Reg.DBG_CTL = true →
      (v = 1 → 3 ≤ s.sec.fails → exec c s = .next s)
      ∧ (v = 1 → s.sec.fails < 3 → ∃ t, exec c s = .next t ∧ t.sec = { s.sec with nonceAt := some s.sched.up, phase := if s.sec.phase = 2 then 2 else 1 }
          ∧ (∀ w, w < 8 → t.rd (Reg.DBG_CHAL w) = (Config.freeWord (s.freeCtr + w)).toNat) ∧ t.mem = s.mem)
      ∧ (v = 2 → exec c s = .next (if s.sec.session then { s with sec := { s.sec with session := false, dmHalted := [], dmAck := [] }
                                                                  stat := { s.stat with traceBuf := [], traceLost := 0, traceCount := 0 } } else s))
      ∧ (v = 4 → s.sec.phase = 1 → s.sec.nonceAt = some t0 → exec c s = .next { s with sec := verify })
      ∧ (v = 4 → (s.sec.phase ≠ 1 ∨ s.sec.nonceAt = none) → exec c s = .next s))
    ∧ (s.sec.phase ≠ 2 → exec .debugVerifyComplete s = .next s)
    ∧ (s.sec.phase = 2 → passes → exec .debugVerifyComplete s
        = .next (State.count { s with sec := { s.sec with phase := phase, verifying := [], session := true } } Reg.DBG_SESSION_CNT 1))
    ∧ (s.sec.phase = 2 → ¬ passes → exec .debugVerifyComplete s
        = .next (State.count { s with sec := { s.sec with phase := phase, verifying := [], fails := Nat.min (s.sec.fails + 1) 3 } } Reg.DBG_AUTH_FAIL_CNT 1))
    ∧ (s.served Reg.SEC_TWIN_KEY_CTL = true → v = 1 → s.bget Reg.TWIN_CTL 31 = true → exec (.store m v) s = .next (s.bset Reg.SEC_TWIN_KEY_CTL 30 true))
    ∧ (s.served Reg.SEC_TWIN_KEY_CTL = true → v = 1 → s.bget Reg.TWIN_CTL 31 = false → ∃ t, exec (.store m v) s = .next t
        ∧ t.sec = { s.sec with twinKey := some key, keyKept := some key } ∧ t.regs = s.regs ∧ t.scene = s.scene
        ∧ (∀ i, i < 24 → t.mem.rdByte (0x403EF0100 + i) = BitVec.ofNat 8 (wrapped / 2 ^ (8 * i)))
        ∧ ∀ x, (x < 0x403EF0100 ∨ 0x403EF0118 ≤ x) → t.mem.rdByte x = s.mem.rdByte x)
    ∧ (s.served Reg.SEC_TWIN_KEY_CTL = true → v = 0x40000000 → exec (.store m v) s = .next (s.bset Reg.SEC_TWIN_KEY_CTL 30 false))
    ∧ (s.pwr.off = true → exec (.bypass tdi) s = .next s ∧ exec (.idcode tdi) s = .next s ∧ exec (.samplePreload tdi) s = .next s
        ∧ exec (.extest tdi) s = .next s ∧ (∀ acc, exec (.scribeDm acc) s = .next s) ∧ exec (.secAuth off write v) s = .next s ∧ exec (.dbgAccess a write v) s = .next s)
    ∧ (on → exec (.bypass tdi) s = .next (bypassed tdi))
    ∧ (on → exec (.idcode tdi) s = .next { s with sec := { s.sec with ir := 0x01, tdo := ((List.range 32).map (bitOf (capCode s.variant * 2 ^ 12 + 0xB27)) ++ tdi).take tdi.length } })
    ∧ (on → scan → ∃ t, exec (.samplePreload tdi) s = .next t ∧ t.sec.ir = 0x02 ∧ t.sec.boundary = tdi ∧ t.sec.tdo.length = tdi.length ∧ t.regs = s.regs ∧ t.mem = s.mem)
    ∧ (on → ¬ scan → exec (.samplePreload tdi) s = .next (bypassed tdi))
    ∧ (on → full → s.sched.rendering = false → ∃ t, exec (.extest tdi) s = .next t ∧ t.sec.ir = 0x03 ∧ t.sec.boundary = tdi ∧ t.sec.tdo.length = tdi.length
        ∧ t.regs = s.regs ∧ t.mem = s.mem ∧ ∀ p, padPowered s p = true → padPresent s p = true → padShows t p = .level (tdi.getD (Config.scanCell p.code) false))
    ∧ (on → (¬ full ∨ s.sched.rendering = true) → exec (.extest tdi) s = .next (bypassed tdi))
    ∧ (on → full → exec (.scribeDm none) s = .next (dm s.sec))
    ∧ (on → full → exec (.scribeDm (ctl 0)) s = .next (dm { s.sec with dmActive := false, dmSel := 0, dmHalted := [], dmAck := [], dmData := 0, dmErr := 0 }))
    ∧ (on → full → t0 < 4 → ∃ t, exec (.scribeDm (ctl 0x80000001)) s = .next t ∧ t.sec.dmActive = true ∧ t.sec.dmSel = t0 ∧ t0 ∈ t.sec.dmHalted ∧ t0 ∉ t.sec.dmAck
        ∧ (∀ k, k ≠ t0 → (k ∈ t.sec.dmHalted ↔ k ∈ s.sec.dmHalted)) ∧ t.regs = s.regs ∧ t.mem = s.mem)
    ∧ (on → full → t0 < 4 → t0 ∈ s.sec.dmHalted → ∃ t, exec (.scribeDm (ctl 0x40000001)) s = .next t ∧ t.sec.dmSel = t0 ∧ t0 ∉ t.sec.dmHalted ∧ t0 ∈ t.sec.dmAck
        ∧ (∀ k, k ≠ t0 → (k ∈ t.sec.dmHalted ↔ k ∈ s.sec.dmHalted)) ∧ t.regs = s.regs ∧ t.mem = s.mem)
    ∧ (on → ¬ full → ∀ acc, exec (.scribeDm acc) s = .next (bypassed []))
    ∧ (on → scan → exec (.secAuth off true v) s = .next (regWrite .dbg (0x300000 + off % 65536) v (reg 0x10))
        ∧ exec (.secAuth off false v) s = .next (regRead .dbg (0x300000 + off % 65536) (reg 0x10)))
    ∧ (on → ¬ scan → exec (.secAuth off write v) s = .next (bypassed []))
    ∧ (on → full → 0x10000000 ≤ a → a < 0x11000000 → exec (.dbgAccess a true v) s = .next (regWrite .dbg (a - 0x10000000) v (reg 0x11))
        ∧ exec (.dbgAccess a false v) s = .next (regRead .dbg (a - 0x10000000) (reg 0x11)))
    ∧ (on → full → (0x100000000 ≤ a ∧ a < 0x400000000 ∨ 0x800000000 ≤ a ∧ a < hostBit) → exec (.dbgAccess a true v) s = .next (fabWrite a v false (reg 0x11)))
    ∧ (on → full → (0x800000000 ≤ a ∧ a < hostBit ∨ (bankOf a).isSome = true) → exec (.dbgAccess a false v) s
        = .next ((fabRead a (reg 0x11)).2.answer (fabRead a (reg 0x11)).1.1))
    ∧ (on → ¬ full → exec (.dbgAccess a write v) s = .next (bypassed []))

/-- R328 to R335, R337, R340, R341, R344, R461: a received frame, put together from its fragments where it came in several,
is judged by the first row that applies, counted, filtered, and delivered to its ring or stream. The model's own choices
among its clauses are named in log entries 3, 12, 55, 56, 57, 58, 160 and 196. -/
def Obligations.ReceivedFramesAreJudged : Prop :=
  ∀ (s : State) (p ago sub smd k0 : Nat) (bytes : List Byte) (codeErr reasmErr : Bool) (x : RxFrag) (xs : List RxFrag),
    let f := bytes.take (bytes.length - 4)
    let go := exec (.rxFrame p bytes codeErr reasmErr ago sub smd) s
    let inOrder (k : Nat) (held : List Byte) (x : RxFrag) := x.smd = nth 0 smdCont k0 ∧ x.count = nth 0 fragCode (k % 4)
      ∧ held.drop (held.length - 4) = mCrc (held.take (held.length - 4))
    let on := netPresent s p = true ∧ netEnabled s p = true ∧ netLinkUp s p = true
    let sound := 64 ≤ bytes.length ∧ bytes.length ≤ netMaxLen s p ∧ codeErr = false ∧ bytes.drop (bytes.length - 4) = leBytes 4 (crc32 f)
      ∧ (reasmErr = false ∨ p = 16)
    let peer := p ≠ 16 ∧ slice f 6 6 = macBytes (s.rd Reg.TWIN_PEER_MAC_HI % 65536) (s.rd Reg.TWIN_PEER_MAC_LO)
    let v := { s with twin := { s.twin with peerFrames := s.twin.peerFrames || decide peer } }
    let quanta := beNat (slice f 16 2)
    let ctl := beNat (slice f 12 2) = 0x8808
    let pause := ctl ∧ beNat (slice f 14 2) = 1
    let r := if isPtp f ∧ p ≠ 16 then 0 else if s.rd (ringReg p false 1 8) ≠ 0 then 1 else 0
    let toStream := (p = 16 ∨ isPtp f = false) ∧ (streamOf v p f).isSome = true
    (¬ on → go = .next s)
    ∧ (on → bytes.length < 64 → go = .next (s.count (netReg p 0x404) 1))
    ∧ (on → 64 ≤ bytes.length → netMaxLen s p < bytes.length → go = .next (s.count (netReg p 0x408) 1))
    ∧ (on → 64 ≤ bytes.length → bytes.length ≤ netMaxLen s p → (codeErr = true ∨ bytes.drop (bytes.length - 4) ≠ leBytes 4 (crc32 f)) →
        go = .next (s.count (netReg p 0x40C) 1))
    ∧ (on → 64 ≤ bytes.length → bytes.length ≤ netMaxLen s p → codeErr = false → bytes.drop (bytes.length - 4) = leBytes 4 (crc32 f) →
        reasmErr = true → p ≠ 16 → go = .next (s.count (netReg p 0x410) 1))
    ∧ (on → sound → ctl → ¬ pause → go = .next (v.count (netReg p 0x414) 1))
    ∧ (on → sound → pause → s.bget (netReg p 4) 26 = true → go = .next (v.count (netReg p 0x420) 1))
    ∧ (on → sound → pause → s.bget (netReg p 4) 26 = false → s.bget (netReg p 0) 2 = false → go = .next (v.count (netReg p 0x41C) 1))
    ∧ (on → sound → pause → s.bget (netReg p 4) 26 = false → s.bget (netReg p 0) 2 = true → ∃ t, go = .next t ∧ (t.netSt p).pauseQ = quanta ∧ (t.netSt p).pauseAt = s.sched.up
        ∧ t.bget (netReg p 4) 27 = decide (quanta ≠ 0) ∧ t.rd (netReg p 0x41C) = Nat.min (s.rd (netReg p 0x41C) + 1) 0xFFFFFFFF ∧ t.mem = s.mem)
    ∧ (on → sound → ¬ ctl → passesFilter s p f = false → go = .next (v.count (netReg p 0x414) 1))
    ∧ (on → sound → ¬ ctl → passesFilter s p f = true → ¬ toStream → ringOwned s p false r = false → go = .next (v.count (netReg p 0x418) 1))
    ∧ (on → sound → ¬ ctl → passesFilter s p f = true → ¬ toStream → ringOwned s p false r = true → f.length ≤ s.rd (ringReg p false r 0xC) → p < 17 →
        ∃ t, go = .next t ∧ t.rd (ringReg p false r 0x10) = (s.rd (ringReg p false r 0x10) + 1) % s.rd (ringReg p false r 8)
          ∧ t.rd (netReg p 0x400) = Nat.min (s.rd (netReg p 0x400) + 1) 0xFFFFFFFF ∧ t.rd (netReg p 0x418) = s.rd (netReg p 0x418)
          ∧ t.scene = s.scene)
    ∧ (∀ n sec k, on → sound → ¬ ctl → passesFilter s p f = true → (p = 16 ∨ isPtp f = false) → streamOf v p f = some (n, sec, k) →
        go = .next (streamIn n sec k (rxOk p (f.length + 4) v)))
    ∧ (k0 < 4 → smd = nth 0 smdStart k0 → inOrder 0 bytes x → exec (.rxFrame p bytes codeErr reasmErr ago sub smd [x]) s
        = exec (.rxFrame p (f ++ x.bytes) codeErr reasmErr ago sub) s)
    ∧ (k0 < 4 → smd = nth 0 smdStart k0 → (∃ ys y zs held, x :: xs = ys ++ y :: zs
          ∧ held = ys.foldl (fun held y => held.take (held.length - 4) ++ y.bytes) bytes ∧ ¬ inOrder ys.length held y) →
        ∃ whole, exec (.rxFrame p bytes codeErr reasmErr ago sub smd (x :: xs)) s = exec (.rxFrame p whole codeErr true ago sub) s)
    ∧ (smd ∉ smdStart → ∃ whole, exec (.rxFrame p bytes codeErr reasmErr ago sub smd (x :: xs)) s = exec (.rxFrame p whole codeErr true ago sub) s)

/-- R325 to R327, R333, R336 to R345: what a port sends next, preemption, the link, the rings' TAIL, PAUSE and its
watchdog, the shapers' slopes, and the management port's MDIO. The model's own choices among its clauses are named in log
entries 3, 12, 59, 120, 159 and 161. -/
def Obligations.TransmitLinkAndManagement : Prop :=
  ∀ (s : State) (m : Master) (p n c sub : Nat) (v : Word) (lock an full ok tx : Bool) (d : BitVec 16) (f : TxFrame) (g : Nat × List Byte) (gs : List (Nat × List Byte)),
    let x := s.netSt p
    let on := netPresent s p = true ∧ netEnabled s p = true ∧ x.halted = false
    let settled := s.setNet p { x with credit := (List.range 4).map (creditNow s p), creditAt := s.sched.up }
    let quietRings := ringOwned s p true 0 = false ∧ ringOwned s p true 1 = false
    let ring1 := endFrame p (settleCredit p s)
    let h := headDesc ring1 p 1
    let tail := ringReg p tx n 0x14
    let rest : TxFrame := { f with sent := f.sent + n }
    let e := expressReady p settled
    let cuts := p < capMedia s.variant ∧ s.fget (netReg p 4) 29 28 = 2 ∧ f.express = false ∧ 60 ≤ n ∧ f.sent + n + 64 ≤ f.bytes.length
      ∧ e.1 = true ∧ x.pauseQ = 0
    let form := s.fget (netReg p 0) 17 16
    let coded := s.setNet p { x with lock := lock, anDone := an, gigFull := full }
    let link := lock && (p == 16 || decide (form < 2) || !s.bget (netReg p 0) 5 || (an && (form == 2 || full)))
    let passed := x.pauseQ * 512 * 1000000 ≤ (s.sched.up - x.pauseAt) * netRate s p
    let ms := s.fget (netReg p 0x20) 15 0
    let due := x.heldFrom + ms * 1000000
    let long := ms ≠ 0 ∧ due ≤ s.sched.up ∧ (due - x.pauseAt) * netRate s p ≤ x.pauseQ * 512 * 1000000
    let slopes := upd ((List.range 4).map (slopeOf s p)) c (v.toNat % 2 ^ 24)
    (¬ on → exec (.txFrameSelect p sub) s = .next s)
    ∧ (on → x.wire = none → quietRings → (x.pauseQ ≠ 0 ∨ netLinkUp s p = false ∨ (readyClass settled p = none ∧ x.cut = none)) →
        exec (.txFrameSelect p sub) s = .next settled)
    ∧ (on → x.wire = none → quietRings → x.pauseQ = 0 → netLinkUp s p = true → readyClass settled p = some c → nth [] x.cls c = g :: gs →
        ∃ t, exec (.txFrameSelect p sub) s = .next t ∧ (t.netSt p).wire = some ⟨wireFrame g.2, c + 2, true, g.1, 0⟩ ∧ (t.netSt p).cls = upd x.cls c gs
          ∧ t.regs = s.regs ∧ t.mem = s.mem ∧ ∀ j, j ≠ p → t.netSt j = s.netSt j)
    ∧ (on → x.wire = none → quietRings → x.pauseQ = 0 → netLinkUp s p = true → readyClass settled p = none → x.cut = some f →
        ∃ t, exec (.txFrameSelect p sub) s = .next t ∧ (t.netSt p).wire = some f ∧ (t.netSt p).cut = none
          ∧ t.rd (netReg p 0x430) = Nat.min (s.rd (netReg p 0x430) + 1) 0xFFFFFFFF ∧ t.mem = s.mem)
    ∧ (on → x.wire = some f → 2 ≤ f.src → quietRings → x.pauseQ ≠ 0 → p < 17 → ∃ t, exec (.txFrameSelect p sub) s = .next t ∧ (t.netSt p).wire = none
        ∧ t.rd (netReg p 0x428) = Nat.min (s.rd (netReg p 0x428) + 1) 0xFFFFFFFF ∧ t.mem = s.mem)
    ∧ (on → ringOwned ring1 p true 0 = false → ringOwned ring1 p true 1 = true → netLinkUp ring1 p = true → getF h.1.1 29 14 = 0 → h.1.1 % 2 ^ 14 ≠ 0 →
        h.1.1 % 2 ^ 14 + 4 ≤ netMaxLen h.2 p → (h.2.netSt p).pauseQ = 0 → netLinkUp h.2 p = true → readyClass h.2 p = none → (h.2.netSt p).cut = none →
        exec (.txFrameSelect p sub) s = .next (startRing p 1 sub h.1 h.2))
    ∧ (x.wire = some f → cuts → exec (.preempt p n sub) s = exec (.txFrameSelect p sub) (e.2.setNet p { e.2.netSt p with wire := none, cut := some rest }))
    ∧ (f.src = 0 ∨ (∃ y, x.cut = some y ∧ y.src = 0) → x.wire = some f → e = ((readyClass settled p).isSome, settled))
    ∧ (x.wire = some f → f.src ≠ 0 → (∀ y, x.cut = some y → y.src ≠ 0) →
        e.2 = (ringReady p 0 4096 settled).2 ∧ (e.1 = true ↔ (readyClass settled p).isSome = true ∨ ∃ d, (ringReady p 0 4096 settled).1 = some d ∧ bitOf d.1 30 = true))
    ∧ (x.wire = some f → cuts → f.src < 2 → on → netLinkUp s p = true → quietRings → readyClass settled p = some c → nth [] x.cls c = g :: gs →
        ∃ t, exec (.preempt p n sub) s = .next t ∧ (t.netSt p).wire = some ⟨wireFrame g.2, c + 2, true, g.1, 0⟩ ∧ (t.netSt p).cut = some rest
          ∧ (t.netSt p).cls = upd x.cls c gs ∧ t.regs = s.regs ∧ t.mem = s.mem ∧ ∀ j, j ≠ p → t.netSt j = s.netSt j)
    ∧ ((x.wire = none ∨ (x.wire = some f ∧ ¬ cuts)) → exec (.preempt p n sub) s = .next s)
    ∧ (p < capMedia s.variant → netLinkUp s p = true → s.fget (netReg p 4) 29 28 = 1 →
        exec (.preemptVerify p ok) s = .next (s.fset (netReg p 4) 29 28 (if ok then 2 else 3)))
    ∧ ((netLinkUp s p = false ∨ s.fget (netReg p 4) 29 28 ≠ 1) → exec (.preemptVerify p ok) s = .next s)
    ∧ (netPresent s p = false → exec (.netLink p lock an full) s = .next s)
    ∧ (netPresent s p = true → netLinkUp s p = link → exec (.netLink p lock an full) s = .next coded)
    ∧ (netPresent s p = true → netLinkUp s p ≠ link → ∃ t, exec (.netLink p lock an full) s = .next t ∧ netLinkUp t p = link ∧ t.bget (netReg p 4) 30 = true
        ∧ t.rd (netReg p 0x434) = Nat.min (s.rd (netReg p 0x434) + 1) 0xFFFFFFFF
        ∧ (link = false → (t.netSt p).wire = none ∧ (t.netSt p).cut = none ∧ (t.netSt p).cls = [[], [], [], []])
        ∧ (link = true → t.net = coded.net) ∧ (s.coreOn = true → t.bget (Reg.EVT_PEND 1) 0 = true))
    ∧ (p ≤ 16 → n < 2 → s.served tail = true → (m ≠ .host ∨ n = 1) → exec (.ringTailWrite m tail v) s = .next (s.wr tail (v.toNat % 4096)))
    ∧ (p ≤ 16 → n = 0 → exec (.ringTailWrite .host tail v) s = .next s)
    ∧ (netPresent s p = true → x.pauseQ ≠ 0 → passed → exec (.pauseTimerExpiry p) s
        = .next ((settled.setNet p { settled.netSt p with pauseQ := 0 }).bset (netReg p 4) 27 false))
    ∧ (¬ passed → exec (.pauseTimerExpiry p) s = .next s)
    ∧ (x.pauseQ = 0 → exec (.pauseTimerExpiry p) s = .next s ∧ exec (.netPauseWd p) s = .next s)
    ∧ (netPresent s p = true → x.pauseQ ≠ 0 → long → ∃ t, exec (.netPauseWd p) s = .next t ∧ (t.netSt p).pauseQ = 0
        ∧ (t.netSt p).holdEnd = s.sched.up + s.fget (netReg p 0x20) 31 16 * 1000000
        ∧ t.bget (netReg p 4) 27 = false ∧ t.bget (netReg p 4) 26 = true ∧ t.bget (netReg p 4) 25 = true
        ∧ t.rd (netReg p 0x424) = Nat.min (s.rd (netReg p 0x424) + 1) 0xFFFFFFFF)
    ∧ (¬ long → exec (.netPauseWd p) s = .next s)
    ∧ (netPresent s p = true → x.holdEnd ≤ s.sched.up → exec (.pauseHoldoffEnd p) s = .next (s.bset (netReg p 4) 26 false))
    ∧ (s.sched.up < x.holdEnd → exec (.pauseHoldoffEnd p) s = .next s)
    ∧ (p < capMedia s.variant → c < 4 → s.booted = true →
        (9 * netRate s p < 10 * slopes.foldl (· + ·) 0 → exec (.netCbsSlopeWrite m p c v) s = .next (s.bset (netReg p 4) 24 true))
        ∧ (10 * slopes.foldl (· + ·) 0 ≤ 9 * netRate s p → exec (.netCbsSlopeWrite m p c v) s = .next (settled.wr (Reg.NET_CBS_SLOPE p c) (v.toNat % 2 ^ 24))))
    ∧ (s.served Reg.MGMT_MDIO = true → s.bget Reg.MGMT_MDIO 31 = true → exec (.mgmtMdioWrite m v) s = .next s)
    ∧ (s.served Reg.MGMT_MDIO = true → s.bget Reg.MGMT_MDIO 31 = false → ∃ t, exec (.mgmtMdioWrite m v) s = .next t ∧ t.bget Reg.MGMT_MDIO 31 = true
        ∧ t.bget Reg.MGMT_MDIO 30 = bitOf v.toNat 30 ∧ t.fget Reg.MGMT_MDIO 25 0 = v.toNat % 2 ^ 26 ∧ t.mem = s.mem)
    ∧ (s.bget Reg.MGMT_MDIO 31 = true → s.bget Reg.MGMT_MDIO 30 = false → exec (.mdioTransactionComplete d) s = .next (s.bset Reg.MGMT_MDIO 31 false))
    ∧ (s.bget Reg.MGMT_MDIO 31 = true → s.bget Reg.MGMT_MDIO 30 = true → exec (.mdioTransactionComplete d) s
        = .next ((s.bset Reg.MGMT_MDIO 31 false).fset Reg.MGMT_MDIO 15 0 d.toNat))
    ∧ (s.bget Reg.MGMT_MDIO 31 = false → exec (.mdioTransactionComplete d) s = .next s)

/-- R349 to R364: packets of a live stream are placed by their media time; a block is finalised frame by frame, a missing
frame fading the stream out and a present one in; a path times out; a ring in DRAM is cleared; a packet is handed to its
ports. The model's own choices among its clauses are named in log entries 3, 12, 52, 53 and 54. -/
def Obligations.StreamsAreFinalisedAndSent : Prop :=
  ∀ (s : State) (n q k : Nat) (sec gate : Bool) (acc : FinAcc),
    let x := s.srx n
    let g := gateOpen s n
    let a := (List.range s.blockLen).foldl (fun a i => finFrame n (rxChannels s n) (g && !(x.since == s.bn)) a (s.bn * s.blockLen + i))
      ⟨s, x.miss, x.fin, x.hold, 0, false, false⟩
    let r := finFrame n k gate acc q
    let pres := wordsPresent (frameWords n q k acc.st).1 && gate
    let fin := if pres = true ∧ 0 < acc.miss then 32 else acc.fin
    let y := s.stx n
    let c := s.rd (Reg.STRM_TX_CTL n)
    let f := s.fget (Reg.STRM_TX_PKT n) 24 16
    let rtp := getF c 29 28 == 2
    let payload := (y.frames.take f).flatMap (fun fr => fr.flatMap (wireSample (getF c 29 28)))
    let frame (p : Nat) (sec : Bool) : List Byte := if rtp then rtpFrame s n p y.seq y.first sec payload else aafFrame s n p y.seq y.first payload
    let sent := s.setStx n ⟨y.first + f, y.frames.drop f, (y.seq + 1) % (if rtp then 65536 else 256)⟩
    let last := if sec then x.lastSec else x.lastPri
    (s.strm.done = true → exec .streamFinalisation s = .next s)
    ∧ (s.strm.done = false → liveRx s = [] → s.strm.open' = [] → exec .streamFinalisation s = .next { s with strm := { s.strm with done := true } })
    ∧ (s.strm.done = false → liveRx s = [n] → rxGroup s n = 0 → s.strm.open' = [] → ∃ t, exec .streamFinalisation s = .next t ∧ t.strm.done = true
        ∧ (t.srx n).miss = a.miss ∧ (t.srx n).fin = a.fin ∧ (t.srx n).hold = a.hold ∧ t.bget (Reg.STRM_RX_STATUS n) 27 = decide (0 < a.miss)
        ∧ (g = true → t.rd (Reg.STRM_RX_MISS_CNT n) = Nat.min (s.rd (Reg.STRM_RX_MISS_CNT n) + a.missed) 0xFFFFFFFF)
        ∧ (g = false → t.rd (Reg.STRM_RX_MISS_CNT n) = s.rd (Reg.STRM_RX_MISS_CNT n))
        ∧ (a.started = true → s.coreOn = true → t.bget (Reg.EVT_PEND 1) 8 = true) ∧ t.scene = s.scene)
    ∧ (r.miss = (if pres then 0 else Nat.min (acc.miss + 1) 32) ∧ r.fin = (if pres = true ∧ 0 < fin then fin - 1 else fin)
        ∧ r.missed = acc.missed + b2n (!pres) ∧ (pres = false → r.hold = (List.range k).map (fun c => nth 0 acc.hold c)))
    ∧ (∀ b, last = some b → b + 16 ≤ s.bn → s.bget (Reg.STRM_RX_STATUS n) (if sec then 28 else 29) = true → exec (.streamPathTimeout n sec) s
        = .next (fire 0x29 n (s.bset (Reg.STRM_RX_STATUS n) (if sec then 28 else 29) false)))
    ∧ ((last = none ∨ (∃ b, last = some b ∧ s.bn < b + 16) ∨ s.bget (Reg.STRM_RX_STATUS n) (if sec then 28 else 29) = false) →
        exec (.streamPathTimeout n sec) s = .next s)
    ∧ (x.clearing = true → ∃ t, exec (.spillRingClearDone n) s = .next t ∧ t.srx n = { x with clearing := false } ∧ t.sched = s.sched)
    ∧ (x.clearing = false → exec (.spillRingClearDone n) s = .next s)
    ∧ (n < 1024 → txLive s n = true → 0 < f → f ≤ y.frames.length → transmits s = false → exec (.streamPacketHandoff n) s = .next sent)
    ∧ (n < 1024 → txLive s n = true → 0 < f → f ≤ y.frames.length → transmits s = true → exec (.streamPacketHandoff n) s
        = .next (let t := handPort n (getF c 19 16) (frame (getF c 19 16) false) sent
                 if bitOf c 27 then handPort n (getF c 15 12) (frame (getF c 15 12) true) t else t))
    ∧ ((1024 ≤ n ∨ txLive s n = false ∨ f = 0 ∨ y.frames.length < f) → exec (.streamPacketHandoff n) s = .next s)
    ∧ (let u := s.count (Reg.STRM_TX_PKT_CNT n) 1
       let bs := frame q false
       n < 1024 → q < 16 → ((netEnabled s q = false ∨ netLinkUp s q = false ∨ (s.netSt q).halted = true) → handPort n q bs s = u.count (Reg.STRM_TX_DROP_CNT n) 1)
        ∧ (netEnabled s q = true → netLinkUp s q = true → (s.netSt q).halted = false → netMaxLen s q < bs.length + 4 →
            handPort n q bs s = (u.count (Reg.STRM_TX_DROP_CNT n) 1).bset (Reg.STRM_TX_STATUS n) 29 true)
        ∧ (netEnabled s q = true → netLinkUp s q = true → (s.netSt q).halted = false → bs.length + 4 ≤ netMaxLen s q →
            ((handPort n q bs s).netSt q).cls = upd (s.netSt q).cls (getF c 25 24) (nth [] (s.netSt q).cls (getF c 25 24) ++ [(n, bs)])))

/-- R21, R370 to R384, R401: the TDM ports: the enable and its refusal, frames received in each mode under the mask they
began with, frames sent, whose words follow when their block is sealed, the masks' hand-over, an absent frame sync and the
end of a rate gate. The model's own choices among its clauses are named in log entries 3, 46, 47, 48, 60, 61, 62, 63, 64,
65, 66, 67, 156, 158 and 176. -/
def Obligations.TdmPortsMoveFrames : Prop :=
  ∀ (s : State) (m : Master) (p st : Nat) (v : Word) (slots : List Word) (late : Bool) (phase : Int),
    let a := Reg.TDM_STATUS p
    let t := s.tdm p
    let on := tdmOn s p = true
    let ctl := s.wr (Reg.TDM_CTL p) (v.toNat &&& 0x7FC3003F)
    let fields := if tdmMaster ctl p then ctl.wr (Reg.TDM_PHASE p) 0 else ctl
    let up := s.bset a 27 true
    let words := slots.map (slotWord (tdmWidth s p))
    let put (x : Nat) (mask : Nat) (s' : State) : State := (List.range (tdmSlots s p)).foldl (fun s c =>
      storeWord (tdmAddr s p false x c) (if bitOf mask c then toW (nth 0 words c / 2 * 2 + 1) else 0) false s) s'
    let mst := s.time.mst
    let fault (t' : State) : Prop := tdmState t' p = 1 ∧ t'.bget a 28 = true ∧ t'.bget a 18 = true ∧ (t'.tdm p).good = 0 ∧ (t'.tdm p).nextM = none
      ∧ t'.rd (Reg.TDM_SYNC_FAULT_CNT p) = Nat.min (s.rd (Reg.TDM_SYNC_FAULT_CNT p) + 1) 0xFFFFFFFF
    let may := tdmMode s p = 0 ∧ tdmMaster s p = false ∧ (tdmState s p = 2 ∨ tdmState s p = 1 ∧ s.bget a 28 = false)
    let e := { t with begun := t.begun.drop 1 }
    let mask := t.begun.head?.getD t.rxMask
    let locked := (up.bset a 28 false).setTdm p { e with rxM := some mst }
    let slipped := up.setTdm p { e with rxM := some mst }
    let ph := wrapPhase s.fs phase
    let zeros := (List.range (tdmSlots s p)).map (fun c => if bitOf t.txMask c then some (0 : Word) else none)
    let z := s.reach (s.slot 392000 325000)
    let rate := if tdmMaster s p then s.fs * 65536 else st % 2 ^ 64
    let inTol := !ppmApart rate (s.fs * 65536) (s.fget (Reg.TDM_SYNC_TOL p) 15 0)
    (p < 32 → s.served (Reg.TDM_CTL p) = true → s.bget (Reg.TDM_CTL p) 31 = false → bitOf v.toNat 31 = false → exec (.tdmEnableWrite m p v) s = .next fields)
    ∧ (p < 32 → s.served (Reg.TDM_CTL p) = true → s.bget (Reg.TDM_CTL p) 31 = false → bitOf v.toNat 31 = true → tdmOk fields p = false →
        exec (.tdmEnableWrite m p v) s = .next (fields.bset a 29 true))
    ∧ (p < 32 → s.served (Reg.TDM_CTL p) = true → s.bget (Reg.TDM_CTL p) 31 = false → bitOf v.toNat 31 = true → tdmOk fields p = true →
        ∃ t', exec (.tdmEnableWrite m p v) s = .next t' ∧ t'.bget (Reg.TDM_CTL p) 31 = true ∧ t'.bget a 29 = false ∧ t'.bget a 28 = false
          ∧ tdmState t' p = (if tdmMaster fields p = false ∧ tdmMode fields p = 0 then 1 else 2)
          ∧ (t'.tdm p).rxMask = s.rd (Reg.TDM_RX_MASK p) ∧ (t'.tdm p).txMask = s.rd (Reg.TDM_TX_MASK p) ∧ (t'.tdm p).start = (s.bn + 1) * s.blockLen
          ∧ (t'.tdm p).pendRx = keepPend s t.pendRx ∧ (t'.tdm p).pendTx = keepPend s t.pendTx
          ∧ t'.scene = s.scene)
    ∧ (p < 32 → s.served (Reg.TDM_CTL p) = true → s.bget (Reg.TDM_CTL p) 31 = true → bitOf v.toNat 31 = false → ∃ t', exec (.tdmEnableWrite m p v) s = .next t'
        ∧ t'.bget (Reg.TDM_CTL p) 31 = false ∧ tdmState t' p = 0 ∧ t'.tdm p = freshTdm p s ∧ t'.grp (2 * p) = RsGroup.reset ∧ t'.grp (2 * p + 1) = RsGroup.reset
        ∧ t'.mem = s.mem)
    ∧ (p < 32 → s.served (Reg.TDM_CTL p) = true → s.bget (Reg.TDM_CTL p) 31 = true → bitOf v.toNat 31 = true → tdmState s p ≠ 3 →
        exec (.tdmEnableWrite m p v) s = .next s)
    ∧ (¬ on → exec (.tdmRxFrame p slots true phase) s = .next s ∧ exec (.tdmTxFrame p late) s = .next s ∧ exec (.fsAbsent p) s = .next s
        ∧ exec (.tdmRateGateEnd p st) s = .next s)
    ∧ (on → tdmState s p = 3 → tdmMode s p ≠ 2 → exec (.tdmRxFrame p slots true phase) s = .next (up.setTdm p e))
    ∧ (on → tdmState s p = 3 → tdmMode s p = 2 → exec (.tdmRxFrame p slots true phase) s
        = .next (put t.rxCount 0 (up.setTdm p { e with rxCount := t.rxCount + 1 })))
    ∧ (on → tdmState s p ≠ 3 → tdmMode s p = 0 → tdmMaster s p = true → t.start ≤ mst → t.resume ≤ mst →
        exec (.tdmRxFrame p slots true phase) s = .next (if frameOpen mst s then put mst (maskAt t mst) locked else locked))
    ∧ (on → tdmState s p ≠ 3 → tdmMode s p = 1 → t.start ≤ mst → t.rxM ≠ some mst → exec (.tdmRxFrame p slots true phase) s
        = .next (if frameOpen mst s then put mst mask slipped else slipped))
    ∧ (on → tdmState s p ≠ 3 → tdmMode s p = 2 → t.start ≤ mst → exec (.tdmRxFrame p slots true phase) s
        = .next (put t.rxCount mask (up.setTdm p { e with rxCount := t.rxCount + 1 })))
    ∧ (on → tdmState s p ≠ 3 → tdmMode s p = 0 → tdmMaster s p = false → t.nextM = none → (t.good < 15 ∨ t.gateOk = false) →
        exec (.tdmRxFrame p slots true phase) s = .next (up.setTdm p { e with good := t.good + 1 }))
    ∧ (on → tdmState s p ≠ 3 → tdmMode s p = 0 → tdmMaster s p = false → t.nextM = none → 15 ≤ t.good → t.gateOk = true →
        ∃ t', exec (.tdmRxFrame p slots true phase) s = .next t' ∧ tdmState t' p = 2 ∧ (t'.tdm p).nextM = some (mst + 1) ∧ (t'.tdm p).phase = ph ∧ t'.rd (Reg.TDM_PHASE p) = uns 32 ph
          ∧ ph ≤ 0 ∧ -(16000000000 : Int) < ph * (s.fs : Int) ∧ t'.mem = s.mem)
    ∧ (on → ∃ t', exec (.tdmRxFrame p slots false phase) s = .next t' ∧ (t'.tdm p).good = 0 ∧ (tdmMode s p ≠ 0 → t'.mem = s.mem)
        ∧ t'.rd (Reg.TDM_FRAME_ERR_CNT p) = Nat.min (s.rd (Reg.TDM_FRAME_ERR_CNT p) + 1) 0xFFFFFFFF)
    ∧ (on → ∃ t', exec (.tdmTxFrame p late) s = .next t' ∧ (t'.tdm p).txM = some (mst + 1) ∧ (t'.tdm p).wire.length = tdmSlots s p ∧ t'.bget a 27 = true
        ∧ (s.twin.floating = true → (t'.tdm p).wire = List.replicate (tdmSlots s p) none)
        ∧ (s.twin.floating = false → tdmState s p = 3 → t.pendTx = none → (t'.tdm p).wire = zeros)
        ∧ (if s.sched.rendering = true ∧ tdmMode s p ≠ 2 ∧ s.bn < (mst + 1) / s.blockLen
            then (t'.tdm p).txWait = some (mst + 1) ∧ (s.twin.floating = false → t.pendTx = none → (t'.tdm p).wire = zeros) else (t'.tdm p).txWait = none)
        ∧ (t'.tdm p).begun.getLast? = some (t'.tdm p).rxMask
        ∧ (∀ x k, t.pendRx = some (x, k) → (late = false ∨ tdmMode s p = 0) → if x ≤ mst + 1 then (t'.tdm p).rxMask = k ∧ (t'.tdm p).pendRx = none
            else (t'.tdm p).rxMask = t.rxMask ∧ (t'.tdm p).pendRx = t.pendRx)
        ∧ (late = true → tdmMode s p ≠ 0 → (t'.tdm p).rxMask = t.rxMask ∧ (t'.tdm p).pendRx = t.pendRx ∧ (t'.tdm p).pendTx = t.pendTx))
    ∧ ((s.sched.rendering = false ∨ s.sched.verdictDone = false) → exec .tdmMaskHandoff s = .next s)
    ∧ (s.sched.rendering = true → s.sched.verdictDone = true → s.cond.handed = true → exec .tdmMaskHandoff s = .next z)
    ∧ (s.sched.rendering = true → s.sched.verdictDone = true → s.cond.handed = false → ∃ t', exec .tdmMaskHandoff s = .next t' ∧ t'.cond.handed = true
        ∧ t'.regs = z.regs ∧ t'.mem = z.mem ∧ ∀ j, j < 32 → ∀ w,
          (maskItem (Reg.TDM_RX_MASK j) ((z.sched.commits.filter (fun c => goesAt (s.bn + 1) c z)).flatMap (fun c => c.items)) = some w →
            (t'.tdm j).pendRx = some ((s.bn + 1) * s.blockLen, w))
          ∧ (maskItem (Reg.TDM_TX_MASK j) ((z.sched.takes.filter (fun k => k.stage == 3 && k.bn == s.bn + 1)).map (fun k => k.item)) = some w →
            (t'.tdm j).pendTx = some ((s.bn + 1) * s.blockLen, w)))
    ∧ (on → tdmMaster s p = false → s.bget a 27 = true → may → ∃ t', exec (.fsAbsent p) s = .next t' ∧ fault t'
        ∧ t'.bget a 27 = false)
    ∧ (on → tdmMaster s p = false → s.bget a 27 = true → ¬ may →
        exec (.fsAbsent p) s = .next ((s.bset a 27 false).setTdm p { t with good := 0 }))
    ∧ ((tdmMaster s p = true ∨ s.bget a 27 = false) → exec (.fsAbsent p) s = .next s)
    ∧ (on → ∃ t', exec (.tdmRateGateEnd p st) s = .next t' ∧ t'.rd64 (Reg.TDM_RATE_LO p) = rate % 2 ^ 64 ∧ (t'.tdm p).gateOk = inTol
        ∧ t'.fget a 26 25 = familyOf rate
        ∧ (may → inTol = false → fault t') ∧ ((¬ may ∨ inTol = true) → tdmState t' p = tdmState s p))

/-- R415 to R422, R424 to R431, R436 to R440: units of DRAM are requested, queued, chosen, read and written with poison,
corrections, errors and write-backs, also while a rank migrates; refreshes are owed by every rank in use, issued and
forced; a temperature moves the refresh rate; the ports' rises are counted. The model's own choices among its clauses are
named in log entries 3, 7, 131, 132, 164, 165, 166, 167 and 173. -/
def Obligations.DramWordsAndRefresh : Prop :=
  ∀ (s : State) (a e j fails c r port mu : Nat) (arr : List DramArr) (ready us : List Nat) (d : DramArr) (q : DramReq) (temp : BitVec 16) (spare : Bool),
    let k := s.ddrSt c
    let u := unitOfAddr d.a
    let be (i : Nat) : BitVec 4 := (nth (0, 0) d.words i).1
    let dat (i : Nat) : Word := (nth (0, 0) d.words i).2
    let old (i : Nat) : Word := s.mem.rdWord (u + 4 * i)
    let idle := k.rq = [] ∧ k.wq = [] ∧ k.wait = []
    let z : State := { s with dramOut := [] }
    let n := match k.refAt with | some x => (s.sched.up - x) / (if s.bget (Reg.DDR_STATUS c) 27 then 1950 else 3900) | none => 1
    let last := match k.refAt with | some x => x + n * (if s.bget (Reg.DDR_STATUS c) 27 then 1950 else 3900) | none => s.sched.up
    let spareIn := s.bget (Reg.DDR_STATUS c) 28 = true ∨ k.migRank ≠ none
    let open' := 2 ≤ ddrState s c ∧ ddrPaused s c = false
    let here := inDram s.variant d.a = true ∧ ddrOf s.variant d.a = c
    let some' := ∃ i, i < 16 ∧ be i ≠ 0
    let goes := here ∧ idle ∧ open' ∧ ready.contains k.nextSeq = true ∧ some' ∧ (d.port < 3 ∨ copyWants s c = false)
    let badAt (i : Nat) := s.mem.bad.contains (u + 4 * i)
    let ok (i : Nat) : Prop := badAt i = false ∧ k.ceWords.contains (u + 4 * i) = false ∧ k.ueWords.contains (u + 4 * i) = false
    let clean := ∀ i, i < 16 → ok i
    let syn (n : Nat) : List Nat := List.replicate j 0 ++ [n]
    let up1 (o : Nat) : Nat := Nat.min (s.rd o + 1) 0xFFFFFFFF
    let rs := candidates s c ready k.rq
    let wb (b : List Nat) : List Nat := if b.contains u = true then b else b ++ [u]
    let free := open' ∧ outranked s c ready 6 = false
    let s1 := arr.foldl arrive z
    let there := present s.variant (Reg.DDR_CTL c) = true
    let forced := (s.ddrSt c).forcing.contains r = true ∨ s.fget (Reg.DDR_REF c) 2 0 < owed s c r
    let tp := packTemp s c temp
    (mu < 134217728 → c < (if s.variant = .el9630 then 1 else 2) → r < activeRanks s.variant → inDram s.variant (unitAddr s.variant c r mu) = true
        ∧ (dramLoc s.variant (unitAddr s.variant c r mu)).ctl = c ∧ (dramLoc s.variant (unitAddr s.variant c r mu)).rank = r
        ∧ (dramLoc s.variant (unitAddr s.variant c r mu)).sub = mu % 2 ∧ (dramLoc s.variant (unitAddr s.variant c r mu)).byte = 0)
    ∧ (inDram s.variant d.a = false → idle → (d.wr = true → exec (.dramWrite c [d] ready [] fails spare) s = .next z)
        ∧ (d.wr = false → some' → ∃ t, exec (.dramRead c [d] ready []) s = .next t ∧ t.readData = 0 ∧ t.readEP = false
          ∧ t.dramUnit = List.replicate 16 (0, false) ∧ t.mem = s.mem ∧ t.regs = s.regs ∧ t.ddr = s.ddr))
    ∧ (here → ddrState s c < 2 → some' → ∃ t, exec (.dramRead c [d] ready []) s = .next t ∧ t.mem = s.mem ∧ t.regs = s.regs
        ∧ (t.ddrSt c).wait.length = k.wait.length + 1 ∧ (t.ddrSt c).rq = k.rq ∧ (t.ddrSt c).wq = k.wq)
    ∧ (choose s1 c ready = none → exec (.dramRead c arr ready []) s = .next s1 ∧ exec (.dramWrite c arr ready [] fails spare) s = .next s1)
    ∧ (choose s1 c ready = some q → (q.wr = true → exec (.dramRead c arr ready []) s = .next s1)
        ∧ (q.wr = false → exec (.dramRead c arr ready []) s = .next (issueRead c q [] s1) ∧ exec (.dramWrite c arr ready [] fails spare) s = .next s1))
    ∧ (goes → d.wr = false → clean → ∃ t, exec (.dramRead c [d] ready []) s = .next t ∧ t.dramUnit = (List.range 16).map (fun i => (old i, false))
        ∧ t.readEP = false ∧ (∀ i, i < 16 → be i ≠ 0 → (∀ h, h < i → be h = 0) → t.readData = old i) ∧ t.mem = s.mem ∧ t.regs = s.regs
        ∧ (t.ddrSt c).rq = [] ∧ (t.ddrSt c).slots = k.slots + 1)
    ∧ (goes → d.wr = false → j < 16 → badAt j = true → (∀ i, i < 16 → i ≠ j → ok i) → ∃ t, exec (.dramRead c [d] ready []) s = .next t
        ∧ nth (0, false) t.dramUnit j = (old j, true) ∧ (d.port ≠ 3 → t.readEP = decide (be j ≠ 0)) ∧ (d.port = 3 → be j ≠ 0 → t.readFault = true ∧ t.readData = s.readData)
        ∧ t.rd (Reg.DDR_POISON_CNT c) = up1 (Reg.DDR_POISON_CNT c)
        ∧ t.rd (Reg.DDR_ERR_LAST_LO c) = (u + 4 * j - 0x800000000) % 2 ^ 32 ∧ t.bget (Reg.DDR_ERR_LAST_HI c) 31 = true
        ∧ (k.ueBlock = false → s.coreOn = true → t.bget (Reg.EVT_PEND 1) 20 = true) ∧ (t.ddrSt c).ueBlock = true ∧ t.scene = s.scene)
    ∧ (goes → d.wr = false → clean → j < 16 → ∃ t, exec (.dramRead c [d] ready (syn 1)) s = .next t ∧ nth (0, false) t.dramUnit j = (old j, false)
        ∧ t.readEP = false ∧ t.rd (Reg.DDR_CE_CNT c) = up1 (Reg.DDR_CE_CNT c) ∧ (t.ddrSt c).wb = wb k.wb ∧ t.scene = s.scene)
    ∧ (goes → d.wr = false → clean → j < 16 → 2 ≤ e → ∃ t, exec (.dramRead c [d] ready (syn e)) s = .next t ∧ nth (0, false) t.dramUnit j = (old j, true)
        ∧ (d.port ≠ 3 → t.readEP = decide (be j ≠ 0)) ∧ (d.port = 3 → be j ≠ 0 → t.readFault = true ∧ t.readData = s.readData)
        ∧ t.rd (Reg.DDR_UE_CNT c) = up1 (Reg.DDR_UE_CNT c)
        ∧ (s.bget (Reg.DDR_STATUS c) 28 = true → ddrState s c ≠ 3 → ddrState t c = 3 ∧ (t.ddrSt c).migRank = some (rankOf s.variant u)
          ∧ t.bget (Reg.DDR_STATUS c) 28 = false ∧ t.rd (Reg.DDR_MIG_PTR c) = 0)
        ∧ (s.bget (Reg.DDR_STATUS c) 28 = false → ddrState t c = ddrState s c ∧ (s.coreOn = true → t.bget (Reg.EVT_PEND 1) 24 = true)))
    ∧ (goes → d.wr = true → fails < 2 → (∀ i, i < 16 → k.ueWords.contains (u + 4 * i) = false) → ∃ t, exec (.dramWrite c [d] ready [] fails spare) s = .next t
        ∧ (∀ i, i < 16 → t.mem.rdWord (u + 4 * i) = mergeBytes (be i) (old i) (dat i) ∧ t.mem.bad.contains (u + 4 * i) = (badAt i && decide (be i ≠ 15)))
        ∧ (∀ y, (y < u ∨ u + 64 ≤ y) → t.byteAt y = s.byteAt y) ∧ (clean → t.regs = s.regs ∧ t.queues = s.queues)
        ∧ (t.ddrSt c).wb = k.wb.filter (fun x => x != u) ∧ (t.ddrSt c).wq = [])
    ∧ (goes → d.wr = true → 2 ≤ fails → ∃ t, exec (.dramWrite c [d] ready [] fails spare) s = .next t
        ∧ t.rd (Reg.DDR_CMD_ERR_CNT c) = up1 (Reg.DDR_CMD_ERR_CNT c)
        ∧ (spare = true → ddrState s c = 3 → ddrState t c = 4 ∧ (t.ddrSt c).migRank = none)
        ∧ (spare = false → s.bget (Reg.DDR_STATUS c) 28 = true → ddrState s c ≠ 3 → ddrState t c = 3 ∧ (t.ddrSt c).migRank = some (rankOf s.variant u))
        ∧ (spare = false → fromSpare s c u = true → ∀ i, i < 16 → t.mem.rdWord (u + 4 * i) = mergeBytes (be i) (old i) (dat i)
            ∧ (be i ≠ 0 → Tab.find (t.ddrSt c).oldWords (u + 4 * i) ≠ none)))
    ∧ (idle → inDram s.variant (a / 4 * 4) = true → s.mem.bad.contains (a / 4 * 4) = false → ∃ t, exec (.dramRead c [] ready [] [(a, e)]) s = .next t
        ∧ (e = 0 → t = z) ∧ (e = 1 → a / 4 * 4 ∈ (t.ddrSt (ddrOf s.variant (a / 4 * 4))).ceWords)
        ∧ (2 ≤ e → a / 4 * 4 ∈ (t.ddrSt (ddrOf s.variant (a / 4 * 4))).ueWords) ∧ t.mem = s.mem ∧ t.regs = s.regs)
    ∧ (choose s c ready = some q → copyWants s c = true → classOf s c q ≤ 3)
    ∧ (choose s c ready = some q → k.drain = true → candidates s c ready k.wq ≠ [] →
        ((64 ≤ k.wq.length ∨ ∀ x ∈ rs, classOf s c x ≠ 1) → q ∈ candidates s c ready k.wq)
        ∧ (k.wq.length < 64 → (∃ x ∈ rs, classOf s c x = 1) → q ∈ rs ∧ classOf s c q = 1))
    ∧ (choose s c ready = some q → k.drain = false → rs ≠ [] → q ∈ rs ∧ (∀ x ∈ rs, classOf s c q ≤ classOf s c x)
        ∧ (rowHit s c q = false → classOf s c q ≠ 1 → ∀ x ∈ rs, classOf s c x = classOf s c q → q.seq ≤ x.seq))
    ∧ (k.wb = a :: us → (∃ x ∈ k.wq, x.unit = a) → exec (.correctedWriteBack c ready) s = .next (s.setDdr c { k with wb := us }))
    ∧ (free → k.wb = a :: us → (∀ x ∈ k.wq, x.unit ≠ a) → exec (.correctedWriteBack c ready) s
        = .next (s.setDdr c { k with wb := us, ceWords := k.ceWords.filter (fun w => unitOfAddr w != a) }))
    ∧ ((¬ free ∧ (∀ x ∈ k.wq, x.unit ∉ k.wb) ∨ k.wb = []) → exec (.correctedWriteBack c ready) s = .next s)
    ∧ (here → (s.bget (Reg.DDR_CTL c) 16 = false ∨ ¬ free) → exec (.patrolScrubRead d.a [] ready) s = .next s)
    ∧ (s.bget (Reg.DDR_CTL c) 16 = true → here → free → clean → exec (.patrolScrubRead d.a [] ready) s = .next s)
    ∧ (s.bget (Reg.DDR_CTL c) 16 = true → here → free → clean → j < 16 → k.wq = [] → ∃ t, exec (.patrolScrubRead d.a (syn 1) ready) s = .next t
        ∧ (t.ddrSt c).wb = wb k.wb ∧ t.rd (Reg.DDR_CE_CNT c) = up1 (Reg.DDR_CE_CNT c) ∧ t.readData = s.readData ∧ t.mem = s.mem)
    ∧ (there → port < 3 → panicCond s c port = true → port ∉ k.panic → exec (.panicRise c port) s
        = .next ((s.setDdr c { k with panic := insNat k.panic port }).count (Reg.DDR_PANIC_CNT c) 1))
    ∧ ((¬ there ∨ 3 ≤ port ∨ panicCond s c port = false ∨ port ∈ k.panic) → exec (.panicRise c port) s = .next s)
    ∧ (k.rq = [q] → k.wq = [] → k.wait = [] → q.port = 3 + port → q.hot = false → urgency s c q = 2 → exec (.userUrgencyRise c port) s
        = .next ((s.setDdr c { k with rq := [{ q with hot := true }] }).count (Reg.DDR_URGENT_CNT c) 1))
    ∧ ((∀ x ∈ k.unserved, x.port = 3 + port → x.hot = true ∨ urgency s c x ≠ 2) → exec (.userUrgencyRise c port) s = .next s)
    ∧ (there → refDue s c = true → ∃ t, exec (.refreshTick c) s = .next t ∧ (∀ q, q < activeRanks s.variant → owed t c q = Nat.min 15 (owed s c q + n))
        ∧ t.fget (Reg.DDR_REF c) 23 0 = s.fget (Reg.DDR_REF c) 23 0 ∧ (∀ o, o ≠ Reg.DDR_REF c → t.rd o = s.rd o) ∧ t.mem = s.mem
        ∧ t.ddrSt c = { k with refAt := some last, spareOwed := if spareIn then Nat.min 15 (k.spareOwed + n) else k.spareOwed })
    ∧ ((¬ there ∨ refDue s c = false) → exec (.refreshTick c) s = .next s)
    ∧ (k.refAt = some a → refDue s c = decide (a + (if s.bget (Reg.DDR_STATUS c) 27 then 1950 else 3900) ≤ s.sched.up))
    ∧ (there → (r < activeRanks s.variant ∨ r = 2 ∧ spareIn) → 0 < owed s c r → refMay s c r ready = true → ∃ t, exec (.refab c r ready) s = .next t ∧ owed t c r = owed s c r - 1
        ∧ (∀ q, q ≤ 2 → q ≠ r → owed t c q = owed s c q)
        ∧ (forced → t.rd (Reg.DDR_REF_FORCED_CNT c) = up1 (Reg.DDR_REF_FORCED_CNT c) ∧ r ∈ (t.ddrSt c).panicSlot)
        ∧ (¬ forced → t.rd (Reg.DDR_REF_FORCED_CNT c) = s.rd (Reg.DDR_REF_FORCED_CNT c))
        ∧ (owed s c r = 1 → (t.ddrSt c).forcing = k.forcing.filter (fun q => q != r))
        ∧ (∀ p ∈ (t.ddrSt c).openRows, p.1 / 32 ≠ r) ∧ t.mem = s.mem)
    ∧ ((¬ there ∨ (activeRanks s.variant ≤ r ∧ (r ≠ 2 ∨ ¬ spareIn)) ∨ owed s c r = 0 ∨ refMay s c r ready = false) → exec (.refab c r ready) s = .next s)
    ∧ (¬ forced → refMay s c r ready = true → (∀ x ∈ candidates s c ready (k.rq ++ k.wq), rankOf s.variant x.unit ≠ r) ∧ burstOn s c r = false)
    ∧ ((∀ i, i < 4 → Tab.find s.pwr.sens (144 + 4 * c + i) = none) → tp = temp)
    ∧ (there → 21760 < tp.toInt → s.bget (Reg.DDR_STATUS c) 27 = false → ∃ t, exec (.ddrTempReading c temp) s = .next t ∧ t.rd (Reg.DDR_TEMP c) = tp.toNat
        ∧ t.bget (Reg.DDR_STATUS c) 27 = true ∧ t.fget (Reg.DDR_REF c) 2 0 = 2 ∧ (s.coreOn = true → t.bget (Reg.EVT_PEND 1) 22 = true)
        ∧ (t.ddrSt c).refAt = (if refDue s c then some last else k.refAt).map (fun x => Nat.max x (s.sched.up - 1950))
        ∧ (∀ q, (q < activeRanks s.variant ∨ q = 2 ∧ spareIn) → owed t c q = (if refDue s c then Nat.min 15 (owed s c q + n) else owed s c q))
        ∧ ∀ q, q ∈ (t.ddrSt c).forcing ↔ (q < activeRanks s.variant ∨ q = 2 ∧ spareIn) ∧ 0 < owed t c q)
    ∧ (there → tp.toInt < 21248 → s.bget (Reg.DDR_STATUS c) 27 = true → exec (.ddrTempReading c temp) s
        = .next (((s.wr (Reg.DDR_TEMP c) tp.toNat).bset (Reg.DDR_STATUS c) 27 false).fset (Reg.DDR_REF c) 2 0 4))
    ∧ (there → (tp.toInt ≤ 21760 ∨ s.bget (Reg.DDR_STATUS c) 27 = true) → (21248 ≤ tp.toInt ∨ s.bget (Reg.DDR_STATUS c) 27 = false) →
        exec (.ddrTempReading c temp) s = .next (s.wr (Reg.DDR_TEMP c) tp.toNat))

/-- R432 to R439, R441: writes of DDR_CTL, by any of its commands; the held delays load in the guard slot; a rank's
contents move to the spare, unit by unit, until the copy ends or its write fails; and the device tests with their pattern.
The model's own choices among its clauses are named in log entries 3, 133, 165, 167, 168, 197 and 198. -/
def Obligations.DramTrainingRetirementAndTests : Prop :=
  ∀ (s : State) (m : Master) (c r : Nat) (v bits : Word) (i : Instr) (bad ready : List Nat) (ecc : BitVec 8) (mrr : BitVec 16) (beats : Nat),
    let x := s.ddrSt c
    let up1 (t : State) (o : Nat) : Prop := t.rd o = Nat.min (s.rd o + 1) 0xFFFFFFFF
    let st := Reg.DDR_STATUS c
    let w := v.toNat
    let u := (s.bset (Reg.DDR_CTL c) 31 (bitOf w 31)).bset (Reg.DDR_CTL c) 16 (bitOf w 16)
    let u' := if bitOf w 31 = true ∧ ddrState s c = 1 then ddrSettle c (u.fset st 31 29 2) else u
    let f := getF w 2 1
    let asked := 1 ≤ f ∧ f ≤ 2 ∧ f ≤ activeRanks s.variant
    let spare := s.bget st 28 = true ∧ ddrState u' c ≠ 3 ∧ ddrState u' c ≠ 0
    let n := s.rd (Reg.DDR_MIG_PTR c)
    let at' := unitAddr s.variant c r n
    let e := ddrOf s.variant at'
    let y := s.ddrSt e
    let badAt (j : Nat) := s.mem.bad.contains (at' + 4 * j)
    let copies := x.migRank = some r ∧ ddrState s c = 3 ∧ n < 134217728 ∧ ddrPaused s c = false
      ∧ outranked s c ready (if copyBehind s c then 3 else 6) = false
    let clean := ∀ j, j < 16 → badAt j = false ∧ y.ceWords.contains (at' + 4 * j) = false ∧ y.ueWords.contains (at' + 4 * j) = false
    let k := s.rd (Reg.DDR_TEST_CTL c)
    let phys := getF w 21 20
    let active (p : Nat) : Prop := s.fget st 3 2 = p ∨ (s.variant = .el9610 ∧ s.fget st 5 4 = p)
    let onSpare := x.testRunning = true ∧ s.fget (Reg.DDR_TEST_CTL c) 21 20 = s.fget st 1 0
    let op := getF k 26 24
    let len := getF k 15 0 * 16
    let seed := if s.rd (Reg.DDR_TEST_SEED c) % 2 ^ 23 = 0 then 1 else s.rd (Reg.DDR_TEST_SEED c) % 2 ^ 23
    let pat (j : Nat) : Word := toW (prbsBits 32 (Nat.repeat (fun r => (prbsBits 32 r).2) j seed)).1
    let done := exec (.ddrTestDone c bits ecc mrr beats [] ready) s
    let runs := c < 2 ∧ x.testRunning = true ∧ outranked s c ready 6 = false
    let spares (p : Nat) : Prop := s.bget st 28 = true ∧ s.fget st 1 0 = p
    let fields := (((s.fset (Reg.DDR_TEST_CTL c) 26 24 (getF w 26 24)).fset (Reg.DDR_TEST_CTL c) 21 20 (getF w 21 20)).fset (Reg.DDR_TEST_CTL c) 16 16
      (getF w 16 16)).fset (Reg.DDR_TEST_CTL c) 15 0 (getF w 15 0)
    ((i = .ddrEnableWrite m c v ∨ i = .apply m c v ∨ i = .retire m c v) → s.served (Reg.DDR_CTL c) = true →
      (¬ asked → bitOf w 0 = false → exec i s = .next u')
      ∧ (¬ asked → bitOf w 0 = true → exec i s = .next (u'.setDdr c { u'.ddrSt c with applyAt := some (s.bn + 1), spareSet := spareInUse u' c }))
      ∧ (asked → bitOf w 0 = false → spare → ∃ t, exec i s = .next t ∧ ddrState t c = 3 ∧ t.bget st 28 = false ∧ t.rd (Reg.DDR_MIG_PTR c) = 0
          ∧ (t.ddrSt c).migRank = some (f - 1) ∧ t.scene = s.scene ∧ (t.ddrSt c).trnUse = spareDelays s c
          ∧ (onSpare → (t.ddrSt c).testRunning = false ∧ t.bget (Reg.DDR_TEST_CTL c) 30 = true ∧ t.rd (Reg.DDR_TEST_RES c) ≠ 0)
          ∧ (¬ onSpare → (t.ddrSt c).testRunning = x.testRunning ∧ t.rd (Reg.DDR_TEST_RES c) = s.rd (Reg.DDR_TEST_RES c)))
      ∧ (asked → bitOf w 0 = false → ¬ spare → exec i s = .next (fire 0x38 c u')))
    ∧ ((x.applyAt = none ∨ (∃ j, x.applyAt = some j ∧ s.bn < j)) → exec (.applyPause c) s = .next s)
    ∧ (∀ j, c < 2 → x.applyAt = some j → j ≤ s.bn → ∃ t, exec (.applyPause c) s = .next t ∧ (t.ddrSt c).applyAt = none ∧ (t.ddrSt c).trnHeld = []
        ∧ (t.ddrSt c).trnUse = x.trnHeld.foldl (fun m p => Tab.put (fun _ => 0) m p.1 p.2) x.trnUse ∧ t.bget st 26 = true ∧ t.mem = (s.reach (s.slot 394000 327000)).mem)
    ∧ (c < 2 → copies → clean → (∀ j ∈ bad, 16 ≤ j) → ∃ t, exec (.migrationCopy c bad ready) s = .next t ∧ t.rd (Reg.DDR_MIG_PTR c) = n + 1
        ∧ (∀ b, t.byteAt b = s.byteAt b) ∧ (∀ b, b ∈ t.mem.bad ↔ b ∈ s.mem.bad) ∧ (∀ o, o ≠ Reg.DDR_MIG_PTR c → t.rd o = s.rd o)
        ∧ (t.ddrSt c).wb = x.wb.filter (fun a => a != at'))
    ∧ (c < 2 → copies → ∃ t, exec (.migrationCopy c bad ready [] true) s = .next t ∧ ddrState t c = 4 ∧ (t.ddrSt c).migRank = none
        ∧ t.rd (Reg.DDR_MIG_PTR c) = n ∧ up1 t (Reg.DDR_CMD_ERR_CNT c) ∧ (s.coreOn = true → t.bget (Reg.EVT_PEND 1) 24 = true))
    ∧ (∀ j, c < 2 → copies → clean → j < 16 → ∃ t, exec (.migrationCopy c [] ready [j]) s = .next t ∧ up1 t (Reg.DDR_CE_CNT e)
        ∧ t.rd (Reg.DDR_MIG_PTR c) = n + 1 ∧ (∀ b, b ∈ t.mem.bad ↔ b ∈ s.mem.bad))
    ∧ (c < 2 → copies → ∃ t, exec (.migrationCopy c bad ready) s = .next t ∧ t.rd (Reg.DDR_MIG_PTR c) = n + 1 ∧ (t.ddrSt c).migRank = some r
        ∧ ddrState t c = 3 ∧ (∀ b, t.byteAt b = s.byteAt b) ∧ ∀ j, j < 16 → (j ∈ bad ∨ badAt j = true) → (at' + 4 * j) ∈ t.mem.bad)
    ∧ (∀ j, c < 2 → copies → clean → j < 16 → ∃ t, exec (.migrationCopy c [j] ready) s = .next t
        ∧ t.rd (Reg.DDR_UE_CNT e) = Nat.min (s.rd (Reg.DDR_UE_CNT e) + 1) 0xFFFFFFFF ∧ t.bget (Reg.DDR_ERR_LAST_HI e) 31 = true
        ∧ (y.ueBlock = false → s.coreOn = true → t.bget (Reg.EVT_PEND 1) 20 = true)
        ∧ (e = c → s.coreOn = true → t.bget (Reg.EVT_PEND 1) 24 = true))
    ∧ ((∀ r, ¬ (x.migRank = some r ∧ ddrState s c = 3 ∧ n < 134217728 ∧ ddrPaused s c = false
        ∧ outranked s c ready (if copyBehind s c then 3 else 6) = false)) → exec (.migrationCopy c bad ready) s = .next s)
    ∧ (c < 2 → x.migRank = some r → ddrState s c = 3 → n = 134217728 → ∃ t, exec (.migrationComplete c) s = .next t ∧ ddrState t c = 2 ∧ (t.ddrSt c).migRank = none
        ∧ (r < 2 → owed t c r = x.spareOwed % 16) ∧ (t.ddrSt c).spareOwed = 0 ∧ (t.ddrSt c).oldWords = []
        ∧ (r = 0 → t.fget st 3 2 = s.fget st 1 0) ∧ (r ≠ 0 → t.fget st 5 4 = s.fget st 1 0) ∧ (s.coreOn = true → t.bget (Reg.EVT_PEND 1) 23 = true))
    ∧ ((x.migRank = none ∨ ddrState s c ≠ 3 ∨ n ≠ 134217728) → exec (.migrationComplete c) s = .next s)
    ∧ (s.served (Reg.DDR_TEST_CTL c) = true → bitOf w 31 = false → exec (.ddrTestStart m c v) s = .next fields)
    ∧ (s.served (Reg.DDR_TEST_CTL c) = true → bitOf w 31 = true → active phys → (ddrState s c = 2 ∨ ddrState s c = 3) →
        exec (.ddrTestStart m c v) s = .next (fields.bset st 25 true))
    ∧ (s.served (Reg.DDR_TEST_CTL c) = true → bitOf w 31 = true → ¬ active phys → ¬ spares phys → exec (.ddrTestStart m c v) s = .next fields)
    ∧ (s.served (Reg.DDR_TEST_CTL c) = true → bitOf w 31 = true → (¬ active phys ∧ spares phys ∨ active phys ∧ ddrState s c ≠ 2 ∧ ddrState s c ≠ 3) →
        exec (.ddrTestStart m c v) s = .next ((fields.bset (Reg.DDR_TEST_CTL c) 30 false).setDdr c { x with testRunning := true }))
    ∧ ((x.testRunning = false ∨ outranked s c ready 6 = true) → done = .next s)
    ∧ (runs → ∃ t, done = .next t ∧ (t.ddrSt c).testRunning = false ∧ t.bget (Reg.DDR_TEST_CTL c) 30 = true
        ∧ (op ≠ 1 → t.rd (Reg.DDR_TEST_RES c) = 0 ∧ t.rd (Reg.DDR_TEST_CNT c) = 0 ∧ t.fget (Reg.DDR_TEST_RES_ECC c) 7 0 = 0)
        ∧ t.fget (Reg.DDR_TEST_RES_ECC c) 31 16 = (if op = 2 then mrr.toNat else s.fget (Reg.DDR_TEST_RES_ECC c) 31 16)
        ∧ ((op ≠ 0 ∨ ¬ active (getF k 21 20)) → t.mem = s.mem)
        ∧ (op = 0 → active (getF k 21 20) → ∀ j, j < len → t.mem.rdWord (testAddr s c j) = pat j)
        ∧ (op = 1 → active (getF k 21 20) → (∀ j, j < len → s.mem.rdWord (testAddr s c j) = pat j) → 0 < beats → beats ≤ len →
            t.rd (Reg.DDR_TEST_RES c) = bits.toNat ∧ t.fget (Reg.DDR_TEST_RES_ECC c) 7 0 = ecc.toNat
            ∧ t.rd (Reg.DDR_TEST_CNT c) = (if bits = 0 ∧ ecc = 0 then 0 else beats))
        ∧ (op = 1 → active (getF k 21 20) → (∃ j, j < len ∧ s.mem.rdWord (testAddr s c j) ≠ pat j) → bits = 0 → ecc = 0 →
            t.rd (Reg.DDR_TEST_RES c) ≠ 0 ∧ t.rd (Reg.DDR_TEST_CNT c) ≠ 0))

/-- R447 to R452: fragments are coded for the lane, checked, acknowledged and gathered; a whole message is judged by its
MAC and its number and then acts as its own command does, and stands in queue 20 if it is for the firmware; a missing
fragment is sent again; and the lanes come and go. The model's own choices among its clauses are named in log entries 3, 6,
15, 19, 83, 84, 194 and 195. -/
def Obligations.LigatureFragmentsAndMessages : Prop :=
  ∀ (s : State) (b : List Byte) (x : TwRx) (f : TwFrag) (lane : Nat) (lock : Bool),
    let t := s.twin
    let n := leNat (slice b 4 4)
    let held := t.rx.any (fun y => y.mseq == (fragOf b).mseq && y.index == (fragOf b).index)
    let first := hasTwin s = true ∧ t.rx.find? (wholeMsg t.rx) = some x
    let p := msgPayload t.rx x
    let body := p.take (p.length - 16)
    let taken := { s with twin := { t with rx := t.rx.filter (fun y => y.mseq != x.mseq) } }
    let good := 16 ≤ p.length ∧ p.drop (p.length - 16) = msgMac s x.ty x.sub x.mseq body
    let fresh := t.mseqSeen.contains x.mseq = false ∧ t.mseqHi ≤ x.mseq + 65536
    let hi := Nat.max t.mseqHi x.mseq
    let sent (j : Nat) (r y : Nat) (d : Nat) : Bool := if d ≤ j then bitOf (scramBlock r y).1 (j - d) else bitOf r (d - 1 - j)
    let noted := { taken with twin := { taken.twin with mseqHi := hi, mseqSeen := (x.mseq :: t.mseqSeen).filter (fun m => decide (hi ≤ m + 65536)) } }
    let at' := leNat (body.take 8)
    let queued := if s.qEnabled 20 then (msgWords x.ty x.sub body).foldl (fun s w => pushBy 0x4C 20 w s) noted else noted
    let again : TwFrag := { f with sent := s.bn, resends := f.resends + 1, marked := false }
    let bit := 2 ^ lane
    let lanes := if lock then t.lanes ||| bit else t.lanes - (t.lanes &&& bit)
    ((hasTwin s = false ∨ t.lanes = 0) → exec (.fragmentReceive b) s = .next s)
    ∧ (hasTwin s = true → t.lanes ≠ 0 → fragOk b = false → exec (.fragmentReceive b) s = .next (s.count Reg.TWIN_CRC_CNT 1))
    ∧ (hasTwin s = true → t.lanes ≠ 0 → fragOk b = true → t.rxAck < 2 ^ 32 → n = (t.rxAck + 1) % 2 ^ 32 → t.rxSack = [] → exec (.fragmentReceive b) s
        = .next { s with twin := { t with rxAck := n, rx := if held then t.rx else t.rx ++ [fragOf b] } })
    ∧ (hasTwin s = true → t.lanes ≠ 0 → fragOk b = true → seqAfter n t.rxAck = false → t.rxSack = [] → exec (.fragmentReceive b) s
        = .next { s with twin := { t with rx := if held then t.rx else t.rx ++ [fragOf b] } })
    ∧ ((hasTwin s = false ∨ t.rx.find? (wholeMsg t.rx) = none) → exec .messageAccept s = .next s)
    ∧ (first → ¬ good → exec .messageAccept s = .next (fire 0x3E 0 (taken.count Reg.TWIN_AUTH_CNT 1)))
    ∧ (first → good → ¬ fresh → exec .messageAccept s = .next taken)
    ∧ (first → good → fresh →
        (x.ty = 3 → x.sub = 0 → exec .messageAccept s
          = exec (.repairRequest at' ((List.range ((body.length - 8) / 2)).map (fun i => leNat (slice body (8 + 2 * i) 2)))) noted)
        ∧ (x.ty = 3 → x.sub = 1 → exec .messageAccept s = exec (.repairData at' (repairEntries s.blockLen body.length (body.drop 8))) noted)
        ∧ (x.ty = 4 → x.sub = 1 → exec .messageAccept s = exec (.image at' (body.drop 8)) noted)
        ∧ (x.ty = 4 → x.sub = 2 → exec .messageAccept s = exec (.endMsg (leNat (body.take 4)) (leNat (slice body 4 8))) noted)
        ∧ (x.ty = 5 → x.sub = 0 → exec .messageAccept s = exec (.hello (nth 0 body 0).toNat (nth 0 body 1).toNat (leNat (slice body 4 8))) queued)
        ∧ (x.ty = 5 → x.sub = 1 → exec .messageAccept s = exec (.takeover at') queued)
        ∧ (x.ty = 5 → x.sub = 4 → exec .messageAccept s = exec (.fail at') queued)
        ∧ (x.ty = 6 → x.sub = 0 → exec .messageAccept s = .next (queued.wr Reg.TWIN_HEALTH_PEER (leNat (body.take 4)))))
    ∧ (7 ≤ b.length → frameBlocks b = (1, 0x1E) :: (1, 0x78 + 256 * leNat (b.take 7))
        :: ((List.range ((b.length - 7) / 8)).map (fun k => (2, leNat (slice b (7 + 8 * k) 8)))
          ++ [(1, termType ((b.length - 7) % 8) + 256 * leNat (b.drop (7 + (b.length - 7) / 8 * 8)))]))
    ∧ (∀ r y j, j < 64 → r < 2 ^ 58 → bitOf (scramBlock r y).1 j = (bitOf y j != (sent j r y 39 != sent j r y 58)))
    ∧ (first → good → fresh → x.ty = 2 → x.sub = 3 → twinEn s = true → (t.st = 2 ∨ t.st = 4) →
        exec .messageAccept s = .next (let u := { noted with twin := { noted.twin with verdicts := t.verdicts ++ [verdictOf body] } }
          if s.cond.handed = true ∧ (verdictOf body).bn = s.bn + 1 then handMasks { u with cond := { u.cond with handed := false } } else u))
    ∧ (first → good → fresh → x.ty = 2 → x.sub = 1 → twinEn s = true → (t.st = 2 ∨ t.st = 3 ∨ t.st = 4) → exec .messageAccept s
        = .next (stagePeer (leNat (body.take 4)) (leNat (slice body 4 8)) (itemsOf body.length (bytesWords body.length (body.drop 12))) noted))
    ∧ (t.unacked.find? (fun g => g.marked) = none → exec .fragmentResend s = .next s)
    ∧ (t.unacked.find? (fun g => g.marked) = some f → t.lanes = 0 → exec .fragmentResend s = .next s)
    ∧ (t.unacked.find? (fun g => g.marked) = some f → t.lanes ≠ 0 → f.resends < 3 → t.unacked = [f] → ∃ u, exec .fragmentResend s = .next u
        ∧ u.twin.laneOut = t.laneOut ++ [(pickLane t, f.bytes)] ∧ u.twin.lane66.length = t.lane66.length + (frameBlocks f.bytes).length
        ∧ u.twin.unacked = [again] ∧ u.mem = s.mem
        ∧ u.rd Reg.TWIN_RESEND_CNT = Nat.min (s.rd Reg.TWIN_RESEND_CNT + 1) 0xFFFFFFFF)
    ∧ (hasTwin s = true → t.unacked.find? (fun g => g.marked) = some f → t.lanes ≠ 0 → t.lanes < 4 → 3 ≤ f.resends → ∃ u, exec .fragmentResend s = .next u
        ∧ u.twin.lanes = 0 ∧ ∀ g ∈ u.twin.unacked, g.resends = 0)
    ∧ ((hasTwin s = false ∨ 2 ≤ lane) → exec (.ligatureLaneChange lane lock) s = .next s)
    ∧ (hasTwin s = true → lane < 2 → ∃ u, exec (.ligatureLaneChange lane lock) s = .next u ∧ u.twin.lanes = lanes
        ∧ ((decide (lanes = 0) = decide (t.lanes = 0)) → u.twin.st = t.st ∧ u.regs = s.regs)
        ∧ (t.lanes = 0 → lanes ≠ 0 → t.st = 0 → s.bget Reg.TWIN_CTL 31 = true → (∀ d ∈ t.due, 2 ≤ d.2) → u.twin.st = 1)
        ∧ (t.st ≤ 1 → (∃ d ∈ t.due, d.2 ≤ 1) → u.twin.st = t.st)
        ∧ (t.lanes ≠ 0 → lanes = 0 → t.st = 2 → t.peerAlive = true → u.twin.st = 3)
        ∧ (decide (lanes = 0) ≠ decide (t.lanes = 0) → s.coreOn = true → u.bget (Reg.EVT_PEND 1) 29 = true))

/-- R442 to R446, R453, R454, R461, R462, R470: heartbeats are sent or withheld, two misses or more lead to a takeover, and
the waits, pins and register writes of the twin controller have their effects. The model's own choices among its clauses
are named in log entries 3, 16, 17, 50, 51 and 85. -/
def Obligations.TwinHeartbeatsAndPins : Prop :=
  ∀ (s : State) (m : Master) (v : Word) (us : Nat) (c : Instr),
    let t := s.twin
    let w := v.toNat
    let beat := twinEn s = true ∧ t.st ≠ 5 ∧ t.hbDone = false ∧ s.sched.cycle ≤ 16
    let live := t.outDone = true ∧ kicked s = true
    let miss := twinEn s = true ∧ 1 ≤ s.bn ∧ t.hbJudged ≠ s.bn ∧ t.hbSeen.contains (s.bn - 1) = false
    let n := if t.hbJudged + 1 = s.bn then t.hbMissed + 1 else 1
    let counted (u : State) : Prop := u.rd Reg.TWIN_HB_MISS_CNT = Nat.min (s.rd Reg.TWIN_HB_MISS_CNT + 1) 0xFFFFFFFF
      ∧ u.twin.hbMissed = n ∧ u.twin.hbJudged = s.bn
    let past := twinEn s = true ∧ t.waitAt + s.fget Reg.TWIN_TIMING 31 16 * 1000000 ≤ s.sched.up
    let toggles := hasTwin s = true ∧ t.st ≠ 5 ∧ s.fget Reg.PWR_STATUS 31 30 = 0 ∧ t.floating = false ∧ s.hif.stage ≠ 0
    let due := t.aliveAt + 500000 ≤ s.sched.up
    let pin (b : Bool) : State := { s with twin := { t with alivePin := b, aliveAt := s.sched.up } }
    let edges := if 400 ≤ us ∧ us ≤ 600 then t.peerEdges + 1 else 1
    let en := s.bset Reg.TWIN_CTL 31 (bitOf w 31)
    let later (code : Nat) (u : State) : State := { u with twin := { u.twin with due := u.twin.due ++ [(s.bn + 1, code)] } }
    (¬ beat → exec .heartbeat s = .next s)
    ∧ (beat → live → t.lanes = 0 → exec .heartbeat s = .next { s with twin := { t with hbDone := true, hbWithheld := 0 } })
    ∧ (beat → live → t.lanes ≠ 0 → ∃ u, exec .heartbeat s = .next u ∧ u.twin.hbDone = true ∧ u.twin.hbWithheld = 0 ∧ u.twin.mseq = t.mseq + 1
        ∧ u.twin.unacked = t.unacked ∧ u.twin.st = t.st ∧ u.regs = s.regs ∧ u.mem = s.mem
        ∧ u.twin.laneOut.length = t.laneOut.length + t.lanes % 2 + (if 2 ≤ t.lanes then 1 else 0))
    ∧ (beat → ¬ live → t.hbWithheld = 0 → exec .heartbeat s = .next { s with twin := { t with hbDone := true, hbWithheld := 1 } })
    ∧ (beat → ¬ live → 1 ≤ t.hbWithheld → ∃ u, exec .heartbeat s = .next u ∧ u.twin.st = 5 ∧ u.twin.alivePin = false ∧ u.twin.sel = false)
    ∧ (¬ miss → exec .heartbeatMiss s = .next s)
    ∧ (miss → (n < 2 ∨ (t.st ≠ 2 ∧ t.st ≠ 3)) → ∃ u, exec .heartbeatMiss s = .next u ∧ counted u ∧ u.twin.st = t.st ∧ u.twin.due = t.due ∧ u.mem = s.mem)
    ∧ (miss → 2 ≤ n → t.lanes ≠ 0 → (t.st = 2 ∨ t.st = 3) → ∃ u, exec .heartbeatMiss s = .next u ∧ counted u ∧ u.twin.st = t.st
        ∧ u.twin.due = t.due ++ [(s.bn + 1, if t.st = 2 then 9 else 8)])
    ∧ (miss → 2 ≤ n → t.lanes = 0 → (t.st = 2 ∨ t.st = 3) → t.peerAlive = true → ∃ u, exec .heartbeatMiss s = .next u ∧ counted u ∧ u.twin.st = 3
        ∧ u.twin.due = t.due)
    ∧ (miss → 2 ≤ n → t.lanes = 0 → (t.st = 2 ∨ t.st = 3) → t.peerAlive = false → ∃ u, exec .heartbeatMiss s = .next u ∧ counted u ∧ u.twin.st = t.st
        ∧ u.twin.waiting = 1 ∧ (t.waiting ≠ 1 → u.twin.waitAt = s.sched.up ∧ u.twin.peerFrames = false)
        ∧ (t.waiting = 1 → u.twin.waitAt = t.waitAt ∧ u.twin.peerFrames = t.peerFrames))
    ∧ ((t.waiting = 0 ∨ ¬ past) → exec .splitWaitExpiry s = .next s)
    ∧ (past → t.waiting = 1 → t.peerFrames = false → exec .splitWaitExpiry s = .next (later 8 { s with twin := { t with waiting := 0 } }))
    ∧ (past → t.waiting = 1 → t.peerFrames = true → ∃ u, exec .splitWaitExpiry s = .next u ∧ u.twin.st = 3 ∧ u.twin.waiting = 0)
    ∧ (past → t.waiting = 2 → exec .splitWaitExpiry s = .next (if t.lanes = 0 ∧ t.peerAlive = false ∧ t.peerFrames = false then
        later 2 { s with twin := { t with waiting := 0, hello := false } } else { s with twin := { t with waiting := 0 } }))
    ∧ ((t.st ≠ 4 ∨ s.sched.up < t.syncAt + s.fget Reg.TWIN_TIMING 15 0 * 1000000000) → exec .syncLimitExpiry s = .next s)
    ∧ (t.st = 4 → t.syncAt + s.fget Reg.TWIN_TIMING 15 0 * 1000000000 ≤ s.sched.up → ∃ u, exec .syncLimitExpiry s = .next u ∧ u.twin.st = 3
        ∧ (s.coreOn = true → u.bget (Reg.EVT_PEND 1) 31 = true))
    ∧ (¬ toggles → exec .twinAliveToggle s = .next s)
    ∧ (toggles → t.alivePin = true → exec .twinAliveToggle s = .next (if due then pin false else s))
    ∧ (toggles → t.alivePin = false → s.sched.rendering = true → exec .twinAliveToggle s = .next (if s.bn % 3 = 0 then pin true else s))
    ∧ (toggles → t.alivePin = false → s.sched.rendering = false → exec .twinAliveToggle s = .next (if due then pin true else s))
    ∧ (hasTwin s = true → t.peerAlive = true → t.edgeAt + 600000 ≤ s.sched.up → ∃ u, exec .peerAliveAbsent s = .next u ∧ u.twin.peerAlive = false
        ∧ u.twin.peerEdges = 0 ∧ (t.st = 1 → t.lanes = 0 → (∀ d ∈ t.due, 2 ≤ d.2) → u.twin.st = 0)
        ∧ (t.st ≤ 1 → (∃ d ∈ t.due, d.2 ≤ 1) → u.twin.st = t.st)
        ∧ (twinEn s = true → t.st = 3 → t.lanes = 0 → t.waiting ≠ 2 → u.twin.due = t.due ++ [(s.bn + 1, 8)]))
    ∧ ((hasTwin s = false ∨ t.peerAlive = false ∨ s.sched.up < t.edgeAt + 600000) → exec .peerAliveAbsent s = .next s)
    ∧ (hasTwin s = true → ∃ u, exec (.twinAliveInEdge us) s = .next u ∧ u.twin.edgeAt = s.sched.up ∧ u.twin.peerEdges = edges
        ∧ u.twin.peerAlive = (t.peerAlive || decide (4 ≤ edges)) ∧ (t.st = 0 → twinEn s = true → 4 ≤ edges → (∀ d ∈ t.due, 2 ≤ d.2) → u.twin.st = 1)
        ∧ (t.st ≤ 1 → (∃ d ∈ t.due, d.2 ≤ 1) → u.twin.st = t.st) ∧ u.pwr.peerRose = (s.pwr.peerRose || (decide (4 ≤ edges) && !t.peerAlive))
        ∧ (t.st = 2 → t.lanes = 0 → (t.peerAlive = true ∨ 4 ≤ edges) → u.twin.st = 3 ∧ u.twin.waiting = 0))
    ∧ (hasTwin s = true → exec .twinSelConfirmLoss s = .next { s with twin := { t with sel := false, alivePin := false, floating := true } })
    ∧ (hasTwin s = false → exec .twinSelConfirmLoss s = .next s ∧ exec (.twinAliveInEdge us) s = .next s)
    ∧ ((c = .twinEnWrite m v ∨ c = .kick m v ∨ c = .restart m v ∨ c = .fault m v) → s.served Reg.TWIN_CTL = true →
      (getF w 10 8 = 0 → bitOf w 31 = s.bget Reg.TWIN_CTL 31 → exec c s = .next en)
      ∧ (getF w 10 8 = 0 → bitOf w 31 ≠ s.bget Reg.TWIN_CTL 31 → exec c s = .next (later (if bitOf w 31 then 1 else 0) en))
      ∧ (getF w 10 8 = 4 → bitOf w 31 = s.bget Reg.TWIN_CTL 31 → exec c s = .next { en with twin := { t with kickAt := some s.sched.up } })
      ∧ (getF w 10 8 = 2 → bitOf w 31 = s.bget Reg.TWIN_CTL 31 → exec c s = .next (if t.st = 5 then later 5 en else en))
      ∧ (getF w 10 8 = 1 → bitOf w 31 = s.bget Reg.TWIN_CTL 31 → t.st = 5 → exec c s = .next en)
      ∧ (getF w 10 8 = 1 → bitOf w 31 = s.bget Reg.TWIN_CTL 31 → t.st ≠ 5 → (2 ≤ t.st ∨ t.peerSt ≠ 2 ∨ t.lanes = 0) → exec c s = .next (later 4 en)))

/-- R194, R201, R449, R455 to R460: commits are forwarded and acknowledged, verdicts and records sent, a record is applied
against the snapshot of its interval or is late, items held for a partner that is gone are released, and history is
repaired. The model's own choices among its clauses are named in log entries 3, 15, 18, 41, 42, 78, 79 and 181. -/
def Obligations.TwinCommitsRecordsAndRepair : Prop :=
  ∀ (s : State) (cid target b o : Nat) (is : List Item) (fw : List (Nat × Nat × List Item)) (acks : List Nat) (rec own : List Byte)
    (recs : List (Nat × List Byte)) (objs : List Nat) (ws : List Word),
    let t := s.twin
    let tx := transmits s = true ∧ twinEn s = true
    let follows := twinEn s = true ∧ (t.st = 2 ∨ t.st = 4)
    let peer := tx ∧ (t.peerSt = 2 ∨ t.peerSt = 4) ∧ t.lanes ≠ 0
    let applied := { s with twin := { t with records := recs, lastApplied := some b, applied := (b :: t.applied).take 64 } }
    let missing := ∃ k, k < 16 ∧ t.standBn + k + 3 ≤ s.bn ∧ s.bn - 3 - k ∉ t.applied
    let made := peer ∧ s.sched.verdictDone = true ∧ Tab.find t.snaps s.bn = some own ∧ own.length = 62656 ∧ t.recMade ≠ s.bn ∧ t.heldItems = [] ∧ t.txq = []
    let run := t.lastApplied = some (b - 1) ∧ b ≠ 0
    let asked := { s with twin := { t with repairs := [(b, o)] } }
    let body := leBytes 8 b ++ repairEntry asked b o
    let read := touchRepair b o asked
    let fits := s.bn * s.blockLen ≤ b * s.blockLen + winLen s.scene.wideR ∧ b + 1 ≤ s.bn
    (t.toForward = [] → exec .commit s = .next s)
    ∧ (t.toForward = (cid, target, is) :: fw → tx → t.peerSt ≠ 5 → exec .commit s = .next
        (enqueue 2 1 (leBytes 4 cid ++ leBytes 8 target ++ wordBytes (itemsWords s is)) { s with twin := { t with toForward := fw } }))
    ∧ (t.toForward = (cid, target, is) :: fw → (¬ tx ∨ t.peerSt = 5) → exec .commit s = .next { s with twin := { t with toForward := fw } })
    ∧ ((t.toAck = [] ∨ withholding s ≠ 0) → exec .commitAck s = .next s)
    ∧ (t.toAck = cid :: acks → withholding s = 0 → exec .commitAck s = .next (enqueue 2 2 (leBytes 4 cid) { s with twin := { t with toAck := acks } }))
    ∧ ((¬ peer ∨ s.sched.verdictDone = false) → exec .verdict s = .next s ∧ exec .block s = .next s)
    ∧ (t.verdictSent = s.bn + 1 → exec .verdict s = .next s)
    ∧ (peer → s.sched.verdictDone = true → t.verdictSent ≠ s.bn + 1 → releasable t = [] → exec .verdict s = .next
        (enqueue 2 3 (leBytes 8 (s.bn + 1) ++ leBytes 4 t.relCseq ++ [BitVec.ofNat 8 (t.outcomes.take 8).length, 0, 0, 0]
          ++ (t.outcomes.take 8).flatMap (fun p => leBytes 4 p.1 ++ [BitVec.ofNat 8 p.2, 0, 0, 0])) { s with twin := { t with verdictSent := s.bn + 1 } }))
    ∧ (made → t.unacked.length ≤ 4000 → s.bn < 2 ^ 64 → ∃ u, exec .block s = .next u ∧ u.twin.recMade = s.bn ∧ u.twin.recSent = s.bn ∧ u.twin.txq = []
        ∧ u.twin.mseq = t.mseq + 1 ∧ u.twin.st = t.st ∧ u.regs = s.regs ∧ u.mem = s.mem ∧ t.unacked.length < u.twin.unacked.length)
    ∧ (made → 4096 ≤ t.unacked.length → ∃ u, exec .block s = .next u ∧ u.twin.recMade = s.bn ∧ u.twin.recSent = t.recSent ∧ u.twin.txq.length = 1
        ∧ u.twin.unacked = t.unacked ∧ u.regs = s.regs ∧ u.mem = s.mem)
    ∧ (t.recMade = s.bn → exec .block s = .next s)
    ∧ (transmits s = true → peerFollows s = false → (dropHolding b s).twin.heldItems = []
        ∧ (dropHolding b s).twin.released = t.released ++ t.heldItems.map (fun h => (b, h)))
    ∧ ((transmits s = false ∨ peerFollows s = true) → dropHolding b s = s)
    ∧ ((t.records = [] ∨ ¬ follows) → exec .recordApply s = .next s)
    ∧ (follows → t.records = (b, rec) :: recs → Tab.find t.snaps b = none → exec .recordApply s = .next s)
    ∧ (follows → t.records = (b, rec) :: recs → Tab.find t.snaps b = some rec → t.st = 2 → exec .recordApply s = .next applied)
    ∧ (follows → t.records = (b, rec) :: recs → Tab.find t.snaps b = some rec → t.st = 4 → (t.matched < 63 ∨ ¬ run) → exec .recordApply s
        = .next { applied with twin := { applied.twin with matched := if run then t.matched + 1 else 1 } })
    ∧ (follows → t.records = (b, rec) :: recs → Tab.find t.snaps b = some rec → t.st = 4 → run → t.matched = 63 → t.due = [] → exec .recordApply s
        = .next { applied with twin := { applied.twin with matched := 64, due := [(s.bn + 1, 6)] } })
    ∧ (follows → t.records = (b, rec) :: recs → Tab.find t.snaps b = some own → sameSpan rec own 0 0x80C0 = false → ∃ u, exec .recordApply s = .next u
        ∧ (t.st = 2 → u.twin.st = 3 ∧ (s.coreOn = true → u.bget (Reg.EVT_PEND 2) 0 = true)) ∧ (t.st = 4 → u.twin.matched = 0) ∧ u.twin.records = recs)
    ∧ (twinEn s = true → t.st = 2 → missing → ∃ u, exec .recordLate s = .next u ∧ u.twin.st = 3
        ∧ u.rd Reg.TWIN_RECORD_LATE_CNT = Nat.min (s.rd Reg.TWIN_RECORD_LATE_CNT + 1) 0xFFFFFFFF)
    ∧ ((twinEn s = false ∨ t.st ≠ 2 ∨ ¬ missing) → exec .recordLate s = .next s)
    ∧ (¬ tx → exec (.repairRequest b objs) s = .next s)
    ∧ (tx → t.repairs = [] → o < 2048 → t.repairSent + body.length + 16 ≤ 131072 → exec (.repairRequest b [o]) s = .next
        (enqueue 3 1 body { read with twin := { read.twin with repairs := [], repairSent := read.twin.repairSent + body.length + 16 } }))
    ∧ (¬ follows → exec (.repairData b [(o, ws)]) s = .next s)
    ∧ (follows → o < 2 * capObjs s.variant → exec (.repairData b [(o, ws)]) s = .next { s with twin := { t with repairIn := t.repairIn ++ [(b, o, ws)] } })
    ∧ (t.repairIn = [(b, o, ws)] → fits → writeRepairs s = ((((List.range s.blockLen).zip ws).foldl (fun s iw => storeWord (histAddr s.scene.wideR o (b * s.blockLen + iw.1)) iw.2 false s)
        { s with twin := { t with repairIn := [] } }).count Reg.TWIN_REPAIR_CNT 1))
    ∧ (t.repairIn = [(b, o, ws)] → ¬ fits → (t.st = 2 ∨ t.st = 4) → (writeRepairs s).twin.st = 3)
    ∧ (follows → 2 * capObjs s.variant ≤ o → exec (.repairData b [(o, ws)]) s = .next s)

/-- R445, R462, R464, R466 to R468, R470 to R473: the image, the roles and their messages, and the health word of a second.
The model's own choices among its clauses are named in log entries 3, 16, 43, 77, 80, 81, 85 and 180. -/
def Obligations.TwinRolesImagesAndHealth : Prop :=
  ∀ (s : State) (a x role state since eye0 eye1 crc len : Nat) (bs : List Byte),
    let t := s.twin
    let en := twinEn s = true
    let tx := transmits s = true ∧ en
    let same := role = b2n (roleAlt s)
    let later (y code : Nat) (u : State) : State := { u with twin := { u.twin with due := u.twin.due ++ [(y, code)] } }
    let own := t.txSince.getD 0
    let z := sendHello s
    let met (u : State) : State := { u with twin := { u.twin with hello := false, waiting := 0 } }
    let second := hasTwin s = true ∧ t.hAt + 1000000000 ≤ s.sched.up
    let bits := t.hBits ||| healthNow s ||| (if eye0 < s.fget Reg.TWIN_EYE 29 24 ∨ eye1 < s.fget Reg.TWIN_EYE 29 24 then 0x40 else 0)
    let word := t.hSeq % 256 * 2 ^ 24 + bits % 4096
    ((¬ en ∨ t.lanes = 0) → exec .bulkSyncRequest s = .next s)
    ∧ (en → t.lanes ≠ 0 → t.st = 3 → t.hello = false → exec .bulkSyncRequest s = .next (enqueue 4 0 [] s))
    ∧ (tx → t.lanes ≠ 0 → exec .bulkSyncRequest s = .next (streamImage s))
    ∧ (en → t.lanes ≠ 0 → (t.st = 2 ∨ t.st = 4 ∨ t.st = 5) → exec .bulkSyncRequest s = .next s)
    ∧ ((¬ en ∨ (t.st ≠ 3 ∧ t.st ≠ 4)) → exec (.image a bs) s = .next s)
    ∧ (en → t.st = 4 → exec (.image a bs) s = .next (imageStore a bs s))
    ∧ (en → t.st = 3 → ∃ u, u.twin.st = 4 ∧ u.twin.matched = 0 ∧ u.scene = s.scene
        ∧ exec (.image a bs) s = .next (imageStore a bs u))
    ∧ (0x10000000 ≤ a → a < 0x11000000 → imageStore a bs s = { s with twin := { t with imageRegs := t.imageRegs
        ++ (chop 2 ((bytesWords (bs.length / 4 + 1) bs).length / 2) (bytesWords (bs.length / 4 + 1) bs)).map (fun p => ((nth 0 p 0).toNat, nth 0 p 1)) } })
    ∧ ((a < 0x10000000 ∨ 0x400000000 ≤ a ∨ (0x100000000 ≤ a ∧ a < 0x108000000)) → imageStore a bs s = fabBytes a bs s)
    ∧ (en → t.st = 4 → exec (.endMsg crc len) s = .next (later (s.bn + 1) 7 s))
    ∧ ((¬ en ∨ t.st ≠ 4) → exec (.endMsg crc len) s = .next s)
    ∧ (¬ en → exec (.hello role state since) s = .next s)
    ∧ (en → t.st = 3 → t.hello = true → state ≤ 1 → exec (.hello role state since) s = exec .bulkSyncRequest (met s))
    ∧ (en → t.st = 3 → t.hello = true → (state = 2 ∨ 3 < state) → exec (.hello role state since) s = .next s)
    ∧ (en → t.st = 3 → t.hello = true → state = 3 → same → exec (.hello role state since) s = .next (fire 0x42 0 (met z)))
    ∧ (en → t.st = 3 → t.hello = true → state = 3 → ¬ same → roleAlt s = false → exec (.hello role state since) s = .next (later (s.bn + 1) 2 (met z)))
    ∧ (en → t.st = 3 → t.hello = true → state = 3 → ¬ same → roleAlt s = true → exec (.hello role state since) s = exec .bulkSyncRequest (met z))
    ∧ (en → ¬ (t.st = 3 ∧ t.hello = true) → state = 3 → exec (.hello role state since) s = .next z)
    ∧ (∀ ty sub (b : List Byte), (t.lanes = 0 → enqueue ty sub b s = s)
        ∧ (t.lanes ≠ 0 → t.txq = [] → t.unacked.length < 4096 → b.length ≤ 1008 → ty ≠ 2 → (enqueue ty sub b s).twin.mseq = t.mseq + 1
          ∧ (enqueue ty sub b s).twin.laneOut.length = t.laneOut.length + 1 ∧ (enqueue ty sub b s).twin.unacked.length = t.unacked.length + 1
          ∧ (enqueue ty sub b s).twin.txq = [] ∧ (enqueue ty sub b s).twin.st = t.st ∧ (enqueue ty sub b s).regs = s.regs))
    ∧ (∀ b c : List Byte, crcRun (crcRun 0xFFFFFFFF b) c ^^^ 0xFFFFFFFF = crc32c (b ++ c))
    ∧ (tx → state ≤ 1 → (own < since ∨ (since = own ∧ roleAlt s = false)) → exec (.hello role state since) s = .next (sendHello s))
    ∧ (tx → state ≤ 1 → (since < own ∨ (since = own ∧ roleAlt s = true)) → exec (.hello role state since) s
        = .next (later (s.bn + 1) 3 (enqueue 5 2 (leBytes 8 (s.bn + 1)) s)))
    ∧ (en → t.st = 2 → state ≠ 3 → exec (.hello role state since) s = .next s)
    ∧ (tx → exec (.takeover x) s = .next (later (Nat.max x (s.bn + 1)) 3 s) ∧ exec (.yield x) s = .next (later (Nat.max x (s.bn + 1)) 3 s))
    ∧ (¬ tx → exec (.takeover x) s = .next s ∧ exec (.yield x) s = .next s)
    ∧ (en → t.st = 2 → exec (.fail x) s = .next (later (Nat.max x (s.bn + 1)) 9 s))
    ∧ (en → t.st = 3 → exec (.fail x) s = .next (later (Nat.max x (s.bn + 1)) 8 s))
    ∧ ((¬ en ∨ (t.st ≠ 2 ∧ t.st ≠ 3)) → exec (.fail x) s = .next s)
    ∧ (en → t.st = 2 → roleAlt s = false → s.bget Reg.TWIN_CFG 30 = true → s.fget Reg.TWIN_CFG 15 0 ≤ t.hClean → exec .revertReq s
        = .next (enqueue 5 3 [] { s with twin := { t with hClean := 0 } }))
    ∧ (en → t.st = 2 → (roleAlt s = true ∨ s.bget Reg.TWIN_CFG 30 = false ∨ t.hClean < s.fget Reg.TWIN_CFG 15 0) → exec .revertReq s = .next s)
    ∧ (tx → t.peerSt = 2 → s.bget Reg.TWIN_CFG 30 = true → EpochOk (s.bn + 16) s → exec .revertReq s = .next (stage (s.bn + 16) [.handover] [] s).2)
    ∧ (tx → (t.peerSt ≠ 2 ∨ s.bget Reg.TWIN_CFG 30 = false) → exec .revertReq s = .next s)
    ∧ (¬ second → exec (.health eye0 eye1) s = .next s)
    ∧ (second → ∃ u, exec (.health eye0 eye1) s = .next u ∧ u.rd Reg.TWIN_HEALTH = word ∧ u.fget Reg.TWIN_EYE 5 0 = Nat.min eye0 63
        ∧ u.fget Reg.TWIN_EYE 13 8 = Nat.min eye1 63 ∧ u.twin.hSeq = t.hSeq + 1 ∧ u.twin.hBits = healthNow s ∧ u.twin.hAt = s.sched.up
        ∧ u.twin.hClean = (if t.st = 2 ∧ bits % 4096 = 0 then t.hClean + (if t.standAt ≤ t.hAt then 1 else 0) else 0) ∧ u.scene = s.scene ∧ u.mem = s.mem)

/-- A step runs the command at the front of the queue with the queue's rest; with an empty queue one AON cycle of 40 ns
passes, which is the model's choice (log entry 4). -/
def Obligations.StepRunsTheFront : Prop :=
  ∀ (s : State),
    (∀ (c : Instr) (q : List Instr), step { s with pending := c :: q } = exec c { s with pending := q })
    ∧ (s.pending = [] → ∃ t, step s = .next t ∧ t.pending = [] ∧ t.sched.up = s.sched.up + 40 ∧ t.scene = s.scene
        ∧ (s.coreOn = true → ∀ q, 19 ≤ q → q ≤ 21 → (t.queue q).transit = [])
        ∧ ((s.coreOn = false ∨ ∀ q, 19 ≤ q → q ≤ 21 → (s.queue q).transit = []) → t.regs = s.regs ∧ t.mem = s.mem
          ∧ t.queues = s.queues ∧ t.cores = s.cores ∧ t.hif = s.hif ∧ t.twin = s.twin))

/-- R46, R77, R78, R82, R95, R100, R164, R183, R273, R294: what reset leaves; memory has its canonical form. The model's
own choices among its clauses are named in log entries 1, 7 and 193. -/
def Obligations.ResetValues : Prop :=
  let r := State.reset
  Inv r ∧ r.pending = [] ∧ r.queues = []
  ∧ (∀ o, r.rd o = (resetWord o).toNat)
  ∧ r.rd Reg.GLB_RENDER_CFG = 32 * 2 ^ 8 ∧ r.rd Reg.GLB_BN_LO = 0
  ∧ (∀ o, (r.obj o).st = .free ∧ (r.obj o).alive = false)
  ∧ (∀ n, r.spkO n = Spk.reset ∧ r.spkR n = Spk.reset) ∧ (∀ n, (r.zone n).temp = 5120 ∧ (r.zone n).dRef = 16384)
  ∧ r.scene.wideN = false ∧ r.scene.wideR = false
  ∧ (∀ n, r.vbap n = List.replicate 12 0) ∧ (∀ n, r.maskSet n = BitVec.allOnes 1024)
  ∧ (∀ p, (r.slotSt p).st = 0) ∧ r.out.routes = [] ∧ r.out.routesEg = []
  ∧ (∀ k, (r.core k).st = .idle ∧ (r.core k).shaped)
  ∧ (∀ i a, r.byteAt a = 0 ∧ r.mem.unwritten i a = false ∧ r.mem.bad.contains a = false)
  ∧ r.rd (Reg.QUEUE_CFG 0) % 2 ^ 16 = 0x4041 ∧ r.rd (Reg.QUEUE_CFG 16) % 2 ^ 16 = 0x4843 ∧ r.rd (Reg.QUEUE_CFG 255) % 2 ^ 16 = 0x7F7F
  ∧ r.sched.rendering = false ∧ r.sched.commits = [] ∧ twinStatus r = 0 ∧ glbWord r Reg.GLB_STATUS = some 1

/-- R236, R237, R240, R241, R244, R245: decoding the word of any bundle of two well-formed operations, with every operand
at every value that the encoding admits, gives the two operations. -/
def Obligations.BundleRoundTrip : Prop :=
  ∀ (x : XOp) (y : YOp), x.wf = true → y.wf = true → decodeBundle (encodeBundle x y) = some (x, y)

/-- Memory keeps its canonical form: whatever command stands at the front of the queue, and on an empty queue, the next
state's memory is again in the form in which equal memories are equal data. The model's own choices among its clauses are
named in log entry 7. -/
def Obligations.StepKeepsInv : Prop :=
  ∀ (s t : State), Inv s → step s = .next t → Inv t
end

