-- ==== Sys2Proof/Laws/Tab.lean ====
section
/-! SUPPORT. The laws of sparse tables: what is read after a write, and that every operation keeps the canonical form. -/

namespace Sys2Proof.Machine.Tab

variable {α : Type}

@[simp] theorem get_nil (d : Nat → α) (k : Nat) : get d [] k = d k := rfl

@[simp] theorem get_ins_self (d : Nat → α) (m : List (Nat × α)) (k : Nat) (v : α) : get d (ins m k v) k = v := by
  induction m with
  | nil => simp [ins, get]
  | cons p m ih =>
    obtain ⟨i, w⟩ := p
    unfold ins
    split
    · simp [get]
    · split
      · simp [get]
      · simp [get, *]

theorem get_ins_ne (d : Nat → α) (m : List (Nat × α)) {k j : Nat} (v : α) (h : j ≠ k) : get d (ins m k v) j = get d m j := by
  induction m with
  | nil => simp [ins, get, h]
  | cons p m ih =>
    obtain ⟨i, w⟩ := p
    unfold ins
    split
    · simp [get, h]
    · split
      · subst_vars; simp [get, h]
      · simp [get, ih]

@[simp] theorem get_del_self (d : Nat → α) (m : List (Nat × α)) (k : Nat) : get d (del m k) k = d k := by
  induction m with
  | nil => rfl
  | cons p m ih =>
    obtain ⟨i, w⟩ := p
    by_cases hi : i = k
    · simpa [del, List.filter_cons, hi] using ih
    · have := ih
      simp only [del] at this ⊢
      simp [hi, get, this, Ne.symm hi]

theorem get_del_ne (d : Nat → α) (m : List (Nat × α)) {k j : Nat} (h : j ≠ k) : get d (del m k) j = get d m j := by
  induction m with
  | nil => rfl
  | cons p m ih =>
    obtain ⟨i, w⟩ := p
    by_cases hi : i = k
    · subst hi; simpa [del, List.filter_cons, get, h] using ih
    · simp only [del] at ih ⊢
      simp [hi, get, ih]

@[simp] theorem get_put_self [DecidableEq α] (d : Nat → α) (m : List (Nat × α)) (k : Nat) (v : α) : get d (put d m k v) k = v := by
  unfold put
  split
  · simp [*]
  · simp

theorem get_put_ne [DecidableEq α] (d : Nat → α) (m : List (Nat × α)) {k j : Nat} (v : α) (h : j ≠ k) :
    get d (put d m k v) j = get d m j := by
  unfold put
  split
  · exact get_del_ne d m h
  · exact get_ins_ne d m v h

/-- What a table reads after a write. -/
theorem get_put [DecidableEq α] (d : Nat → α) (m : List (Nat × α)) (k j : Nat) (v : α) :
    get d (put d m k v) j = if j = k then v else get d m j := by
  split
  · subst_vars; simp
  · exact get_put_ne d m v ‹_›

/-- The bound of `wfFrom` as a proposition. -/
theorem wfFrom_cons [DecidableEq α] (d : Nat → α) (b : Option Nat) (k : Nat) (v : α) (m : List (Nat × α)) :
    wfFrom d b ((k, v) :: m) = true ↔ (∀ y, b = some y → y < k) ∧ v ≠ d k ∧ wfFrom d (some k) m = true := by
  cases b <;> simp [wfFrom, and_assoc]

/-- A rising table above a larger bound is one above a smaller bound. -/
theorem wfFrom_mono [DecidableEq α] {d : Nat → α} {x : Nat} {b : Option Nat} {m : List (Nat × α)} (h : wfFrom d (some x) m = true)
    (hb : ∀ y, b = some y → y ≤ x) : wfFrom d b m = true := by
  cases m with
  | nil => rfl
  | cons p m =>
    obtain ⟨i, w⟩ := p
    rw [wfFrom_cons] at h ⊢
    exact ⟨fun y hy => Nat.lt_of_le_of_lt (hb y hy) (h.1 x rfl), h.2⟩

theorem wfFrom_ins [DecidableEq α] (d : Nat → α) (m : List (Nat × α)) (b : Option Nat) (k : Nat) (v : α) (hm : wfFrom d b m = true)
    (hk : ∀ y, b = some y → y < k) (hv : v ≠ d k) : wfFrom d b (ins m k v) = true := by
  induction m generalizing b with
  | nil => exact (wfFrom_cons ..).2 ⟨hk, hv, rfl⟩
  | cons p m ih =>
    obtain ⟨i, w⟩ := p
    rw [wfFrom_cons] at hm
    unfold ins
    split
    · refine (wfFrom_cons ..).2 ⟨hk, hv, (wfFrom_cons ..).2 ⟨?_, hm.2⟩⟩
      intro y hy
      simp only [Option.some.injEq] at hy
      omega
    · split
      · subst_vars
        exact (wfFrom_cons ..).2 ⟨hk, hv, hm.2.2⟩
      · refine (wfFrom_cons ..).2 ⟨hm.1, hm.2.1, ih (some i) hm.2.2 ?_⟩
        intro y hy
        simp only [Option.some.injEq] at hy
        omega

theorem wfFrom_filter [DecidableEq α] (d : Nat → α) (m : List (Nat × α)) (b : Option Nat) (p : Nat × α → Bool) (hm : wfFrom d b m = true) :
    wfFrom d b (m.filter p) = true := by
  induction m generalizing b with
  | nil => rfl
  | cons q m ih =>
    obtain ⟨i, w⟩ := q
    rw [wfFrom_cons] at hm
    rw [List.filter_cons]
    split
    · exact (wfFrom_cons ..).2 ⟨hm.1, hm.2.1, ih (some i) hm.2.2⟩
    · exact ih b (wfFrom_mono hm.2.2 (fun y hy => Nat.le_of_lt (hm.1 y hy)))

/-- Dropping pairs keeps the canonical form. -/
theorem wf_filter [DecidableEq α] (d : Nat → α) (m : List (Nat × α)) (p : Nat × α → Bool) (hm : wf d m = true) : wf d (m.filter p) = true :=
  wfFrom_filter d m none p hm

/-- A write keeps the canonical form. -/
theorem wf_put [DecidableEq α] (d : Nat → α) (m : List (Nat × α)) (k : Nat) (v : α) (hm : wf d m = true) : wf d (put d m k v) = true := by
  unfold put
  split
  · exact wf_filter d m _ hm
  · exact wfFrom_ins d m none k v hm (by simp) ‹_›

end Sys2Proof.Machine.Tab
end

