-- ==== Sys2Proof/Laws/State.lean ====
section
/-! SUPPORT. What each update of the state leaves: one lemma for each field, true by unfolding the record; and what an accessor
reads after the update of its own table. -/

namespace Sys2Proof.Machine

set_option Elab.async false

/-! `State.wr` changes regs. -/

@[simp] theorem State.wr_pending (s : State) (off v : Nat) : (s.wr off v).pending = s.pending := by unfold State.wr; rfl
@[simp] theorem State.wr_freeCtr (s : State) (off v : Nat) : (s.wr off v).freeCtr = s.freeCtr := by unfold State.wr; rfl
@[simp] theorem State.wr_variant (s : State) (off v : Nat) : (s.wr off v).variant = s.variant := by unfold State.wr; rfl
@[simp] theorem State.wr_readData (s : State) (off v : Nat) : (s.wr off v).readData = s.readData := by unfold State.wr; rfl
@[simp] theorem State.wr_readEP (s : State) (off v : Nat) : (s.wr off v).readEP = s.readEP := by unfold State.wr; rfl
@[simp] theorem State.wr_readFault (s : State) (off v : Nat) : (s.wr off v).readFault = s.readFault := by unfold State.wr; rfl
@[simp] theorem State.wr_otherData (s : State) (off v : Nat) : (s.wr off v).otherData = s.otherData := by unfold State.wr; rfl
@[simp] theorem State.wr_dramUnit (s : State) (off v : Nat) : (s.wr off v).dramUnit = s.dramUnit := by unfold State.wr; rfl
@[simp] theorem State.wr_dramOut (s : State) (off v : Nat) : (s.wr off v).dramOut = s.dramOut := by unfold State.wr; rfl
@[simp] theorem State.wr_latches (s : State) (off v : Nat) : (s.wr off v).latches = s.latches := by unfold State.wr; rfl
@[simp] theorem State.wr_held (s : State) (off v : Nat) : (s.wr off v).held = s.held := by unfold State.wr; rfl
@[simp] theorem State.wr_qHold (s : State) (off v : Nat) : (s.wr off v).qHold = s.qHold := by unfold State.wr; rfl
@[simp] theorem State.wr_qLatch (s : State) (off v : Nat) : (s.wr off v).qLatch = s.qLatch := by unfold State.wr; rfl
@[simp] theorem State.wr_pairs (s : State) (off v : Nat) : (s.wr off v).pairs = s.pairs := by unfold State.wr; rfl
@[simp] theorem State.wr_queues (s : State) (off v : Nat) : (s.wr off v).queues = s.queues := by unfold State.wr; rfl
@[simp] theorem State.wr_mem (s : State) (off v : Nat) : (s.wr off v).mem = s.mem := by unfold State.wr; rfl
@[simp] theorem State.wr_sched (s : State) (off v : Nat) : (s.wr off v).sched = s.sched := by unfold State.wr; rfl
@[simp] theorem State.wr_scene (s : State) (off v : Nat) : (s.wr off v).scene = s.scene := by unfold State.wr; rfl
@[simp] theorem State.wr_out (s : State) (off v : Nat) : (s.wr off v).out = s.out := by unfold State.wr; rfl
@[simp] theorem State.wr_cores (s : State) (off v : Nat) : (s.wr off v).cores = s.cores := by unfold State.wr; rfl
@[simp] theorem State.wr_time (s : State) (off v : Nat) : (s.wr off v).time = s.time := by unfold State.wr; rfl
@[simp] theorem State.wr_hif (s : State) (off v : Nat) : (s.wr off v).hif = s.hif := by unfold State.wr; rfl
@[simp] theorem State.wr_stat (s : State) (off v : Nat) : (s.wr off v).stat = s.stat := by unfold State.wr; rfl
@[simp] theorem State.wr_twin (s : State) (off v : Nat) : (s.wr off v).twin = s.twin := by unfold State.wr; rfl
@[simp] theorem State.wr_ddr (s : State) (off v : Nat) : (s.wr off v).ddr = s.ddr := by unfold State.wr; rfl
@[simp] theorem State.wr_net (s : State) (off v : Nat) : (s.wr off v).net = s.net := by unfold State.wr; rfl
@[simp] theorem State.wr_strm (s : State) (off v : Nat) : (s.wr off v).strm = s.strm := by unfold State.wr; rfl
@[simp] theorem State.wr_cond (s : State) (off v : Nat) : (s.wr off v).cond = s.cond := by unfold State.wr; rfl
@[simp] theorem State.wr_pwr (s : State) (off v : Nat) : (s.wr off v).pwr = s.pwr := by unfold State.wr; rfl
@[simp] theorem State.wr_sec (s : State) (off v : Nat) : (s.wr off v).sec = s.sec := by unfold State.wr; rfl
@[simp] theorem State.wr_coreAt (s : State) (off v : Nat) (j : Nat) : (s.wr off v).core j = s.core j := by unfold State.wr; rfl
@[simp] theorem State.wr_queueAt (s : State) (off v : Nat) (j : Nat) : (s.wr off v).queue j = s.queue j := by unfold State.wr; rfl
@[simp] theorem State.wr_objAt (s : State) (off v : Nat) (j : Nat) : (s.wr off v).obj j = s.obj j := by unfold State.wr; rfl

/-! `State.fset` changes regs. -/

@[simp] theorem State.fset_pending (s : State) (off hi lo v : Nat) : (s.fset off hi lo v).pending = s.pending := by unfold State.fset; rfl
@[simp] theorem State.fset_freeCtr (s : State) (off hi lo v : Nat) : (s.fset off hi lo v).freeCtr = s.freeCtr := by unfold State.fset; rfl
@[simp] theorem State.fset_variant (s : State) (off hi lo v : Nat) : (s.fset off hi lo v).variant = s.variant := by unfold State.fset; rfl
@[simp] theorem State.fset_readData (s : State) (off hi lo v : Nat) : (s.fset off hi lo v).readData = s.readData := by unfold State.fset; rfl
@[simp] theorem State.fset_readEP (s : State) (off hi lo v : Nat) : (s.fset off hi lo v).readEP = s.readEP := by unfold State.fset; rfl
@[simp] theorem State.fset_readFault (s : State) (off hi lo v : Nat) : (s.fset off hi lo v).readFault = s.readFault := by unfold State.fset; rfl
@[simp] theorem State.fset_otherData (s : State) (off hi lo v : Nat) : (s.fset off hi lo v).otherData = s.otherData := by unfold State.fset; rfl
@[simp] theorem State.fset_dramUnit (s : State) (off hi lo v : Nat) : (s.fset off hi lo v).dramUnit = s.dramUnit := by unfold State.fset; rfl
@[simp] theorem State.fset_dramOut (s : State) (off hi lo v : Nat) : (s.fset off hi lo v).dramOut = s.dramOut := by unfold State.fset; rfl
@[simp] theorem State.fset_latches (s : State) (off hi lo v : Nat) : (s.fset off hi lo v).latches = s.latches := by unfold State.fset; rfl
@[simp] theorem State.fset_held (s : State) (off hi lo v : Nat) : (s.fset off hi lo v).held = s.held := by unfold State.fset; rfl
@[simp] theorem State.fset_qHold (s : State) (off hi lo v : Nat) : (s.fset off hi lo v).qHold = s.qHold := by unfold State.fset; rfl
@[simp] theorem State.fset_qLatch (s : State) (off hi lo v : Nat) : (s.fset off hi lo v).qLatch = s.qLatch := by unfold State.fset; rfl
@[simp] theorem State.fset_pairs (s : State) (off hi lo v : Nat) : (s.fset off hi lo v).pairs = s.pairs := by unfold State.fset; rfl
@[simp] theorem State.fset_queues (s : State) (off hi lo v : Nat) : (s.fset off hi lo v).queues = s.queues := by unfold State.fset; rfl
@[simp] theorem State.fset_mem (s : State) (off hi lo v : Nat) : (s.fset off hi lo v).mem = s.mem := by unfold State.fset; rfl
@[simp] theorem State.fset_sched (s : State) (off hi lo v : Nat) : (s.fset off hi lo v).sched = s.sched := by unfold State.fset; rfl
@[simp] theorem State.fset_scene (s : State) (off hi lo v : Nat) : (s.fset off hi lo v).scene = s.scene := by unfold State.fset; rfl
@[simp] theorem State.fset_out (s : State) (off hi lo v : Nat) : (s.fset off hi lo v).out = s.out := by unfold State.fset; rfl
@[simp] theorem State.fset_cores (s : State) (off hi lo v : Nat) : (s.fset off hi lo v).cores = s.cores := by unfold State.fset; rfl
@[simp] theorem State.fset_time (s : State) (off hi lo v : Nat) : (s.fset off hi lo v).time = s.time := by unfold State.fset; rfl
@[simp] theorem State.fset_hif (s : State) (off hi lo v : Nat) : (s.fset off hi lo v).hif = s.hif := by unfold State.fset; rfl
@[simp] theorem State.fset_stat (s : State) (off hi lo v : Nat) : (s.fset off hi lo v).stat = s.stat := by unfold State.fset; rfl
@[simp] theorem State.fset_twin (s : State) (off hi lo v : Nat) : (s.fset off hi lo v).twin = s.twin := by unfold State.fset; rfl
@[simp] theorem State.fset_ddr (s : State) (off hi lo v : Nat) : (s.fset off hi lo v).ddr = s.ddr := by unfold State.fset; rfl
@[simp] theorem State.fset_net (s : State) (off hi lo v : Nat) : (s.fset off hi lo v).net = s.net := by unfold State.fset; rfl
@[simp] theorem State.fset_strm (s : State) (off hi lo v : Nat) : (s.fset off hi lo v).strm = s.strm := by unfold State.fset; rfl
@[simp] theorem State.fset_cond (s : State) (off hi lo v : Nat) : (s.fset off hi lo v).cond = s.cond := by unfold State.fset; rfl
@[simp] theorem State.fset_pwr (s : State) (off hi lo v : Nat) : (s.fset off hi lo v).pwr = s.pwr := by unfold State.fset; rfl
@[simp] theorem State.fset_sec (s : State) (off hi lo v : Nat) : (s.fset off hi lo v).sec = s.sec := by unfold State.fset; rfl
@[simp] theorem State.fset_coreAt (s : State) (off hi lo v : Nat) (j : Nat) : (s.fset off hi lo v).core j = s.core j := by unfold State.fset; rfl
@[simp] theorem State.fset_queueAt (s : State) (off hi lo v : Nat) (j : Nat) : (s.fset off hi lo v).queue j = s.queue j := by unfold State.fset; rfl
@[simp] theorem State.fset_objAt (s : State) (off hi lo v : Nat) (j : Nat) : (s.fset off hi lo v).obj j = s.obj j := by unfold State.fset; rfl

/-! `State.bset` changes regs. -/

@[simp] theorem State.bset_pending (s : State) (off b : Nat) (v : Bool) : (s.bset off b v).pending = s.pending := by unfold State.bset; rfl
@[simp] theorem State.bset_freeCtr (s : State) (off b : Nat) (v : Bool) : (s.bset off b v).freeCtr = s.freeCtr := by unfold State.bset; rfl
@[simp] theorem State.bset_variant (s : State) (off b : Nat) (v : Bool) : (s.bset off b v).variant = s.variant := by unfold State.bset; rfl
@[simp] theorem State.bset_readData (s : State) (off b : Nat) (v : Bool) : (s.bset off b v).readData = s.readData := by unfold State.bset; rfl
@[simp] theorem State.bset_readEP (s : State) (off b : Nat) (v : Bool) : (s.bset off b v).readEP = s.readEP := by unfold State.bset; rfl
@[simp] theorem State.bset_readFault (s : State) (off b : Nat) (v : Bool) : (s.bset off b v).readFault = s.readFault := by unfold State.bset; rfl
@[simp] theorem State.bset_otherData (s : State) (off b : Nat) (v : Bool) : (s.bset off b v).otherData = s.otherData := by unfold State.bset; rfl
@[simp] theorem State.bset_dramUnit (s : State) (off b : Nat) (v : Bool) : (s.bset off b v).dramUnit = s.dramUnit := by unfold State.bset; rfl
@[simp] theorem State.bset_dramOut (s : State) (off b : Nat) (v : Bool) : (s.bset off b v).dramOut = s.dramOut := by unfold State.bset; rfl
@[simp] theorem State.bset_latches (s : State) (off b : Nat) (v : Bool) : (s.bset off b v).latches = s.latches := by unfold State.bset; rfl
@[simp] theorem State.bset_held (s : State) (off b : Nat) (v : Bool) : (s.bset off b v).held = s.held := by unfold State.bset; rfl
@[simp] theorem State.bset_qHold (s : State) (off b : Nat) (v : Bool) : (s.bset off b v).qHold = s.qHold := by unfold State.bset; rfl
@[simp] theorem State.bset_qLatch (s : State) (off b : Nat) (v : Bool) : (s.bset off b v).qLatch = s.qLatch := by unfold State.bset; rfl
@[simp] theorem State.bset_pairs (s : State) (off b : Nat) (v : Bool) : (s.bset off b v).pairs = s.pairs := by unfold State.bset; rfl
@[simp] theorem State.bset_queues (s : State) (off b : Nat) (v : Bool) : (s.bset off b v).queues = s.queues := by unfold State.bset; rfl
@[simp] theorem State.bset_mem (s : State) (off b : Nat) (v : Bool) : (s.bset off b v).mem = s.mem := by unfold State.bset; rfl
@[simp] theorem State.bset_sched (s : State) (off b : Nat) (v : Bool) : (s.bset off b v).sched = s.sched := by unfold State.bset; rfl
@[simp] theorem State.bset_scene (s : State) (off b : Nat) (v : Bool) : (s.bset off b v).scene = s.scene := by unfold State.bset; rfl
@[simp] theorem State.bset_out (s : State) (off b : Nat) (v : Bool) : (s.bset off b v).out = s.out := by unfold State.bset; rfl
@[simp] theorem State.bset_cores (s : State) (off b : Nat) (v : Bool) : (s.bset off b v).cores = s.cores := by unfold State.bset; rfl
@[simp] theorem State.bset_time (s : State) (off b : Nat) (v : Bool) : (s.bset off b v).time = s.time := by unfold State.bset; rfl
@[simp] theorem State.bset_hif (s : State) (off b : Nat) (v : Bool) : (s.bset off b v).hif = s.hif := by unfold State.bset; rfl
@[simp] theorem State.bset_stat (s : State) (off b : Nat) (v : Bool) : (s.bset off b v).stat = s.stat := by unfold State.bset; rfl
@[simp] theorem State.bset_twin (s : State) (off b : Nat) (v : Bool) : (s.bset off b v).twin = s.twin := by unfold State.bset; rfl
@[simp] theorem State.bset_ddr (s : State) (off b : Nat) (v : Bool) : (s.bset off b v).ddr = s.ddr := by unfold State.bset; rfl
@[simp] theorem State.bset_net (s : State) (off b : Nat) (v : Bool) : (s.bset off b v).net = s.net := by unfold State.bset; rfl
@[simp] theorem State.bset_strm (s : State) (off b : Nat) (v : Bool) : (s.bset off b v).strm = s.strm := by unfold State.bset; rfl
@[simp] theorem State.bset_cond (s : State) (off b : Nat) (v : Bool) : (s.bset off b v).cond = s.cond := by unfold State.bset; rfl
@[simp] theorem State.bset_pwr (s : State) (off b : Nat) (v : Bool) : (s.bset off b v).pwr = s.pwr := by unfold State.bset; rfl
@[simp] theorem State.bset_sec (s : State) (off b : Nat) (v : Bool) : (s.bset off b v).sec = s.sec := by unfold State.bset; rfl
@[simp] theorem State.bset_coreAt (s : State) (off b : Nat) (v : Bool) (j : Nat) : (s.bset off b v).core j = s.core j := by unfold State.bset; rfl
@[simp] theorem State.bset_queueAt (s : State) (off b : Nat) (v : Bool) (j : Nat) : (s.bset off b v).queue j = s.queue j := by unfold State.bset; rfl
@[simp] theorem State.bset_objAt (s : State) (off b : Nat) (v : Bool) (j : Nat) : (s.bset off b v).obj j = s.obj j := by unfold State.bset; rfl

/-! `State.count` changes regs. -/

@[simp] theorem State.count_pending (s : State) (off n : Nat) : (s.count off n).pending = s.pending := by unfold State.count; rfl
@[simp] theorem State.count_freeCtr (s : State) (off n : Nat) : (s.count off n).freeCtr = s.freeCtr := by unfold State.count; rfl
@[simp] theorem State.count_variant (s : State) (off n : Nat) : (s.count off n).variant = s.variant := by unfold State.count; rfl
@[simp] theorem State.count_readData (s : State) (off n : Nat) : (s.count off n).readData = s.readData := by unfold State.count; rfl
@[simp] theorem State.count_readEP (s : State) (off n : Nat) : (s.count off n).readEP = s.readEP := by unfold State.count; rfl
@[simp] theorem State.count_readFault (s : State) (off n : Nat) : (s.count off n).readFault = s.readFault := by unfold State.count; rfl
@[simp] theorem State.count_otherData (s : State) (off n : Nat) : (s.count off n).otherData = s.otherData := by unfold State.count; rfl
@[simp] theorem State.count_dramUnit (s : State) (off n : Nat) : (s.count off n).dramUnit = s.dramUnit := by unfold State.count; rfl
@[simp] theorem State.count_dramOut (s : State) (off n : Nat) : (s.count off n).dramOut = s.dramOut := by unfold State.count; rfl
@[simp] theorem State.count_latches (s : State) (off n : Nat) : (s.count off n).latches = s.latches := by unfold State.count; rfl
@[simp] theorem State.count_held (s : State) (off n : Nat) : (s.count off n).held = s.held := by unfold State.count; rfl
@[simp] theorem State.count_qHold (s : State) (off n : Nat) : (s.count off n).qHold = s.qHold := by unfold State.count; rfl
@[simp] theorem State.count_qLatch (s : State) (off n : Nat) : (s.count off n).qLatch = s.qLatch := by unfold State.count; rfl
@[simp] theorem State.count_pairs (s : State) (off n : Nat) : (s.count off n).pairs = s.pairs := by unfold State.count; rfl
@[simp] theorem State.count_queues (s : State) (off n : Nat) : (s.count off n).queues = s.queues := by unfold State.count; rfl
@[simp] theorem State.count_mem (s : State) (off n : Nat) : (s.count off n).mem = s.mem := by unfold State.count; rfl
@[simp] theorem State.count_sched (s : State) (off n : Nat) : (s.count off n).sched = s.sched := by unfold State.count; rfl
@[simp] theorem State.count_scene (s : State) (off n : Nat) : (s.count off n).scene = s.scene := by unfold State.count; rfl
@[simp] theorem State.count_out (s : State) (off n : Nat) : (s.count off n).out = s.out := by unfold State.count; rfl
@[simp] theorem State.count_cores (s : State) (off n : Nat) : (s.count off n).cores = s.cores := by unfold State.count; rfl
@[simp] theorem State.count_time (s : State) (off n : Nat) : (s.count off n).time = s.time := by unfold State.count; rfl
@[simp] theorem State.count_hif (s : State) (off n : Nat) : (s.count off n).hif = s.hif := by unfold State.count; rfl
@[simp] theorem State.count_stat (s : State) (off n : Nat) : (s.count off n).stat = s.stat := by unfold State.count; rfl
@[simp] theorem State.count_twin (s : State) (off n : Nat) : (s.count off n).twin = s.twin := by unfold State.count; rfl
@[simp] theorem State.count_ddr (s : State) (off n : Nat) : (s.count off n).ddr = s.ddr := by unfold State.count; rfl
@[simp] theorem State.count_net (s : State) (off n : Nat) : (s.count off n).net = s.net := by unfold State.count; rfl
@[simp] theorem State.count_strm (s : State) (off n : Nat) : (s.count off n).strm = s.strm := by unfold State.count; rfl
@[simp] theorem State.count_cond (s : State) (off n : Nat) : (s.count off n).cond = s.cond := by unfold State.count; rfl
@[simp] theorem State.count_pwr (s : State) (off n : Nat) : (s.count off n).pwr = s.pwr := by unfold State.count; rfl
@[simp] theorem State.count_sec (s : State) (off n : Nat) : (s.count off n).sec = s.sec := by unfold State.count; rfl
@[simp] theorem State.count_coreAt (s : State) (off n : Nat) (j : Nat) : (s.count off n).core j = s.core j := by unfold State.count; rfl
@[simp] theorem State.count_queueAt (s : State) (off n : Nat) (j : Nat) : (s.count off n).queue j = s.queue j := by unfold State.count; rfl
@[simp] theorem State.count_objAt (s : State) (off n : Nat) (j : Nat) : (s.count off n).obj j = s.obj j := by unfold State.count; rfl

/-! `State.wr64` changes regs. -/

@[simp] theorem State.wr64_pending (s : State) (lo v : Nat) : (s.wr64 lo v).pending = s.pending := by unfold State.wr64; rfl
@[simp] theorem State.wr64_freeCtr (s : State) (lo v : Nat) : (s.wr64 lo v).freeCtr = s.freeCtr := by unfold State.wr64; rfl
@[simp] theorem State.wr64_variant (s : State) (lo v : Nat) : (s.wr64 lo v).variant = s.variant := by unfold State.wr64; rfl
@[simp] theorem State.wr64_readData (s : State) (lo v : Nat) : (s.wr64 lo v).readData = s.readData := by unfold State.wr64; rfl
@[simp] theorem State.wr64_readEP (s : State) (lo v : Nat) : (s.wr64 lo v).readEP = s.readEP := by unfold State.wr64; rfl
@[simp] theorem State.wr64_readFault (s : State) (lo v : Nat) : (s.wr64 lo v).readFault = s.readFault := by unfold State.wr64; rfl
@[simp] theorem State.wr64_otherData (s : State) (lo v : Nat) : (s.wr64 lo v).otherData = s.otherData := by unfold State.wr64; rfl
@[simp] theorem State.wr64_dramUnit (s : State) (lo v : Nat) : (s.wr64 lo v).dramUnit = s.dramUnit := by unfold State.wr64; rfl
@[simp] theorem State.wr64_dramOut (s : State) (lo v : Nat) : (s.wr64 lo v).dramOut = s.dramOut := by unfold State.wr64; rfl
@[simp] theorem State.wr64_latches (s : State) (lo v : Nat) : (s.wr64 lo v).latches = s.latches := by unfold State.wr64; rfl
@[simp] theorem State.wr64_held (s : State) (lo v : Nat) : (s.wr64 lo v).held = s.held := by unfold State.wr64; rfl
@[simp] theorem State.wr64_qHold (s : State) (lo v : Nat) : (s.wr64 lo v).qHold = s.qHold := by unfold State.wr64; rfl
@[simp] theorem State.wr64_qLatch (s : State) (lo v : Nat) : (s.wr64 lo v).qLatch = s.qLatch := by unfold State.wr64; rfl
@[simp] theorem State.wr64_pairs (s : State) (lo v : Nat) : (s.wr64 lo v).pairs = s.pairs := by unfold State.wr64; rfl
@[simp] theorem State.wr64_queues (s : State) (lo v : Nat) : (s.wr64 lo v).queues = s.queues := by unfold State.wr64; rfl
@[simp] theorem State.wr64_mem (s : State) (lo v : Nat) : (s.wr64 lo v).mem = s.mem := by unfold State.wr64; rfl
@[simp] theorem State.wr64_sched (s : State) (lo v : Nat) : (s.wr64 lo v).sched = s.sched := by unfold State.wr64; rfl
@[simp] theorem State.wr64_scene (s : State) (lo v : Nat) : (s.wr64 lo v).scene = s.scene := by unfold State.wr64; rfl
@[simp] theorem State.wr64_out (s : State) (lo v : Nat) : (s.wr64 lo v).out = s.out := by unfold State.wr64; rfl
@[simp] theorem State.wr64_cores (s : State) (lo v : Nat) : (s.wr64 lo v).cores = s.cores := by unfold State.wr64; rfl
@[simp] theorem State.wr64_time (s : State) (lo v : Nat) : (s.wr64 lo v).time = s.time := by unfold State.wr64; rfl
@[simp] theorem State.wr64_hif (s : State) (lo v : Nat) : (s.wr64 lo v).hif = s.hif := by unfold State.wr64; rfl
@[simp] theorem State.wr64_stat (s : State) (lo v : Nat) : (s.wr64 lo v).stat = s.stat := by unfold State.wr64; rfl
@[simp] theorem State.wr64_twin (s : State) (lo v : Nat) : (s.wr64 lo v).twin = s.twin := by unfold State.wr64; rfl
@[simp] theorem State.wr64_ddr (s : State) (lo v : Nat) : (s.wr64 lo v).ddr = s.ddr := by unfold State.wr64; rfl
@[simp] theorem State.wr64_net (s : State) (lo v : Nat) : (s.wr64 lo v).net = s.net := by unfold State.wr64; rfl
@[simp] theorem State.wr64_strm (s : State) (lo v : Nat) : (s.wr64 lo v).strm = s.strm := by unfold State.wr64; rfl
@[simp] theorem State.wr64_cond (s : State) (lo v : Nat) : (s.wr64 lo v).cond = s.cond := by unfold State.wr64; rfl
@[simp] theorem State.wr64_pwr (s : State) (lo v : Nat) : (s.wr64 lo v).pwr = s.pwr := by unfold State.wr64; rfl
@[simp] theorem State.wr64_sec (s : State) (lo v : Nat) : (s.wr64 lo v).sec = s.sec := by unfold State.wr64; rfl
@[simp] theorem State.wr64_coreAt (s : State) (lo v : Nat) (j : Nat) : (s.wr64 lo v).core j = s.core j := by unfold State.wr64; rfl
@[simp] theorem State.wr64_queueAt (s : State) (lo v : Nat) (j : Nat) : (s.wr64 lo v).queue j = s.queue j := by unfold State.wr64; rfl
@[simp] theorem State.wr64_objAt (s : State) (lo v : Nat) (j : Nat) : (s.wr64 lo v).obj j = s.obj j := by unfold State.wr64; rfl

/-! `State.latch` changes latches. -/

@[simp] theorem State.latch_pending (s : State) (m : Master) (off : Nat) (v : Word) : (s.latch m off v).pending = s.pending := by unfold State.latch; rfl
@[simp] theorem State.latch_freeCtr (s : State) (m : Master) (off : Nat) (v : Word) : (s.latch m off v).freeCtr = s.freeCtr := by unfold State.latch; rfl
@[simp] theorem State.latch_variant (s : State) (m : Master) (off : Nat) (v : Word) : (s.latch m off v).variant = s.variant := by unfold State.latch; rfl
@[simp] theorem State.latch_readData (s : State) (m : Master) (off : Nat) (v : Word) : (s.latch m off v).readData = s.readData := by unfold State.latch; rfl
@[simp] theorem State.latch_readEP (s : State) (m : Master) (off : Nat) (v : Word) : (s.latch m off v).readEP = s.readEP := by unfold State.latch; rfl
@[simp] theorem State.latch_readFault (s : State) (m : Master) (off : Nat) (v : Word) : (s.latch m off v).readFault = s.readFault := by unfold State.latch; rfl
@[simp] theorem State.latch_otherData (s : State) (m : Master) (off : Nat) (v : Word) : (s.latch m off v).otherData = s.otherData := by unfold State.latch; rfl
@[simp] theorem State.latch_dramUnit (s : State) (m : Master) (off : Nat) (v : Word) : (s.latch m off v).dramUnit = s.dramUnit := by unfold State.latch; rfl
@[simp] theorem State.latch_dramOut (s : State) (m : Master) (off : Nat) (v : Word) : (s.latch m off v).dramOut = s.dramOut := by unfold State.latch; rfl
@[simp] theorem State.latch_regs (s : State) (m : Master) (off : Nat) (v : Word) : (s.latch m off v).regs = s.regs := by unfold State.latch; rfl
@[simp] theorem State.latch_held (s : State) (m : Master) (off : Nat) (v : Word) : (s.latch m off v).held = s.held := by unfold State.latch; rfl
@[simp] theorem State.latch_qHold (s : State) (m : Master) (off : Nat) (v : Word) : (s.latch m off v).qHold = s.qHold := by unfold State.latch; rfl
@[simp] theorem State.latch_qLatch (s : State) (m : Master) (off : Nat) (v : Word) : (s.latch m off v).qLatch = s.qLatch := by unfold State.latch; rfl
@[simp] theorem State.latch_pairs (s : State) (m : Master) (off : Nat) (v : Word) : (s.latch m off v).pairs = s.pairs := by unfold State.latch; rfl
@[simp] theorem State.latch_queues (s : State) (m : Master) (off : Nat) (v : Word) : (s.latch m off v).queues = s.queues := by unfold State.latch; rfl
@[simp] theorem State.latch_mem (s : State) (m : Master) (off : Nat) (v : Word) : (s.latch m off v).mem = s.mem := by unfold State.latch; rfl
@[simp] theorem State.latch_sched (s : State) (m : Master) (off : Nat) (v : Word) : (s.latch m off v).sched = s.sched := by unfold State.latch; rfl
@[simp] theorem State.latch_scene (s : State) (m : Master) (off : Nat) (v : Word) : (s.latch m off v).scene = s.scene := by unfold State.latch; rfl
@[simp] theorem State.latch_out (s : State) (m : Master) (off : Nat) (v : Word) : (s.latch m off v).out = s.out := by unfold State.latch; rfl
@[simp] theorem State.latch_cores (s : State) (m : Master) (off : Nat) (v : Word) : (s.latch m off v).cores = s.cores := by unfold State.latch; rfl
@[simp] theorem State.latch_time (s : State) (m : Master) (off : Nat) (v : Word) : (s.latch m off v).time = s.time := by unfold State.latch; rfl
@[simp] theorem State.latch_hif (s : State) (m : Master) (off : Nat) (v : Word) : (s.latch m off v).hif = s.hif := by unfold State.latch; rfl
@[simp] theorem State.latch_stat (s : State) (m : Master) (off : Nat) (v : Word) : (s.latch m off v).stat = s.stat := by unfold State.latch; rfl
@[simp] theorem State.latch_twin (s : State) (m : Master) (off : Nat) (v : Word) : (s.latch m off v).twin = s.twin := by unfold State.latch; rfl
@[simp] theorem State.latch_ddr (s : State) (m : Master) (off : Nat) (v : Word) : (s.latch m off v).ddr = s.ddr := by unfold State.latch; rfl
@[simp] theorem State.latch_net (s : State) (m : Master) (off : Nat) (v : Word) : (s.latch m off v).net = s.net := by unfold State.latch; rfl
@[simp] theorem State.latch_strm (s : State) (m : Master) (off : Nat) (v : Word) : (s.latch m off v).strm = s.strm := by unfold State.latch; rfl
@[simp] theorem State.latch_cond (s : State) (m : Master) (off : Nat) (v : Word) : (s.latch m off v).cond = s.cond := by unfold State.latch; rfl
@[simp] theorem State.latch_pwr (s : State) (m : Master) (off : Nat) (v : Word) : (s.latch m off v).pwr = s.pwr := by unfold State.latch; rfl
@[simp] theorem State.latch_sec (s : State) (m : Master) (off : Nat) (v : Word) : (s.latch m off v).sec = s.sec := by unfold State.latch; rfl
@[simp] theorem State.latch_rdAt (s : State) (m : Master) (off : Nat) (v : Word) (a : Nat) : (s.latch m off v).rd a = s.rd a := by unfold State.latch; rfl
@[simp] theorem State.latch_coreAt (s : State) (m : Master) (off : Nat) (v : Word) (j : Nat) : (s.latch m off v).core j = s.core j := by unfold State.latch; rfl
@[simp] theorem State.latch_queueAt (s : State) (m : Master) (off : Nat) (v : Word) (j : Nat) : (s.latch m off v).queue j = s.queue j := by unfold State.latch; rfl
@[simp] theorem State.latch_objAt (s : State) (m : Master) (off : Nat) (v : Word) (j : Nat) : (s.latch m off v).obj j = s.obj j := by unfold State.latch; rfl

/-! `State.unlatch` changes latches. -/

@[simp] theorem State.unlatch_pending (s : State) (m : Master) (off : Nat) : (s.unlatch m off).pending = s.pending := by unfold State.unlatch; rfl
@[simp] theorem State.unlatch_freeCtr (s : State) (m : Master) (off : Nat) : (s.unlatch m off).freeCtr = s.freeCtr := by unfold State.unlatch; rfl
@[simp] theorem State.unlatch_variant (s : State) (m : Master) (off : Nat) : (s.unlatch m off).variant = s.variant := by unfold State.unlatch; rfl
@[simp] theorem State.unlatch_readData (s : State) (m : Master) (off : Nat) : (s.unlatch m off).readData = s.readData := by unfold State.unlatch; rfl
@[simp] theorem State.unlatch_readEP (s : State) (m : Master) (off : Nat) : (s.unlatch m off).readEP = s.readEP := by unfold State.unlatch; rfl
@[simp] theorem State.unlatch_readFault (s : State) (m : Master) (off : Nat) : (s.unlatch m off).readFault = s.readFault := by unfold State.unlatch; rfl
@[simp] theorem State.unlatch_otherData (s : State) (m : Master) (off : Nat) : (s.unlatch m off).otherData = s.otherData := by unfold State.unlatch; rfl
@[simp] theorem State.unlatch_dramUnit (s : State) (m : Master) (off : Nat) : (s.unlatch m off).dramUnit = s.dramUnit := by unfold State.unlatch; rfl
@[simp] theorem State.unlatch_dramOut (s : State) (m : Master) (off : Nat) : (s.unlatch m off).dramOut = s.dramOut := by unfold State.unlatch; rfl
@[simp] theorem State.unlatch_regs (s : State) (m : Master) (off : Nat) : (s.unlatch m off).regs = s.regs := by unfold State.unlatch; rfl
@[simp] theorem State.unlatch_held (s : State) (m : Master) (off : Nat) : (s.unlatch m off).held = s.held := by unfold State.unlatch; rfl
@[simp] theorem State.unlatch_qHold (s : State) (m : Master) (off : Nat) : (s.unlatch m off).qHold = s.qHold := by unfold State.unlatch; rfl
@[simp] theorem State.unlatch_qLatch (s : State) (m : Master) (off : Nat) : (s.unlatch m off).qLatch = s.qLatch := by unfold State.unlatch; rfl
@[simp] theorem State.unlatch_pairs (s : State) (m : Master) (off : Nat) : (s.unlatch m off).pairs = s.pairs := by unfold State.unlatch; rfl
@[simp] theorem State.unlatch_queues (s : State) (m : Master) (off : Nat) : (s.unlatch m off).queues = s.queues := by unfold State.unlatch; rfl
@[simp] theorem State.unlatch_mem (s : State) (m : Master) (off : Nat) : (s.unlatch m off).mem = s.mem := by unfold State.unlatch; rfl
@[simp] theorem State.unlatch_sched (s : State) (m : Master) (off : Nat) : (s.unlatch m off).sched = s.sched := by unfold State.unlatch; rfl
@[simp] theorem State.unlatch_scene (s : State) (m : Master) (off : Nat) : (s.unlatch m off).scene = s.scene := by unfold State.unlatch; rfl
@[simp] theorem State.unlatch_out (s : State) (m : Master) (off : Nat) : (s.unlatch m off).out = s.out := by unfold State.unlatch; rfl
@[simp] theorem State.unlatch_cores (s : State) (m : Master) (off : Nat) : (s.unlatch m off).cores = s.cores := by unfold State.unlatch; rfl
@[simp] theorem State.unlatch_time (s : State) (m : Master) (off : Nat) : (s.unlatch m off).time = s.time := by unfold State.unlatch; rfl
@[simp] theorem State.unlatch_hif (s : State) (m : Master) (off : Nat) : (s.unlatch m off).hif = s.hif := by unfold State.unlatch; rfl
@[simp] theorem State.unlatch_stat (s : State) (m : Master) (off : Nat) : (s.unlatch m off).stat = s.stat := by unfold State.unlatch; rfl
@[simp] theorem State.unlatch_twin (s : State) (m : Master) (off : Nat) : (s.unlatch m off).twin = s.twin := by unfold State.unlatch; rfl
@[simp] theorem State.unlatch_ddr (s : State) (m : Master) (off : Nat) : (s.unlatch m off).ddr = s.ddr := by unfold State.unlatch; rfl
@[simp] theorem State.unlatch_net (s : State) (m : Master) (off : Nat) : (s.unlatch m off).net = s.net := by unfold State.unlatch; rfl
@[simp] theorem State.unlatch_strm (s : State) (m : Master) (off : Nat) : (s.unlatch m off).strm = s.strm := by unfold State.unlatch; rfl
@[simp] theorem State.unlatch_cond (s : State) (m : Master) (off : Nat) : (s.unlatch m off).cond = s.cond := by unfold State.unlatch; rfl
@[simp] theorem State.unlatch_pwr (s : State) (m : Master) (off : Nat) : (s.unlatch m off).pwr = s.pwr := by unfold State.unlatch; rfl
@[simp] theorem State.unlatch_sec (s : State) (m : Master) (off : Nat) : (s.unlatch m off).sec = s.sec := by unfold State.unlatch; rfl
@[simp] theorem State.unlatch_rdAt (s : State) (m : Master) (off : Nat) (a : Nat) : (s.unlatch m off).rd a = s.rd a := by unfold State.unlatch; rfl
@[simp] theorem State.unlatch_coreAt (s : State) (m : Master) (off : Nat) (j : Nat) : (s.unlatch m off).core j = s.core j := by unfold State.unlatch; rfl
@[simp] theorem State.unlatch_queueAt (s : State) (m : Master) (off : Nat) (j : Nat) : (s.unlatch m off).queue j = s.queue j := by unfold State.unlatch; rfl
@[simp] theorem State.unlatch_objAt (s : State) (m : Master) (off : Nat) (j : Nat) : (s.unlatch m off).obj j = s.obj j := by unfold State.unlatch; rfl

/-! `State.answer` changes readData, readEP, readFault. -/

@[simp] theorem State.answer_pending (s : State) (v : Word) : (s.answer v).pending = s.pending := by unfold State.answer; rfl
@[simp] theorem State.answer_freeCtr (s : State) (v : Word) : (s.answer v).freeCtr = s.freeCtr := by unfold State.answer; rfl
@[simp] theorem State.answer_variant (s : State) (v : Word) : (s.answer v).variant = s.variant := by unfold State.answer; rfl
@[simp] theorem State.answer_otherData (s : State) (v : Word) : (s.answer v).otherData = s.otherData := by unfold State.answer; rfl
@[simp] theorem State.answer_dramUnit (s : State) (v : Word) : (s.answer v).dramUnit = s.dramUnit := by unfold State.answer; rfl
@[simp] theorem State.answer_dramOut (s : State) (v : Word) : (s.answer v).dramOut = s.dramOut := by unfold State.answer; rfl
@[simp] theorem State.answer_regs (s : State) (v : Word) : (s.answer v).regs = s.regs := by unfold State.answer; rfl
@[simp] theorem State.answer_latches (s : State) (v : Word) : (s.answer v).latches = s.latches := by unfold State.answer; rfl
@[simp] theorem State.answer_held (s : State) (v : Word) : (s.answer v).held = s.held := by unfold State.answer; rfl
@[simp] theorem State.answer_qHold (s : State) (v : Word) : (s.answer v).qHold = s.qHold := by unfold State.answer; rfl
@[simp] theorem State.answer_qLatch (s : State) (v : Word) : (s.answer v).qLatch = s.qLatch := by unfold State.answer; rfl
@[simp] theorem State.answer_pairs (s : State) (v : Word) : (s.answer v).pairs = s.pairs := by unfold State.answer; rfl
@[simp] theorem State.answer_queues (s : State) (v : Word) : (s.answer v).queues = s.queues := by unfold State.answer; rfl
@[simp] theorem State.answer_mem (s : State) (v : Word) : (s.answer v).mem = s.mem := by unfold State.answer; rfl
@[simp] theorem State.answer_sched (s : State) (v : Word) : (s.answer v).sched = s.sched := by unfold State.answer; rfl
@[simp] theorem State.answer_scene (s : State) (v : Word) : (s.answer v).scene = s.scene := by unfold State.answer; rfl
@[simp] theorem State.answer_out (s : State) (v : Word) : (s.answer v).out = s.out := by unfold State.answer; rfl
@[simp] theorem State.answer_cores (s : State) (v : Word) : (s.answer v).cores = s.cores := by unfold State.answer; rfl
@[simp] theorem State.answer_time (s : State) (v : Word) : (s.answer v).time = s.time := by unfold State.answer; rfl
@[simp] theorem State.answer_hif (s : State) (v : Word) : (s.answer v).hif = s.hif := by unfold State.answer; rfl
@[simp] theorem State.answer_stat (s : State) (v : Word) : (s.answer v).stat = s.stat := by unfold State.answer; rfl
@[simp] theorem State.answer_twin (s : State) (v : Word) : (s.answer v).twin = s.twin := by unfold State.answer; rfl
@[simp] theorem State.answer_ddr (s : State) (v : Word) : (s.answer v).ddr = s.ddr := by unfold State.answer; rfl
@[simp] theorem State.answer_net (s : State) (v : Word) : (s.answer v).net = s.net := by unfold State.answer; rfl
@[simp] theorem State.answer_strm (s : State) (v : Word) : (s.answer v).strm = s.strm := by unfold State.answer; rfl
@[simp] theorem State.answer_cond (s : State) (v : Word) : (s.answer v).cond = s.cond := by unfold State.answer; rfl
@[simp] theorem State.answer_pwr (s : State) (v : Word) : (s.answer v).pwr = s.pwr := by unfold State.answer; rfl
@[simp] theorem State.answer_sec (s : State) (v : Word) : (s.answer v).sec = s.sec := by unfold State.answer; rfl
@[simp] theorem State.answer_rdAt (s : State) (v : Word) (a : Nat) : (s.answer v).rd a = s.rd a := by unfold State.answer; rfl
@[simp] theorem State.answer_coreAt (s : State) (v : Word) (j : Nat) : (s.answer v).core j = s.core j := by unfold State.answer; rfl
@[simp] theorem State.answer_queueAt (s : State) (v : Word) (j : Nat) : (s.answer v).queue j = s.queue j := by unfold State.answer; rfl
@[simp] theorem State.answer_objAt (s : State) (v : Word) (j : Nat) : (s.answer v).obj j = s.obj j := by unfold State.answer; rfl

/-! `State.atCycle` changes sched. -/

@[simp] theorem State.atCycle_pending (s : State) (c : Nat) : (s.atCycle c).pending = s.pending := by unfold State.atCycle; rfl
@[simp] theorem State.atCycle_freeCtr (s : State) (c : Nat) : (s.atCycle c).freeCtr = s.freeCtr := by unfold State.atCycle; rfl
@[simp] theorem State.atCycle_variant (s : State) (c : Nat) : (s.atCycle c).variant = s.variant := by unfold State.atCycle; rfl
@[simp] theorem State.atCycle_readData (s : State) (c : Nat) : (s.atCycle c).readData = s.readData := by unfold State.atCycle; rfl
@[simp] theorem State.atCycle_readEP (s : State) (c : Nat) : (s.atCycle c).readEP = s.readEP := by unfold State.atCycle; rfl
@[simp] theorem State.atCycle_readFault (s : State) (c : Nat) : (s.atCycle c).readFault = s.readFault := by unfold State.atCycle; rfl
@[simp] theorem State.atCycle_otherData (s : State) (c : Nat) : (s.atCycle c).otherData = s.otherData := by unfold State.atCycle; rfl
@[simp] theorem State.atCycle_dramUnit (s : State) (c : Nat) : (s.atCycle c).dramUnit = s.dramUnit := by unfold State.atCycle; rfl
@[simp] theorem State.atCycle_dramOut (s : State) (c : Nat) : (s.atCycle c).dramOut = s.dramOut := by unfold State.atCycle; rfl
@[simp] theorem State.atCycle_regs (s : State) (c : Nat) : (s.atCycle c).regs = s.regs := by unfold State.atCycle; rfl
@[simp] theorem State.atCycle_latches (s : State) (c : Nat) : (s.atCycle c).latches = s.latches := by unfold State.atCycle; rfl
@[simp] theorem State.atCycle_held (s : State) (c : Nat) : (s.atCycle c).held = s.held := by unfold State.atCycle; rfl
@[simp] theorem State.atCycle_qHold (s : State) (c : Nat) : (s.atCycle c).qHold = s.qHold := by unfold State.atCycle; rfl
@[simp] theorem State.atCycle_qLatch (s : State) (c : Nat) : (s.atCycle c).qLatch = s.qLatch := by unfold State.atCycle; rfl
@[simp] theorem State.atCycle_pairs (s : State) (c : Nat) : (s.atCycle c).pairs = s.pairs := by unfold State.atCycle; rfl
@[simp] theorem State.atCycle_queues (s : State) (c : Nat) : (s.atCycle c).queues = s.queues := by unfold State.atCycle; rfl
@[simp] theorem State.atCycle_mem (s : State) (c : Nat) : (s.atCycle c).mem = s.mem := by unfold State.atCycle; rfl
@[simp] theorem State.atCycle_scene (s : State) (c : Nat) : (s.atCycle c).scene = s.scene := by unfold State.atCycle; rfl
@[simp] theorem State.atCycle_out (s : State) (c : Nat) : (s.atCycle c).out = s.out := by unfold State.atCycle; rfl
@[simp] theorem State.atCycle_cores (s : State) (c : Nat) : (s.atCycle c).cores = s.cores := by unfold State.atCycle; rfl
@[simp] theorem State.atCycle_time (s : State) (c : Nat) : (s.atCycle c).time = s.time := by unfold State.atCycle; rfl
@[simp] theorem State.atCycle_hif (s : State) (c : Nat) : (s.atCycle c).hif = s.hif := by unfold State.atCycle; rfl
@[simp] theorem State.atCycle_stat (s : State) (c : Nat) : (s.atCycle c).stat = s.stat := by unfold State.atCycle; rfl
@[simp] theorem State.atCycle_twin (s : State) (c : Nat) : (s.atCycle c).twin = s.twin := by unfold State.atCycle; rfl
@[simp] theorem State.atCycle_ddr (s : State) (c : Nat) : (s.atCycle c).ddr = s.ddr := by unfold State.atCycle; rfl
@[simp] theorem State.atCycle_net (s : State) (c : Nat) : (s.atCycle c).net = s.net := by unfold State.atCycle; rfl
@[simp] theorem State.atCycle_strm (s : State) (c : Nat) : (s.atCycle c).strm = s.strm := by unfold State.atCycle; rfl
@[simp] theorem State.atCycle_cond (s : State) (c : Nat) : (s.atCycle c).cond = s.cond := by unfold State.atCycle; rfl
@[simp] theorem State.atCycle_pwr (s : State) (c : Nat) : (s.atCycle c).pwr = s.pwr := by unfold State.atCycle; rfl
@[simp] theorem State.atCycle_sec (s : State) (c : Nat) : (s.atCycle c).sec = s.sec := by unfold State.atCycle; rfl
@[simp] theorem State.atCycle_rdAt (s : State) (c : Nat) (a : Nat) : (s.atCycle c).rd a = s.rd a := by unfold State.atCycle; rfl
@[simp] theorem State.atCycle_coreAt (s : State) (c : Nat) (j : Nat) : (s.atCycle c).core j = s.core j := by unfold State.atCycle; rfl
@[simp] theorem State.atCycle_queueAt (s : State) (c : Nat) (j : Nat) : (s.atCycle c).queue j = s.queue j := by unfold State.atCycle; rfl
@[simp] theorem State.atCycle_objAt (s : State) (c : Nat) (j : Nat) : (s.atCycle c).obj j = s.obj j := by unfold State.atCycle; rfl

/-! `State.setCore` changes cores. -/

@[simp] theorem State.setCore_pending (s : State) (k : Nat) (c : QCore) : (s.setCore k c).pending = s.pending := by unfold State.setCore; rfl
@[simp] theorem State.setCore_freeCtr (s : State) (k : Nat) (c : QCore) : (s.setCore k c).freeCtr = s.freeCtr := by unfold State.setCore; rfl
@[simp] theorem State.setCore_variant (s : State) (k : Nat) (c : QCore) : (s.setCore k c).variant = s.variant := by unfold State.setCore; rfl
@[simp] theorem State.setCore_readData (s : State) (k : Nat) (c : QCore) : (s.setCore k c).readData = s.readData := by unfold State.setCore; rfl
@[simp] theorem State.setCore_readEP (s : State) (k : Nat) (c : QCore) : (s.setCore k c).readEP = s.readEP := by unfold State.setCore; rfl
@[simp] theorem State.setCore_readFault (s : State) (k : Nat) (c : QCore) : (s.setCore k c).readFault = s.readFault := by unfold State.setCore; rfl
@[simp] theorem State.setCore_otherData (s : State) (k : Nat) (c : QCore) : (s.setCore k c).otherData = s.otherData := by unfold State.setCore; rfl
@[simp] theorem State.setCore_dramUnit (s : State) (k : Nat) (c : QCore) : (s.setCore k c).dramUnit = s.dramUnit := by unfold State.setCore; rfl
@[simp] theorem State.setCore_dramOut (s : State) (k : Nat) (c : QCore) : (s.setCore k c).dramOut = s.dramOut := by unfold State.setCore; rfl
@[simp] theorem State.setCore_regs (s : State) (k : Nat) (c : QCore) : (s.setCore k c).regs = s.regs := by unfold State.setCore; rfl
@[simp] theorem State.setCore_latches (s : State) (k : Nat) (c : QCore) : (s.setCore k c).latches = s.latches := by unfold State.setCore; rfl
@[simp] theorem State.setCore_held (s : State) (k : Nat) (c : QCore) : (s.setCore k c).held = s.held := by unfold State.setCore; rfl
@[simp] theorem State.setCore_qHold (s : State) (k : Nat) (c : QCore) : (s.setCore k c).qHold = s.qHold := by unfold State.setCore; rfl
@[simp] theorem State.setCore_qLatch (s : State) (k : Nat) (c : QCore) : (s.setCore k c).qLatch = s.qLatch := by unfold State.setCore; rfl
@[simp] theorem State.setCore_pairs (s : State) (k : Nat) (c : QCore) : (s.setCore k c).pairs = s.pairs := by unfold State.setCore; rfl
@[simp] theorem State.setCore_queues (s : State) (k : Nat) (c : QCore) : (s.setCore k c).queues = s.queues := by unfold State.setCore; rfl
@[simp] theorem State.setCore_mem (s : State) (k : Nat) (c : QCore) : (s.setCore k c).mem = s.mem := by unfold State.setCore; rfl
@[simp] theorem State.setCore_sched (s : State) (k : Nat) (c : QCore) : (s.setCore k c).sched = s.sched := by unfold State.setCore; rfl
@[simp] theorem State.setCore_scene (s : State) (k : Nat) (c : QCore) : (s.setCore k c).scene = s.scene := by unfold State.setCore; rfl
@[simp] theorem State.setCore_out (s : State) (k : Nat) (c : QCore) : (s.setCore k c).out = s.out := by unfold State.setCore; rfl
@[simp] theorem State.setCore_time (s : State) (k : Nat) (c : QCore) : (s.setCore k c).time = s.time := by unfold State.setCore; rfl
@[simp] theorem State.setCore_hif (s : State) (k : Nat) (c : QCore) : (s.setCore k c).hif = s.hif := by unfold State.setCore; rfl
@[simp] theorem State.setCore_stat (s : State) (k : Nat) (c : QCore) : (s.setCore k c).stat = s.stat := by unfold State.setCore; rfl
@[simp] theorem State.setCore_twin (s : State) (k : Nat) (c : QCore) : (s.setCore k c).twin = s.twin := by unfold State.setCore; rfl
@[simp] theorem State.setCore_ddr (s : State) (k : Nat) (c : QCore) : (s.setCore k c).ddr = s.ddr := by unfold State.setCore; rfl
@[simp] theorem State.setCore_net (s : State) (k : Nat) (c : QCore) : (s.setCore k c).net = s.net := by unfold State.setCore; rfl
@[simp] theorem State.setCore_strm (s : State) (k : Nat) (c : QCore) : (s.setCore k c).strm = s.strm := by unfold State.setCore; rfl
@[simp] theorem State.setCore_cond (s : State) (k : Nat) (c : QCore) : (s.setCore k c).cond = s.cond := by unfold State.setCore; rfl
@[simp] theorem State.setCore_pwr (s : State) (k : Nat) (c : QCore) : (s.setCore k c).pwr = s.pwr := by unfold State.setCore; rfl
@[simp] theorem State.setCore_sec (s : State) (k : Nat) (c : QCore) : (s.setCore k c).sec = s.sec := by unfold State.setCore; rfl
@[simp] theorem State.setCore_rdAt (s : State) (k : Nat) (c : QCore) (a : Nat) : (s.setCore k c).rd a = s.rd a := by unfold State.setCore; rfl
@[simp] theorem State.setCore_queueAt (s : State) (k : Nat) (c : QCore) (j : Nat) : (s.setCore k c).queue j = s.queue j := by unfold State.setCore; rfl
@[simp] theorem State.setCore_objAt (s : State) (k : Nat) (c : QCore) (j : Nat) : (s.setCore k c).obj j = s.obj j := by unfold State.setCore; rfl

/-! `State.setQueue` changes queues. -/

@[simp] theorem State.setQueue_pending (s : State) (q : Nat) (x : QState) : (s.setQueue q x).pending = s.pending := by unfold State.setQueue; rfl
@[simp] theorem State.setQueue_freeCtr (s : State) (q : Nat) (x : QState) : (s.setQueue q x).freeCtr = s.freeCtr := by unfold State.setQueue; rfl
@[simp] theorem State.setQueue_variant (s : State) (q : Nat) (x : QState) : (s.setQueue q x).variant = s.variant := by unfold State.setQueue; rfl
@[simp] theorem State.setQueue_readData (s : State) (q : Nat) (x : QState) : (s.setQueue q x).readData = s.readData := by unfold State.setQueue; rfl
@[simp] theorem State.setQueue_readEP (s : State) (q : Nat) (x : QState) : (s.setQueue q x).readEP = s.readEP := by unfold State.setQueue; rfl
@[simp] theorem State.setQueue_readFault (s : State) (q : Nat) (x : QState) : (s.setQueue q x).readFault = s.readFault := by unfold State.setQueue; rfl
@[simp] theorem State.setQueue_otherData (s : State) (q : Nat) (x : QState) : (s.setQueue q x).otherData = s.otherData := by unfold State.setQueue; rfl
@[simp] theorem State.setQueue_dramUnit (s : State) (q : Nat) (x : QState) : (s.setQueue q x).dramUnit = s.dramUnit := by unfold State.setQueue; rfl
@[simp] theorem State.setQueue_dramOut (s : State) (q : Nat) (x : QState) : (s.setQueue q x).dramOut = s.dramOut := by unfold State.setQueue; rfl
@[simp] theorem State.setQueue_regs (s : State) (q : Nat) (x : QState) : (s.setQueue q x).regs = s.regs := by unfold State.setQueue; rfl
@[simp] theorem State.setQueue_latches (s : State) (q : Nat) (x : QState) : (s.setQueue q x).latches = s.latches := by unfold State.setQueue; rfl
@[simp] theorem State.setQueue_held (s : State) (q : Nat) (x : QState) : (s.setQueue q x).held = s.held := by unfold State.setQueue; rfl
@[simp] theorem State.setQueue_qHold (s : State) (q : Nat) (x : QState) : (s.setQueue q x).qHold = s.qHold := by unfold State.setQueue; rfl
@[simp] theorem State.setQueue_qLatch (s : State) (q : Nat) (x : QState) : (s.setQueue q x).qLatch = s.qLatch := by unfold State.setQueue; rfl
@[simp] theorem State.setQueue_pairs (s : State) (q : Nat) (x : QState) : (s.setQueue q x).pairs = s.pairs := by unfold State.setQueue; rfl
@[simp] theorem State.setQueue_mem (s : State) (q : Nat) (x : QState) : (s.setQueue q x).mem = s.mem := by unfold State.setQueue; rfl
@[simp] theorem State.setQueue_sched (s : State) (q : Nat) (x : QState) : (s.setQueue q x).sched = s.sched := by unfold State.setQueue; rfl
@[simp] theorem State.setQueue_scene (s : State) (q : Nat) (x : QState) : (s.setQueue q x).scene = s.scene := by unfold State.setQueue; rfl
@[simp] theorem State.setQueue_out (s : State) (q : Nat) (x : QState) : (s.setQueue q x).out = s.out := by unfold State.setQueue; rfl
@[simp] theorem State.setQueue_cores (s : State) (q : Nat) (x : QState) : (s.setQueue q x).cores = s.cores := by unfold State.setQueue; rfl
@[simp] theorem State.setQueue_time (s : State) (q : Nat) (x : QState) : (s.setQueue q x).time = s.time := by unfold State.setQueue; rfl
@[simp] theorem State.setQueue_hif (s : State) (q : Nat) (x : QState) : (s.setQueue q x).hif = s.hif := by unfold State.setQueue; rfl
@[simp] theorem State.setQueue_stat (s : State) (q : Nat) (x : QState) : (s.setQueue q x).stat = s.stat := by unfold State.setQueue; rfl
@[simp] theorem State.setQueue_twin (s : State) (q : Nat) (x : QState) : (s.setQueue q x).twin = s.twin := by unfold State.setQueue; rfl
@[simp] theorem State.setQueue_ddr (s : State) (q : Nat) (x : QState) : (s.setQueue q x).ddr = s.ddr := by unfold State.setQueue; rfl
@[simp] theorem State.setQueue_net (s : State) (q : Nat) (x : QState) : (s.setQueue q x).net = s.net := by unfold State.setQueue; rfl
@[simp] theorem State.setQueue_strm (s : State) (q : Nat) (x : QState) : (s.setQueue q x).strm = s.strm := by unfold State.setQueue; rfl
@[simp] theorem State.setQueue_cond (s : State) (q : Nat) (x : QState) : (s.setQueue q x).cond = s.cond := by unfold State.setQueue; rfl
@[simp] theorem State.setQueue_pwr (s : State) (q : Nat) (x : QState) : (s.setQueue q x).pwr = s.pwr := by unfold State.setQueue; rfl
@[simp] theorem State.setQueue_sec (s : State) (q : Nat) (x : QState) : (s.setQueue q x).sec = s.sec := by unfold State.setQueue; rfl
@[simp] theorem State.setQueue_rdAt (s : State) (q : Nat) (x : QState) (a : Nat) : (s.setQueue q x).rd a = s.rd a := by unfold State.setQueue; rfl
@[simp] theorem State.setQueue_coreAt (s : State) (q : Nat) (x : QState) (j : Nat) : (s.setQueue q x).core j = s.core j := by unfold State.setQueue; rfl
@[simp] theorem State.setQueue_objAt (s : State) (q : Nat) (x : QState) (j : Nat) : (s.setQueue q x).obj j = s.obj j := by unfold State.setQueue; rfl

/-! `State.holdWord` changes held. -/

@[simp] theorem State.holdWord_pending (s : State) (off : Nat) (v : Word) : (s.holdWord off v).pending = s.pending := by unfold State.holdWord; rfl
@[simp] theorem State.holdWord_freeCtr (s : State) (off : Nat) (v : Word) : (s.holdWord off v).freeCtr = s.freeCtr := by unfold State.holdWord; rfl
@[simp] theorem State.holdWord_variant (s : State) (off : Nat) (v : Word) : (s.holdWord off v).variant = s.variant := by unfold State.holdWord; rfl
@[simp] theorem State.holdWord_readData (s : State) (off : Nat) (v : Word) : (s.holdWord off v).readData = s.readData := by unfold State.holdWord; rfl
@[simp] theorem State.holdWord_readEP (s : State) (off : Nat) (v : Word) : (s.holdWord off v).readEP = s.readEP := by unfold State.holdWord; rfl
@[simp] theorem State.holdWord_readFault (s : State) (off : Nat) (v : Word) : (s.holdWord off v).readFault = s.readFault := by unfold State.holdWord; rfl
@[simp] theorem State.holdWord_otherData (s : State) (off : Nat) (v : Word) : (s.holdWord off v).otherData = s.otherData := by unfold State.holdWord; rfl
@[simp] theorem State.holdWord_dramUnit (s : State) (off : Nat) (v : Word) : (s.holdWord off v).dramUnit = s.dramUnit := by unfold State.holdWord; rfl
@[simp] theorem State.holdWord_dramOut (s : State) (off : Nat) (v : Word) : (s.holdWord off v).dramOut = s.dramOut := by unfold State.holdWord; rfl
@[simp] theorem State.holdWord_regs (s : State) (off : Nat) (v : Word) : (s.holdWord off v).regs = s.regs := by unfold State.holdWord; rfl
@[simp] theorem State.holdWord_latches (s : State) (off : Nat) (v : Word) : (s.holdWord off v).latches = s.latches := by unfold State.holdWord; rfl
@[simp] theorem State.holdWord_qHold (s : State) (off : Nat) (v : Word) : (s.holdWord off v).qHold = s.qHold := by unfold State.holdWord; rfl
@[simp] theorem State.holdWord_qLatch (s : State) (off : Nat) (v : Word) : (s.holdWord off v).qLatch = s.qLatch := by unfold State.holdWord; rfl
@[simp] theorem State.holdWord_pairs (s : State) (off : Nat) (v : Word) : (s.holdWord off v).pairs = s.pairs := by unfold State.holdWord; rfl
@[simp] theorem State.holdWord_queues (s : State) (off : Nat) (v : Word) : (s.holdWord off v).queues = s.queues := by unfold State.holdWord; rfl
@[simp] theorem State.holdWord_mem (s : State) (off : Nat) (v : Word) : (s.holdWord off v).mem = s.mem := by unfold State.holdWord; rfl
@[simp] theorem State.holdWord_sched (s : State) (off : Nat) (v : Word) : (s.holdWord off v).sched = s.sched := by unfold State.holdWord; rfl
@[simp] theorem State.holdWord_scene (s : State) (off : Nat) (v : Word) : (s.holdWord off v).scene = s.scene := by unfold State.holdWord; rfl
@[simp] theorem State.holdWord_out (s : State) (off : Nat) (v : Word) : (s.holdWord off v).out = s.out := by unfold State.holdWord; rfl
@[simp] theorem State.holdWord_cores (s : State) (off : Nat) (v : Word) : (s.holdWord off v).cores = s.cores := by unfold State.holdWord; rfl
@[simp] theorem State.holdWord_time (s : State) (off : Nat) (v : Word) : (s.holdWord off v).time = s.time := by unfold State.holdWord; rfl
@[simp] theorem State.holdWord_hif (s : State) (off : Nat) (v : Word) : (s.holdWord off v).hif = s.hif := by unfold State.holdWord; rfl
@[simp] theorem State.holdWord_stat (s : State) (off : Nat) (v : Word) : (s.holdWord off v).stat = s.stat := by unfold State.holdWord; rfl
@[simp] theorem State.holdWord_twin (s : State) (off : Nat) (v : Word) : (s.holdWord off v).twin = s.twin := by unfold State.holdWord; rfl
@[simp] theorem State.holdWord_ddr (s : State) (off : Nat) (v : Word) : (s.holdWord off v).ddr = s.ddr := by unfold State.holdWord; rfl
@[simp] theorem State.holdWord_net (s : State) (off : Nat) (v : Word) : (s.holdWord off v).net = s.net := by unfold State.holdWord; rfl
@[simp] theorem State.holdWord_strm (s : State) (off : Nat) (v : Word) : (s.holdWord off v).strm = s.strm := by unfold State.holdWord; rfl
@[simp] theorem State.holdWord_cond (s : State) (off : Nat) (v : Word) : (s.holdWord off v).cond = s.cond := by unfold State.holdWord; rfl
@[simp] theorem State.holdWord_pwr (s : State) (off : Nat) (v : Word) : (s.holdWord off v).pwr = s.pwr := by unfold State.holdWord; rfl
@[simp] theorem State.holdWord_sec (s : State) (off : Nat) (v : Word) : (s.holdWord off v).sec = s.sec := by unfold State.holdWord; rfl
@[simp] theorem State.holdWord_rdAt (s : State) (off : Nat) (v : Word) (a : Nat) : (s.holdWord off v).rd a = s.rd a := by unfold State.holdWord; rfl
@[simp] theorem State.holdWord_coreAt (s : State) (off : Nat) (v : Word) (j : Nat) : (s.holdWord off v).core j = s.core j := by unfold State.holdWord; rfl
@[simp] theorem State.holdWord_queueAt (s : State) (off : Nat) (v : Word) (j : Nat) : (s.holdWord off v).queue j = s.queue j := by unfold State.holdWord; rfl
@[simp] theorem State.holdWord_objAt (s : State) (off : Nat) (v : Word) (j : Nat) : (s.holdWord off v).obj j = s.obj j := by unfold State.holdWord; rfl

/-! `State.setCommits` changes sched. -/

@[simp] theorem State.setCommits_pending (s : State) (cs : List Commit) : (s.setCommits cs).pending = s.pending := by unfold State.setCommits; rfl
@[simp] theorem State.setCommits_freeCtr (s : State) (cs : List Commit) : (s.setCommits cs).freeCtr = s.freeCtr := by unfold State.setCommits; rfl
@[simp] theorem State.setCommits_variant (s : State) (cs : List Commit) : (s.setCommits cs).variant = s.variant := by unfold State.setCommits; rfl
@[simp] theorem State.setCommits_readData (s : State) (cs : List Commit) : (s.setCommits cs).readData = s.readData := by unfold State.setCommits; rfl
@[simp] theorem State.setCommits_readEP (s : State) (cs : List Commit) : (s.setCommits cs).readEP = s.readEP := by unfold State.setCommits; rfl
@[simp] theorem State.setCommits_readFault (s : State) (cs : List Commit) : (s.setCommits cs).readFault = s.readFault := by unfold State.setCommits; rfl
@[simp] theorem State.setCommits_otherData (s : State) (cs : List Commit) : (s.setCommits cs).otherData = s.otherData := by unfold State.setCommits; rfl
@[simp] theorem State.setCommits_dramUnit (s : State) (cs : List Commit) : (s.setCommits cs).dramUnit = s.dramUnit := by unfold State.setCommits; rfl
@[simp] theorem State.setCommits_dramOut (s : State) (cs : List Commit) : (s.setCommits cs).dramOut = s.dramOut := by unfold State.setCommits; rfl
@[simp] theorem State.setCommits_regs (s : State) (cs : List Commit) : (s.setCommits cs).regs = s.regs := by unfold State.setCommits; rfl
@[simp] theorem State.setCommits_latches (s : State) (cs : List Commit) : (s.setCommits cs).latches = s.latches := by unfold State.setCommits; rfl
@[simp] theorem State.setCommits_held (s : State) (cs : List Commit) : (s.setCommits cs).held = s.held := by unfold State.setCommits; rfl
@[simp] theorem State.setCommits_qHold (s : State) (cs : List Commit) : (s.setCommits cs).qHold = s.qHold := by unfold State.setCommits; rfl
@[simp] theorem State.setCommits_qLatch (s : State) (cs : List Commit) : (s.setCommits cs).qLatch = s.qLatch := by unfold State.setCommits; rfl
@[simp] theorem State.setCommits_pairs (s : State) (cs : List Commit) : (s.setCommits cs).pairs = s.pairs := by unfold State.setCommits; rfl
@[simp] theorem State.setCommits_queues (s : State) (cs : List Commit) : (s.setCommits cs).queues = s.queues := by unfold State.setCommits; rfl
@[simp] theorem State.setCommits_mem (s : State) (cs : List Commit) : (s.setCommits cs).mem = s.mem := by unfold State.setCommits; rfl
@[simp] theorem State.setCommits_scene (s : State) (cs : List Commit) : (s.setCommits cs).scene = s.scene := by unfold State.setCommits; rfl
@[simp] theorem State.setCommits_out (s : State) (cs : List Commit) : (s.setCommits cs).out = s.out := by unfold State.setCommits; rfl
@[simp] theorem State.setCommits_cores (s : State) (cs : List Commit) : (s.setCommits cs).cores = s.cores := by unfold State.setCommits; rfl
@[simp] theorem State.setCommits_time (s : State) (cs : List Commit) : (s.setCommits cs).time = s.time := by unfold State.setCommits; rfl
@[simp] theorem State.setCommits_hif (s : State) (cs : List Commit) : (s.setCommits cs).hif = s.hif := by unfold State.setCommits; rfl
@[simp] theorem State.setCommits_stat (s : State) (cs : List Commit) : (s.setCommits cs).stat = s.stat := by unfold State.setCommits; rfl
@[simp] theorem State.setCommits_twin (s : State) (cs : List Commit) : (s.setCommits cs).twin = s.twin := by unfold State.setCommits; rfl
@[simp] theorem State.setCommits_ddr (s : State) (cs : List Commit) : (s.setCommits cs).ddr = s.ddr := by unfold State.setCommits; rfl
@[simp] theorem State.setCommits_net (s : State) (cs : List Commit) : (s.setCommits cs).net = s.net := by unfold State.setCommits; rfl
@[simp] theorem State.setCommits_strm (s : State) (cs : List Commit) : (s.setCommits cs).strm = s.strm := by unfold State.setCommits; rfl
@[simp] theorem State.setCommits_cond (s : State) (cs : List Commit) : (s.setCommits cs).cond = s.cond := by unfold State.setCommits; rfl
@[simp] theorem State.setCommits_pwr (s : State) (cs : List Commit) : (s.setCommits cs).pwr = s.pwr := by unfold State.setCommits; rfl
@[simp] theorem State.setCommits_sec (s : State) (cs : List Commit) : (s.setCommits cs).sec = s.sec := by unfold State.setCommits; rfl
@[simp] theorem State.setCommits_rdAt (s : State) (cs : List Commit) (a : Nat) : (s.setCommits cs).rd a = s.rd a := by unfold State.setCommits; rfl
@[simp] theorem State.setCommits_coreAt (s : State) (cs : List Commit) (j : Nat) : (s.setCommits cs).core j = s.core j := by unfold State.setCommits; rfl
@[simp] theorem State.setCommits_queueAt (s : State) (cs : List Commit) (j : Nat) : (s.setCommits cs).queue j = s.queue j := by unfold State.setCommits; rfl
@[simp] theorem State.setCommits_objAt (s : State) (cs : List Commit) (j : Nat) : (s.setCommits cs).obj j = s.obj j := by unfold State.setCommits; rfl

/-! `State.setObj` changes scene. -/

@[simp] theorem State.setObj_pending (s : State) (o : Nat) (x : Obj) : (s.setObj o x).pending = s.pending := by unfold State.setObj; rfl
@[simp] theorem State.setObj_freeCtr (s : State) (o : Nat) (x : Obj) : (s.setObj o x).freeCtr = s.freeCtr := by unfold State.setObj; rfl
@[simp] theorem State.setObj_variant (s : State) (o : Nat) (x : Obj) : (s.setObj o x).variant = s.variant := by unfold State.setObj; rfl
@[simp] theorem State.setObj_readData (s : State) (o : Nat) (x : Obj) : (s.setObj o x).readData = s.readData := by unfold State.setObj; rfl
@[simp] theorem State.setObj_readEP (s : State) (o : Nat) (x : Obj) : (s.setObj o x).readEP = s.readEP := by unfold State.setObj; rfl
@[simp] theorem State.setObj_readFault (s : State) (o : Nat) (x : Obj) : (s.setObj o x).readFault = s.readFault := by unfold State.setObj; rfl
@[simp] theorem State.setObj_otherData (s : State) (o : Nat) (x : Obj) : (s.setObj o x).otherData = s.otherData := by unfold State.setObj; rfl
@[simp] theorem State.setObj_dramUnit (s : State) (o : Nat) (x : Obj) : (s.setObj o x).dramUnit = s.dramUnit := by unfold State.setObj; rfl
@[simp] theorem State.setObj_dramOut (s : State) (o : Nat) (x : Obj) : (s.setObj o x).dramOut = s.dramOut := by unfold State.setObj; rfl
@[simp] theorem State.setObj_regs (s : State) (o : Nat) (x : Obj) : (s.setObj o x).regs = s.regs := by unfold State.setObj; rfl
@[simp] theorem State.setObj_latches (s : State) (o : Nat) (x : Obj) : (s.setObj o x).latches = s.latches := by unfold State.setObj; rfl
@[simp] theorem State.setObj_held (s : State) (o : Nat) (x : Obj) : (s.setObj o x).held = s.held := by unfold State.setObj; rfl
@[simp] theorem State.setObj_qHold (s : State) (o : Nat) (x : Obj) : (s.setObj o x).qHold = s.qHold := by unfold State.setObj; rfl
@[simp] theorem State.setObj_qLatch (s : State) (o : Nat) (x : Obj) : (s.setObj o x).qLatch = s.qLatch := by unfold State.setObj; rfl
@[simp] theorem State.setObj_pairs (s : State) (o : Nat) (x : Obj) : (s.setObj o x).pairs = s.pairs := by unfold State.setObj; rfl
@[simp] theorem State.setObj_queues (s : State) (o : Nat) (x : Obj) : (s.setObj o x).queues = s.queues := by unfold State.setObj; rfl
@[simp] theorem State.setObj_mem (s : State) (o : Nat) (x : Obj) : (s.setObj o x).mem = s.mem := by unfold State.setObj; rfl
@[simp] theorem State.setObj_sched (s : State) (o : Nat) (x : Obj) : (s.setObj o x).sched = s.sched := by unfold State.setObj; rfl
@[simp] theorem State.setObj_out (s : State) (o : Nat) (x : Obj) : (s.setObj o x).out = s.out := by unfold State.setObj; rfl
@[simp] theorem State.setObj_cores (s : State) (o : Nat) (x : Obj) : (s.setObj o x).cores = s.cores := by unfold State.setObj; rfl
@[simp] theorem State.setObj_time (s : State) (o : Nat) (x : Obj) : (s.setObj o x).time = s.time := by unfold State.setObj; rfl
@[simp] theorem State.setObj_hif (s : State) (o : Nat) (x : Obj) : (s.setObj o x).hif = s.hif := by unfold State.setObj; rfl
@[simp] theorem State.setObj_stat (s : State) (o : Nat) (x : Obj) : (s.setObj o x).stat = s.stat := by unfold State.setObj; rfl
@[simp] theorem State.setObj_twin (s : State) (o : Nat) (x : Obj) : (s.setObj o x).twin = s.twin := by unfold State.setObj; rfl
@[simp] theorem State.setObj_ddr (s : State) (o : Nat) (x : Obj) : (s.setObj o x).ddr = s.ddr := by unfold State.setObj; rfl
@[simp] theorem State.setObj_net (s : State) (o : Nat) (x : Obj) : (s.setObj o x).net = s.net := by unfold State.setObj; rfl
@[simp] theorem State.setObj_strm (s : State) (o : Nat) (x : Obj) : (s.setObj o x).strm = s.strm := by unfold State.setObj; rfl
@[simp] theorem State.setObj_cond (s : State) (o : Nat) (x : Obj) : (s.setObj o x).cond = s.cond := by unfold State.setObj; rfl
@[simp] theorem State.setObj_pwr (s : State) (o : Nat) (x : Obj) : (s.setObj o x).pwr = s.pwr := by unfold State.setObj; rfl
@[simp] theorem State.setObj_sec (s : State) (o : Nat) (x : Obj) : (s.setObj o x).sec = s.sec := by unfold State.setObj; rfl
@[simp] theorem State.setObj_rdAt (s : State) (o : Nat) (x : Obj) (a : Nat) : (s.setObj o x).rd a = s.rd a := by unfold State.setObj; rfl
@[simp] theorem State.setObj_coreAt (s : State) (o : Nat) (x : Obj) (j : Nat) : (s.setObj o x).core j = s.core j := by unfold State.setObj; rfl
@[simp] theorem State.setObj_queueAt (s : State) (o : Nat) (x : Obj) (j : Nat) : (s.setObj o x).queue j = s.queue j := by unfold State.setObj; rfl

/-! `State.setXp` changes scene. -/

@[simp] theorem State.setXp_pending (s : State) (o : Nat) (x : XpObj) : (s.setXp o x).pending = s.pending := by unfold State.setXp; rfl
@[simp] theorem State.setXp_freeCtr (s : State) (o : Nat) (x : XpObj) : (s.setXp o x).freeCtr = s.freeCtr := by unfold State.setXp; rfl
@[simp] theorem State.setXp_variant (s : State) (o : Nat) (x : XpObj) : (s.setXp o x).variant = s.variant := by unfold State.setXp; rfl
@[simp] theorem State.setXp_readData (s : State) (o : Nat) (x : XpObj) : (s.setXp o x).readData = s.readData := by unfold State.setXp; rfl
@[simp] theorem State.setXp_readEP (s : State) (o : Nat) (x : XpObj) : (s.setXp o x).readEP = s.readEP := by unfold State.setXp; rfl
@[simp] theorem State.setXp_readFault (s : State) (o : Nat) (x : XpObj) : (s.setXp o x).readFault = s.readFault := by unfold State.setXp; rfl
@[simp] theorem State.setXp_otherData (s : State) (o : Nat) (x : XpObj) : (s.setXp o x).otherData = s.otherData := by unfold State.setXp; rfl
@[simp] theorem State.setXp_dramUnit (s : State) (o : Nat) (x : XpObj) : (s.setXp o x).dramUnit = s.dramUnit := by unfold State.setXp; rfl
@[simp] theorem State.setXp_dramOut (s : State) (o : Nat) (x : XpObj) : (s.setXp o x).dramOut = s.dramOut := by unfold State.setXp; rfl
@[simp] theorem State.setXp_regs (s : State) (o : Nat) (x : XpObj) : (s.setXp o x).regs = s.regs := by unfold State.setXp; rfl
@[simp] theorem State.setXp_latches (s : State) (o : Nat) (x : XpObj) : (s.setXp o x).latches = s.latches := by unfold State.setXp; rfl
@[simp] theorem State.setXp_held (s : State) (o : Nat) (x : XpObj) : (s.setXp o x).held = s.held := by unfold State.setXp; rfl
@[simp] theorem State.setXp_qHold (s : State) (o : Nat) (x : XpObj) : (s.setXp o x).qHold = s.qHold := by unfold State.setXp; rfl
@[simp] theorem State.setXp_qLatch (s : State) (o : Nat) (x : XpObj) : (s.setXp o x).qLatch = s.qLatch := by unfold State.setXp; rfl
@[simp] theorem State.setXp_pairs (s : State) (o : Nat) (x : XpObj) : (s.setXp o x).pairs = s.pairs := by unfold State.setXp; rfl
@[simp] theorem State.setXp_queues (s : State) (o : Nat) (x : XpObj) : (s.setXp o x).queues = s.queues := by unfold State.setXp; rfl
@[simp] theorem State.setXp_mem (s : State) (o : Nat) (x : XpObj) : (s.setXp o x).mem = s.mem := by unfold State.setXp; rfl
@[simp] theorem State.setXp_sched (s : State) (o : Nat) (x : XpObj) : (s.setXp o x).sched = s.sched := by unfold State.setXp; rfl
@[simp] theorem State.setXp_out (s : State) (o : Nat) (x : XpObj) : (s.setXp o x).out = s.out := by unfold State.setXp; rfl
@[simp] theorem State.setXp_cores (s : State) (o : Nat) (x : XpObj) : (s.setXp o x).cores = s.cores := by unfold State.setXp; rfl
@[simp] theorem State.setXp_time (s : State) (o : Nat) (x : XpObj) : (s.setXp o x).time = s.time := by unfold State.setXp; rfl
@[simp] theorem State.setXp_hif (s : State) (o : Nat) (x : XpObj) : (s.setXp o x).hif = s.hif := by unfold State.setXp; rfl
@[simp] theorem State.setXp_stat (s : State) (o : Nat) (x : XpObj) : (s.setXp o x).stat = s.stat := by unfold State.setXp; rfl
@[simp] theorem State.setXp_twin (s : State) (o : Nat) (x : XpObj) : (s.setXp o x).twin = s.twin := by unfold State.setXp; rfl
@[simp] theorem State.setXp_ddr (s : State) (o : Nat) (x : XpObj) : (s.setXp o x).ddr = s.ddr := by unfold State.setXp; rfl
@[simp] theorem State.setXp_net (s : State) (o : Nat) (x : XpObj) : (s.setXp o x).net = s.net := by unfold State.setXp; rfl
@[simp] theorem State.setXp_strm (s : State) (o : Nat) (x : XpObj) : (s.setXp o x).strm = s.strm := by unfold State.setXp; rfl
@[simp] theorem State.setXp_cond (s : State) (o : Nat) (x : XpObj) : (s.setXp o x).cond = s.cond := by unfold State.setXp; rfl
@[simp] theorem State.setXp_pwr (s : State) (o : Nat) (x : XpObj) : (s.setXp o x).pwr = s.pwr := by unfold State.setXp; rfl
@[simp] theorem State.setXp_sec (s : State) (o : Nat) (x : XpObj) : (s.setXp o x).sec = s.sec := by unfold State.setXp; rfl
@[simp] theorem State.setXp_rdAt (s : State) (o : Nat) (x : XpObj) (a : Nat) : (s.setXp o x).rd a = s.rd a := by unfold State.setXp; rfl
@[simp] theorem State.setXp_coreAt (s : State) (o : Nat) (x : XpObj) (j : Nat) : (s.setXp o x).core j = s.core j := by unfold State.setXp; rfl
@[simp] theorem State.setXp_queueAt (s : State) (o : Nat) (x : XpObj) (j : Nat) : (s.setXp o x).queue j = s.queue j := by unfold State.setXp; rfl

/-! `State.scn` changes scene. -/

@[simp] theorem State.scn_pending (s : State) (f : Scene → Scene) : (s.scn f).pending = s.pending := by unfold State.scn; rfl
@[simp] theorem State.scn_freeCtr (s : State) (f : Scene → Scene) : (s.scn f).freeCtr = s.freeCtr := by unfold State.scn; rfl
@[simp] theorem State.scn_variant (s : State) (f : Scene → Scene) : (s.scn f).variant = s.variant := by unfold State.scn; rfl
@[simp] theorem State.scn_readData (s : State) (f : Scene → Scene) : (s.scn f).readData = s.readData := by unfold State.scn; rfl
@[simp] theorem State.scn_readEP (s : State) (f : Scene → Scene) : (s.scn f).readEP = s.readEP := by unfold State.scn; rfl
@[simp] theorem State.scn_readFault (s : State) (f : Scene → Scene) : (s.scn f).readFault = s.readFault := by unfold State.scn; rfl
@[simp] theorem State.scn_otherData (s : State) (f : Scene → Scene) : (s.scn f).otherData = s.otherData := by unfold State.scn; rfl
@[simp] theorem State.scn_dramUnit (s : State) (f : Scene → Scene) : (s.scn f).dramUnit = s.dramUnit := by unfold State.scn; rfl
@[simp] theorem State.scn_dramOut (s : State) (f : Scene → Scene) : (s.scn f).dramOut = s.dramOut := by unfold State.scn; rfl
@[simp] theorem State.scn_regs (s : State) (f : Scene → Scene) : (s.scn f).regs = s.regs := by unfold State.scn; rfl
@[simp] theorem State.scn_latches (s : State) (f : Scene → Scene) : (s.scn f).latches = s.latches := by unfold State.scn; rfl
@[simp] theorem State.scn_held (s : State) (f : Scene → Scene) : (s.scn f).held = s.held := by unfold State.scn; rfl
@[simp] theorem State.scn_qHold (s : State) (f : Scene → Scene) : (s.scn f).qHold = s.qHold := by unfold State.scn; rfl
@[simp] theorem State.scn_qLatch (s : State) (f : Scene → Scene) : (s.scn f).qLatch = s.qLatch := by unfold State.scn; rfl
@[simp] theorem State.scn_pairs (s : State) (f : Scene → Scene) : (s.scn f).pairs = s.pairs := by unfold State.scn; rfl
@[simp] theorem State.scn_queues (s : State) (f : Scene → Scene) : (s.scn f).queues = s.queues := by unfold State.scn; rfl
@[simp] theorem State.scn_mem (s : State) (f : Scene → Scene) : (s.scn f).mem = s.mem := by unfold State.scn; rfl
@[simp] theorem State.scn_sched (s : State) (f : Scene → Scene) : (s.scn f).sched = s.sched := by unfold State.scn; rfl
@[simp] theorem State.scn_out (s : State) (f : Scene → Scene) : (s.scn f).out = s.out := by unfold State.scn; rfl
@[simp] theorem State.scn_cores (s : State) (f : Scene → Scene) : (s.scn f).cores = s.cores := by unfold State.scn; rfl
@[simp] theorem State.scn_time (s : State) (f : Scene → Scene) : (s.scn f).time = s.time := by unfold State.scn; rfl
@[simp] theorem State.scn_hif (s : State) (f : Scene → Scene) : (s.scn f).hif = s.hif := by unfold State.scn; rfl
@[simp] theorem State.scn_stat (s : State) (f : Scene → Scene) : (s.scn f).stat = s.stat := by unfold State.scn; rfl
@[simp] theorem State.scn_twin (s : State) (f : Scene → Scene) : (s.scn f).twin = s.twin := by unfold State.scn; rfl
@[simp] theorem State.scn_ddr (s : State) (f : Scene → Scene) : (s.scn f).ddr = s.ddr := by unfold State.scn; rfl
@[simp] theorem State.scn_net (s : State) (f : Scene → Scene) : (s.scn f).net = s.net := by unfold State.scn; rfl
@[simp] theorem State.scn_strm (s : State) (f : Scene → Scene) : (s.scn f).strm = s.strm := by unfold State.scn; rfl
@[simp] theorem State.scn_cond (s : State) (f : Scene → Scene) : (s.scn f).cond = s.cond := by unfold State.scn; rfl
@[simp] theorem State.scn_pwr (s : State) (f : Scene → Scene) : (s.scn f).pwr = s.pwr := by unfold State.scn; rfl
@[simp] theorem State.scn_sec (s : State) (f : Scene → Scene) : (s.scn f).sec = s.sec := by unfold State.scn; rfl
@[simp] theorem State.scn_rdAt (s : State) (f : Scene → Scene) (a : Nat) : (s.scn f).rd a = s.rd a := by unfold State.scn; rfl
@[simp] theorem State.scn_coreAt (s : State) (f : Scene → Scene) (j : Nat) : (s.scn f).core j = s.core j := by unfold State.scn; rfl
@[simp] theorem State.scn_queueAt (s : State) (f : Scene → Scene) (j : Nat) : (s.scn f).queue j = s.queue j := by unfold State.scn; rfl

/-! `State.setOut` changes out. -/

@[simp] theorem State.setOut_pending (s : State) (n : Nat) (x : OutSt) : (s.setOut n x).pending = s.pending := by unfold State.setOut; rfl
@[simp] theorem State.setOut_freeCtr (s : State) (n : Nat) (x : OutSt) : (s.setOut n x).freeCtr = s.freeCtr := by unfold State.setOut; rfl
@[simp] theorem State.setOut_variant (s : State) (n : Nat) (x : OutSt) : (s.setOut n x).variant = s.variant := by unfold State.setOut; rfl
@[simp] theorem State.setOut_readData (s : State) (n : Nat) (x : OutSt) : (s.setOut n x).readData = s.readData := by unfold State.setOut; rfl
@[simp] theorem State.setOut_readEP (s : State) (n : Nat) (x : OutSt) : (s.setOut n x).readEP = s.readEP := by unfold State.setOut; rfl
@[simp] theorem State.setOut_readFault (s : State) (n : Nat) (x : OutSt) : (s.setOut n x).readFault = s.readFault := by unfold State.setOut; rfl
@[simp] theorem State.setOut_otherData (s : State) (n : Nat) (x : OutSt) : (s.setOut n x).otherData = s.otherData := by unfold State.setOut; rfl
@[simp] theorem State.setOut_dramUnit (s : State) (n : Nat) (x : OutSt) : (s.setOut n x).dramUnit = s.dramUnit := by unfold State.setOut; rfl
@[simp] theorem State.setOut_dramOut (s : State) (n : Nat) (x : OutSt) : (s.setOut n x).dramOut = s.dramOut := by unfold State.setOut; rfl
@[simp] theorem State.setOut_regs (s : State) (n : Nat) (x : OutSt) : (s.setOut n x).regs = s.regs := by unfold State.setOut; rfl
@[simp] theorem State.setOut_latches (s : State) (n : Nat) (x : OutSt) : (s.setOut n x).latches = s.latches := by unfold State.setOut; rfl
@[simp] theorem State.setOut_held (s : State) (n : Nat) (x : OutSt) : (s.setOut n x).held = s.held := by unfold State.setOut; rfl
@[simp] theorem State.setOut_qHold (s : State) (n : Nat) (x : OutSt) : (s.setOut n x).qHold = s.qHold := by unfold State.setOut; rfl
@[simp] theorem State.setOut_qLatch (s : State) (n : Nat) (x : OutSt) : (s.setOut n x).qLatch = s.qLatch := by unfold State.setOut; rfl
@[simp] theorem State.setOut_pairs (s : State) (n : Nat) (x : OutSt) : (s.setOut n x).pairs = s.pairs := by unfold State.setOut; rfl
@[simp] theorem State.setOut_queues (s : State) (n : Nat) (x : OutSt) : (s.setOut n x).queues = s.queues := by unfold State.setOut; rfl
@[simp] theorem State.setOut_mem (s : State) (n : Nat) (x : OutSt) : (s.setOut n x).mem = s.mem := by unfold State.setOut; rfl
@[simp] theorem State.setOut_sched (s : State) (n : Nat) (x : OutSt) : (s.setOut n x).sched = s.sched := by unfold State.setOut; rfl
@[simp] theorem State.setOut_scene (s : State) (n : Nat) (x : OutSt) : (s.setOut n x).scene = s.scene := by unfold State.setOut; rfl
@[simp] theorem State.setOut_cores (s : State) (n : Nat) (x : OutSt) : (s.setOut n x).cores = s.cores := by unfold State.setOut; rfl
@[simp] theorem State.setOut_time (s : State) (n : Nat) (x : OutSt) : (s.setOut n x).time = s.time := by unfold State.setOut; rfl
@[simp] theorem State.setOut_hif (s : State) (n : Nat) (x : OutSt) : (s.setOut n x).hif = s.hif := by unfold State.setOut; rfl
@[simp] theorem State.setOut_stat (s : State) (n : Nat) (x : OutSt) : (s.setOut n x).stat = s.stat := by unfold State.setOut; rfl
@[simp] theorem State.setOut_twin (s : State) (n : Nat) (x : OutSt) : (s.setOut n x).twin = s.twin := by unfold State.setOut; rfl
@[simp] theorem State.setOut_ddr (s : State) (n : Nat) (x : OutSt) : (s.setOut n x).ddr = s.ddr := by unfold State.setOut; rfl
@[simp] theorem State.setOut_net (s : State) (n : Nat) (x : OutSt) : (s.setOut n x).net = s.net := by unfold State.setOut; rfl
@[simp] theorem State.setOut_strm (s : State) (n : Nat) (x : OutSt) : (s.setOut n x).strm = s.strm := by unfold State.setOut; rfl
@[simp] theorem State.setOut_cond (s : State) (n : Nat) (x : OutSt) : (s.setOut n x).cond = s.cond := by unfold State.setOut; rfl
@[simp] theorem State.setOut_pwr (s : State) (n : Nat) (x : OutSt) : (s.setOut n x).pwr = s.pwr := by unfold State.setOut; rfl
@[simp] theorem State.setOut_sec (s : State) (n : Nat) (x : OutSt) : (s.setOut n x).sec = s.sec := by unfold State.setOut; rfl
@[simp] theorem State.setOut_rdAt (s : State) (n : Nat) (x : OutSt) (a : Nat) : (s.setOut n x).rd a = s.rd a := by unfold State.setOut; rfl
@[simp] theorem State.setOut_coreAt (s : State) (n : Nat) (x : OutSt) (j : Nat) : (s.setOut n x).core j = s.core j := by unfold State.setOut; rfl
@[simp] theorem State.setOut_queueAt (s : State) (n : Nat) (x : OutSt) (j : Nat) : (s.setOut n x).queue j = s.queue j := by unfold State.setOut; rfl
@[simp] theorem State.setOut_objAt (s : State) (n : Nat) (x : OutSt) (j : Nat) : (s.setOut n x).obj j = s.obj j := by unfold State.setOut; rfl

/-! `State.setLim` changes out. -/

@[simp] theorem State.setLim_pending (s : State) (z : Nat) (x : LimZone) : (s.setLim z x).pending = s.pending := by unfold State.setLim; rfl
@[simp] theorem State.setLim_freeCtr (s : State) (z : Nat) (x : LimZone) : (s.setLim z x).freeCtr = s.freeCtr := by unfold State.setLim; rfl
@[simp] theorem State.setLim_variant (s : State) (z : Nat) (x : LimZone) : (s.setLim z x).variant = s.variant := by unfold State.setLim; rfl
@[simp] theorem State.setLim_readData (s : State) (z : Nat) (x : LimZone) : (s.setLim z x).readData = s.readData := by unfold State.setLim; rfl
@[simp] theorem State.setLim_readEP (s : State) (z : Nat) (x : LimZone) : (s.setLim z x).readEP = s.readEP := by unfold State.setLim; rfl
@[simp] theorem State.setLim_readFault (s : State) (z : Nat) (x : LimZone) : (s.setLim z x).readFault = s.readFault := by unfold State.setLim; rfl
@[simp] theorem State.setLim_otherData (s : State) (z : Nat) (x : LimZone) : (s.setLim z x).otherData = s.otherData := by unfold State.setLim; rfl
@[simp] theorem State.setLim_dramUnit (s : State) (z : Nat) (x : LimZone) : (s.setLim z x).dramUnit = s.dramUnit := by unfold State.setLim; rfl
@[simp] theorem State.setLim_dramOut (s : State) (z : Nat) (x : LimZone) : (s.setLim z x).dramOut = s.dramOut := by unfold State.setLim; rfl
@[simp] theorem State.setLim_regs (s : State) (z : Nat) (x : LimZone) : (s.setLim z x).regs = s.regs := by unfold State.setLim; rfl
@[simp] theorem State.setLim_latches (s : State) (z : Nat) (x : LimZone) : (s.setLim z x).latches = s.latches := by unfold State.setLim; rfl
@[simp] theorem State.setLim_held (s : State) (z : Nat) (x : LimZone) : (s.setLim z x).held = s.held := by unfold State.setLim; rfl
@[simp] theorem State.setLim_qHold (s : State) (z : Nat) (x : LimZone) : (s.setLim z x).qHold = s.qHold := by unfold State.setLim; rfl
@[simp] theorem State.setLim_qLatch (s : State) (z : Nat) (x : LimZone) : (s.setLim z x).qLatch = s.qLatch := by unfold State.setLim; rfl
@[simp] theorem State.setLim_pairs (s : State) (z : Nat) (x : LimZone) : (s.setLim z x).pairs = s.pairs := by unfold State.setLim; rfl
@[simp] theorem State.setLim_queues (s : State) (z : Nat) (x : LimZone) : (s.setLim z x).queues = s.queues := by unfold State.setLim; rfl
@[simp] theorem State.setLim_mem (s : State) (z : Nat) (x : LimZone) : (s.setLim z x).mem = s.mem := by unfold State.setLim; rfl
@[simp] theorem State.setLim_sched (s : State) (z : Nat) (x : LimZone) : (s.setLim z x).sched = s.sched := by unfold State.setLim; rfl
@[simp] theorem State.setLim_scene (s : State) (z : Nat) (x : LimZone) : (s.setLim z x).scene = s.scene := by unfold State.setLim; rfl
@[simp] theorem State.setLim_cores (s : State) (z : Nat) (x : LimZone) : (s.setLim z x).cores = s.cores := by unfold State.setLim; rfl
@[simp] theorem State.setLim_time (s : State) (z : Nat) (x : LimZone) : (s.setLim z x).time = s.time := by unfold State.setLim; rfl
@[simp] theorem State.setLim_hif (s : State) (z : Nat) (x : LimZone) : (s.setLim z x).hif = s.hif := by unfold State.setLim; rfl
@[simp] theorem State.setLim_stat (s : State) (z : Nat) (x : LimZone) : (s.setLim z x).stat = s.stat := by unfold State.setLim; rfl
@[simp] theorem State.setLim_twin (s : State) (z : Nat) (x : LimZone) : (s.setLim z x).twin = s.twin := by unfold State.setLim; rfl
@[simp] theorem State.setLim_ddr (s : State) (z : Nat) (x : LimZone) : (s.setLim z x).ddr = s.ddr := by unfold State.setLim; rfl
@[simp] theorem State.setLim_net (s : State) (z : Nat) (x : LimZone) : (s.setLim z x).net = s.net := by unfold State.setLim; rfl
@[simp] theorem State.setLim_strm (s : State) (z : Nat) (x : LimZone) : (s.setLim z x).strm = s.strm := by unfold State.setLim; rfl
@[simp] theorem State.setLim_cond (s : State) (z : Nat) (x : LimZone) : (s.setLim z x).cond = s.cond := by unfold State.setLim; rfl
@[simp] theorem State.setLim_pwr (s : State) (z : Nat) (x : LimZone) : (s.setLim z x).pwr = s.pwr := by unfold State.setLim; rfl
@[simp] theorem State.setLim_sec (s : State) (z : Nat) (x : LimZone) : (s.setLim z x).sec = s.sec := by unfold State.setLim; rfl
@[simp] theorem State.setLim_rdAt (s : State) (z : Nat) (x : LimZone) (a : Nat) : (s.setLim z x).rd a = s.rd a := by unfold State.setLim; rfl
@[simp] theorem State.setLim_coreAt (s : State) (z : Nat) (x : LimZone) (j : Nat) : (s.setLim z x).core j = s.core j := by unfold State.setLim; rfl
@[simp] theorem State.setLim_queueAt (s : State) (z : Nat) (x : LimZone) (j : Nat) : (s.setLim z x).queue j = s.queue j := by unfold State.setLim; rfl
@[simp] theorem State.setLim_objAt (s : State) (z : Nat) (x : LimZone) (j : Nat) : (s.setLim z x).obj j = s.obj j := by unfold State.setLim; rfl

/-! `State.setSrx` changes strm. -/

@[simp] theorem State.setSrx_pending (s : State) (n : Nat) (x : StrmRx) : (s.setSrx n x).pending = s.pending := by unfold State.setSrx; rfl
@[simp] theorem State.setSrx_freeCtr (s : State) (n : Nat) (x : StrmRx) : (s.setSrx n x).freeCtr = s.freeCtr := by unfold State.setSrx; rfl
@[simp] theorem State.setSrx_variant (s : State) (n : Nat) (x : StrmRx) : (s.setSrx n x).variant = s.variant := by unfold State.setSrx; rfl
@[simp] theorem State.setSrx_readData (s : State) (n : Nat) (x : StrmRx) : (s.setSrx n x).readData = s.readData := by unfold State.setSrx; rfl
@[simp] theorem State.setSrx_readEP (s : State) (n : Nat) (x : StrmRx) : (s.setSrx n x).readEP = s.readEP := by unfold State.setSrx; rfl
@[simp] theorem State.setSrx_readFault (s : State) (n : Nat) (x : StrmRx) : (s.setSrx n x).readFault = s.readFault := by unfold State.setSrx; rfl
@[simp] theorem State.setSrx_otherData (s : State) (n : Nat) (x : StrmRx) : (s.setSrx n x).otherData = s.otherData := by unfold State.setSrx; rfl
@[simp] theorem State.setSrx_dramUnit (s : State) (n : Nat) (x : StrmRx) : (s.setSrx n x).dramUnit = s.dramUnit := by unfold State.setSrx; rfl
@[simp] theorem State.setSrx_dramOut (s : State) (n : Nat) (x : StrmRx) : (s.setSrx n x).dramOut = s.dramOut := by unfold State.setSrx; rfl
@[simp] theorem State.setSrx_regs (s : State) (n : Nat) (x : StrmRx) : (s.setSrx n x).regs = s.regs := by unfold State.setSrx; rfl
@[simp] theorem State.setSrx_latches (s : State) (n : Nat) (x : StrmRx) : (s.setSrx n x).latches = s.latches := by unfold State.setSrx; rfl
@[simp] theorem State.setSrx_held (s : State) (n : Nat) (x : StrmRx) : (s.setSrx n x).held = s.held := by unfold State.setSrx; rfl
@[simp] theorem State.setSrx_qHold (s : State) (n : Nat) (x : StrmRx) : (s.setSrx n x).qHold = s.qHold := by unfold State.setSrx; rfl
@[simp] theorem State.setSrx_qLatch (s : State) (n : Nat) (x : StrmRx) : (s.setSrx n x).qLatch = s.qLatch := by unfold State.setSrx; rfl
@[simp] theorem State.setSrx_pairs (s : State) (n : Nat) (x : StrmRx) : (s.setSrx n x).pairs = s.pairs := by unfold State.setSrx; rfl
@[simp] theorem State.setSrx_queues (s : State) (n : Nat) (x : StrmRx) : (s.setSrx n x).queues = s.queues := by unfold State.setSrx; rfl
@[simp] theorem State.setSrx_mem (s : State) (n : Nat) (x : StrmRx) : (s.setSrx n x).mem = s.mem := by unfold State.setSrx; rfl
@[simp] theorem State.setSrx_sched (s : State) (n : Nat) (x : StrmRx) : (s.setSrx n x).sched = s.sched := by unfold State.setSrx; rfl
@[simp] theorem State.setSrx_scene (s : State) (n : Nat) (x : StrmRx) : (s.setSrx n x).scene = s.scene := by unfold State.setSrx; rfl
@[simp] theorem State.setSrx_out (s : State) (n : Nat) (x : StrmRx) : (s.setSrx n x).out = s.out := by unfold State.setSrx; rfl
@[simp] theorem State.setSrx_cores (s : State) (n : Nat) (x : StrmRx) : (s.setSrx n x).cores = s.cores := by unfold State.setSrx; rfl
@[simp] theorem State.setSrx_time (s : State) (n : Nat) (x : StrmRx) : (s.setSrx n x).time = s.time := by unfold State.setSrx; rfl
@[simp] theorem State.setSrx_hif (s : State) (n : Nat) (x : StrmRx) : (s.setSrx n x).hif = s.hif := by unfold State.setSrx; rfl
@[simp] theorem State.setSrx_stat (s : State) (n : Nat) (x : StrmRx) : (s.setSrx n x).stat = s.stat := by unfold State.setSrx; rfl
@[simp] theorem State.setSrx_twin (s : State) (n : Nat) (x : StrmRx) : (s.setSrx n x).twin = s.twin := by unfold State.setSrx; rfl
@[simp] theorem State.setSrx_ddr (s : State) (n : Nat) (x : StrmRx) : (s.setSrx n x).ddr = s.ddr := by unfold State.setSrx; rfl
@[simp] theorem State.setSrx_net (s : State) (n : Nat) (x : StrmRx) : (s.setSrx n x).net = s.net := by unfold State.setSrx; rfl
@[simp] theorem State.setSrx_cond (s : State) (n : Nat) (x : StrmRx) : (s.setSrx n x).cond = s.cond := by unfold State.setSrx; rfl
@[simp] theorem State.setSrx_pwr (s : State) (n : Nat) (x : StrmRx) : (s.setSrx n x).pwr = s.pwr := by unfold State.setSrx; rfl
@[simp] theorem State.setSrx_sec (s : State) (n : Nat) (x : StrmRx) : (s.setSrx n x).sec = s.sec := by unfold State.setSrx; rfl
@[simp] theorem State.setSrx_rdAt (s : State) (n : Nat) (x : StrmRx) (a : Nat) : (s.setSrx n x).rd a = s.rd a := by unfold State.setSrx; rfl
@[simp] theorem State.setSrx_coreAt (s : State) (n : Nat) (x : StrmRx) (j : Nat) : (s.setSrx n x).core j = s.core j := by unfold State.setSrx; rfl
@[simp] theorem State.setSrx_queueAt (s : State) (n : Nat) (x : StrmRx) (j : Nat) : (s.setSrx n x).queue j = s.queue j := by unfold State.setSrx; rfl
@[simp] theorem State.setSrx_objAt (s : State) (n : Nat) (x : StrmRx) (j : Nat) : (s.setSrx n x).obj j = s.obj j := by unfold State.setSrx; rfl

/-! `State.setStx` changes strm. -/

@[simp] theorem State.setStx_pending (s : State) (n : Nat) (x : StrmTx) : (s.setStx n x).pending = s.pending := by unfold State.setStx; rfl
@[simp] theorem State.setStx_freeCtr (s : State) (n : Nat) (x : StrmTx) : (s.setStx n x).freeCtr = s.freeCtr := by unfold State.setStx; rfl
@[simp] theorem State.setStx_variant (s : State) (n : Nat) (x : StrmTx) : (s.setStx n x).variant = s.variant := by unfold State.setStx; rfl
@[simp] theorem State.setStx_readData (s : State) (n : Nat) (x : StrmTx) : (s.setStx n x).readData = s.readData := by unfold State.setStx; rfl
@[simp] theorem State.setStx_readEP (s : State) (n : Nat) (x : StrmTx) : (s.setStx n x).readEP = s.readEP := by unfold State.setStx; rfl
@[simp] theorem State.setStx_readFault (s : State) (n : Nat) (x : StrmTx) : (s.setStx n x).readFault = s.readFault := by unfold State.setStx; rfl
@[simp] theorem State.setStx_otherData (s : State) (n : Nat) (x : StrmTx) : (s.setStx n x).otherData = s.otherData := by unfold State.setStx; rfl
@[simp] theorem State.setStx_dramUnit (s : State) (n : Nat) (x : StrmTx) : (s.setStx n x).dramUnit = s.dramUnit := by unfold State.setStx; rfl
@[simp] theorem State.setStx_dramOut (s : State) (n : Nat) (x : StrmTx) : (s.setStx n x).dramOut = s.dramOut := by unfold State.setStx; rfl
@[simp] theorem State.setStx_regs (s : State) (n : Nat) (x : StrmTx) : (s.setStx n x).regs = s.regs := by unfold State.setStx; rfl
@[simp] theorem State.setStx_latches (s : State) (n : Nat) (x : StrmTx) : (s.setStx n x).latches = s.latches := by unfold State.setStx; rfl
@[simp] theorem State.setStx_held (s : State) (n : Nat) (x : StrmTx) : (s.setStx n x).held = s.held := by unfold State.setStx; rfl
@[simp] theorem State.setStx_qHold (s : State) (n : Nat) (x : StrmTx) : (s.setStx n x).qHold = s.qHold := by unfold State.setStx; rfl
@[simp] theorem State.setStx_qLatch (s : State) (n : Nat) (x : StrmTx) : (s.setStx n x).qLatch = s.qLatch := by unfold State.setStx; rfl
@[simp] theorem State.setStx_pairs (s : State) (n : Nat) (x : StrmTx) : (s.setStx n x).pairs = s.pairs := by unfold State.setStx; rfl
@[simp] theorem State.setStx_queues (s : State) (n : Nat) (x : StrmTx) : (s.setStx n x).queues = s.queues := by unfold State.setStx; rfl
@[simp] theorem State.setStx_mem (s : State) (n : Nat) (x : StrmTx) : (s.setStx n x).mem = s.mem := by unfold State.setStx; rfl
@[simp] theorem State.setStx_sched (s : State) (n : Nat) (x : StrmTx) : (s.setStx n x).sched = s.sched := by unfold State.setStx; rfl
@[simp] theorem State.setStx_scene (s : State) (n : Nat) (x : StrmTx) : (s.setStx n x).scene = s.scene := by unfold State.setStx; rfl
@[simp] theorem State.setStx_out (s : State) (n : Nat) (x : StrmTx) : (s.setStx n x).out = s.out := by unfold State.setStx; rfl
@[simp] theorem State.setStx_cores (s : State) (n : Nat) (x : StrmTx) : (s.setStx n x).cores = s.cores := by unfold State.setStx; rfl
@[simp] theorem State.setStx_time (s : State) (n : Nat) (x : StrmTx) : (s.setStx n x).time = s.time := by unfold State.setStx; rfl
@[simp] theorem State.setStx_hif (s : State) (n : Nat) (x : StrmTx) : (s.setStx n x).hif = s.hif := by unfold State.setStx; rfl
@[simp] theorem State.setStx_stat (s : State) (n : Nat) (x : StrmTx) : (s.setStx n x).stat = s.stat := by unfold State.setStx; rfl
@[simp] theorem State.setStx_twin (s : State) (n : Nat) (x : StrmTx) : (s.setStx n x).twin = s.twin := by unfold State.setStx; rfl
@[simp] theorem State.setStx_ddr (s : State) (n : Nat) (x : StrmTx) : (s.setStx n x).ddr = s.ddr := by unfold State.setStx; rfl
@[simp] theorem State.setStx_net (s : State) (n : Nat) (x : StrmTx) : (s.setStx n x).net = s.net := by unfold State.setStx; rfl
@[simp] theorem State.setStx_cond (s : State) (n : Nat) (x : StrmTx) : (s.setStx n x).cond = s.cond := by unfold State.setStx; rfl
@[simp] theorem State.setStx_pwr (s : State) (n : Nat) (x : StrmTx) : (s.setStx n x).pwr = s.pwr := by unfold State.setStx; rfl
@[simp] theorem State.setStx_sec (s : State) (n : Nat) (x : StrmTx) : (s.setStx n x).sec = s.sec := by unfold State.setStx; rfl
@[simp] theorem State.setStx_rdAt (s : State) (n : Nat) (x : StrmTx) (a : Nat) : (s.setStx n x).rd a = s.rd a := by unfold State.setStx; rfl
@[simp] theorem State.setStx_coreAt (s : State) (n : Nat) (x : StrmTx) (j : Nat) : (s.setStx n x).core j = s.core j := by unfold State.setStx; rfl
@[simp] theorem State.setStx_queueAt (s : State) (n : Nat) (x : StrmTx) (j : Nat) : (s.setStx n x).queue j = s.queue j := by unfold State.setStx; rfl
@[simp] theorem State.setStx_objAt (s : State) (n : Nat) (x : StrmTx) (j : Nat) : (s.setStx n x).obj j = s.obj j := by unfold State.setStx; rfl

/-! `State.setTdm` changes cond. -/

@[simp] theorem State.setTdm_pending (s : State) (p : Nat) (x : TdmSt) : (s.setTdm p x).pending = s.pending := by unfold State.setTdm; rfl
@[simp] theorem State.setTdm_freeCtr (s : State) (p : Nat) (x : TdmSt) : (s.setTdm p x).freeCtr = s.freeCtr := by unfold State.setTdm; rfl
@[simp] theorem State.setTdm_variant (s : State) (p : Nat) (x : TdmSt) : (s.setTdm p x).variant = s.variant := by unfold State.setTdm; rfl
@[simp] theorem State.setTdm_readData (s : State) (p : Nat) (x : TdmSt) : (s.setTdm p x).readData = s.readData := by unfold State.setTdm; rfl
@[simp] theorem State.setTdm_readEP (s : State) (p : Nat) (x : TdmSt) : (s.setTdm p x).readEP = s.readEP := by unfold State.setTdm; rfl
@[simp] theorem State.setTdm_readFault (s : State) (p : Nat) (x : TdmSt) : (s.setTdm p x).readFault = s.readFault := by unfold State.setTdm; rfl
@[simp] theorem State.setTdm_otherData (s : State) (p : Nat) (x : TdmSt) : (s.setTdm p x).otherData = s.otherData := by unfold State.setTdm; rfl
@[simp] theorem State.setTdm_dramUnit (s : State) (p : Nat) (x : TdmSt) : (s.setTdm p x).dramUnit = s.dramUnit := by unfold State.setTdm; rfl
@[simp] theorem State.setTdm_dramOut (s : State) (p : Nat) (x : TdmSt) : (s.setTdm p x).dramOut = s.dramOut := by unfold State.setTdm; rfl
@[simp] theorem State.setTdm_regs (s : State) (p : Nat) (x : TdmSt) : (s.setTdm p x).regs = s.regs := by unfold State.setTdm; rfl
@[simp] theorem State.setTdm_latches (s : State) (p : Nat) (x : TdmSt) : (s.setTdm p x).latches = s.latches := by unfold State.setTdm; rfl
@[simp] theorem State.setTdm_held (s : State) (p : Nat) (x : TdmSt) : (s.setTdm p x).held = s.held := by unfold State.setTdm; rfl
@[simp] theorem State.setTdm_qHold (s : State) (p : Nat) (x : TdmSt) : (s.setTdm p x).qHold = s.qHold := by unfold State.setTdm; rfl
@[simp] theorem State.setTdm_qLatch (s : State) (p : Nat) (x : TdmSt) : (s.setTdm p x).qLatch = s.qLatch := by unfold State.setTdm; rfl
@[simp] theorem State.setTdm_pairs (s : State) (p : Nat) (x : TdmSt) : (s.setTdm p x).pairs = s.pairs := by unfold State.setTdm; rfl
@[simp] theorem State.setTdm_queues (s : State) (p : Nat) (x : TdmSt) : (s.setTdm p x).queues = s.queues := by unfold State.setTdm; rfl
@[simp] theorem State.setTdm_mem (s : State) (p : Nat) (x : TdmSt) : (s.setTdm p x).mem = s.mem := by unfold State.setTdm; rfl
@[simp] theorem State.setTdm_sched (s : State) (p : Nat) (x : TdmSt) : (s.setTdm p x).sched = s.sched := by unfold State.setTdm; rfl
@[simp] theorem State.setTdm_scene (s : State) (p : Nat) (x : TdmSt) : (s.setTdm p x).scene = s.scene := by unfold State.setTdm; rfl
@[simp] theorem State.setTdm_out (s : State) (p : Nat) (x : TdmSt) : (s.setTdm p x).out = s.out := by unfold State.setTdm; rfl
@[simp] theorem State.setTdm_cores (s : State) (p : Nat) (x : TdmSt) : (s.setTdm p x).cores = s.cores := by unfold State.setTdm; rfl
@[simp] theorem State.setTdm_time (s : State) (p : Nat) (x : TdmSt) : (s.setTdm p x).time = s.time := by unfold State.setTdm; rfl
@[simp] theorem State.setTdm_hif (s : State) (p : Nat) (x : TdmSt) : (s.setTdm p x).hif = s.hif := by unfold State.setTdm; rfl
@[simp] theorem State.setTdm_stat (s : State) (p : Nat) (x : TdmSt) : (s.setTdm p x).stat = s.stat := by unfold State.setTdm; rfl
@[simp] theorem State.setTdm_twin (s : State) (p : Nat) (x : TdmSt) : (s.setTdm p x).twin = s.twin := by unfold State.setTdm; rfl
@[simp] theorem State.setTdm_ddr (s : State) (p : Nat) (x : TdmSt) : (s.setTdm p x).ddr = s.ddr := by unfold State.setTdm; rfl
@[simp] theorem State.setTdm_net (s : State) (p : Nat) (x : TdmSt) : (s.setTdm p x).net = s.net := by unfold State.setTdm; rfl
@[simp] theorem State.setTdm_strm (s : State) (p : Nat) (x : TdmSt) : (s.setTdm p x).strm = s.strm := by unfold State.setTdm; rfl
@[simp] theorem State.setTdm_pwr (s : State) (p : Nat) (x : TdmSt) : (s.setTdm p x).pwr = s.pwr := by unfold State.setTdm; rfl
@[simp] theorem State.setTdm_sec (s : State) (p : Nat) (x : TdmSt) : (s.setTdm p x).sec = s.sec := by unfold State.setTdm; rfl
@[simp] theorem State.setTdm_rdAt (s : State) (p : Nat) (x : TdmSt) (a : Nat) : (s.setTdm p x).rd a = s.rd a := by unfold State.setTdm; rfl
@[simp] theorem State.setTdm_coreAt (s : State) (p : Nat) (x : TdmSt) (j : Nat) : (s.setTdm p x).core j = s.core j := by unfold State.setTdm; rfl
@[simp] theorem State.setTdm_queueAt (s : State) (p : Nat) (x : TdmSt) (j : Nat) : (s.setTdm p x).queue j = s.queue j := by unfold State.setTdm; rfl
@[simp] theorem State.setTdm_objAt (s : State) (p : Nat) (x : TdmSt) (j : Nat) : (s.setTdm p x).obj j = s.obj j := by unfold State.setTdm; rfl

/-! `State.setGrp` changes cond. -/

@[simp] theorem State.setGrp_pending (s : State) (g : Nat) (x : RsGroup) : (s.setGrp g x).pending = s.pending := by unfold State.setGrp; rfl
@[simp] theorem State.setGrp_freeCtr (s : State) (g : Nat) (x : RsGroup) : (s.setGrp g x).freeCtr = s.freeCtr := by unfold State.setGrp; rfl
@[simp] theorem State.setGrp_variant (s : State) (g : Nat) (x : RsGroup) : (s.setGrp g x).variant = s.variant := by unfold State.setGrp; rfl
@[simp] theorem State.setGrp_readData (s : State) (g : Nat) (x : RsGroup) : (s.setGrp g x).readData = s.readData := by unfold State.setGrp; rfl
@[simp] theorem State.setGrp_readEP (s : State) (g : Nat) (x : RsGroup) : (s.setGrp g x).readEP = s.readEP := by unfold State.setGrp; rfl
@[simp] theorem State.setGrp_readFault (s : State) (g : Nat) (x : RsGroup) : (s.setGrp g x).readFault = s.readFault := by unfold State.setGrp; rfl
@[simp] theorem State.setGrp_otherData (s : State) (g : Nat) (x : RsGroup) : (s.setGrp g x).otherData = s.otherData := by unfold State.setGrp; rfl
@[simp] theorem State.setGrp_dramUnit (s : State) (g : Nat) (x : RsGroup) : (s.setGrp g x).dramUnit = s.dramUnit := by unfold State.setGrp; rfl
@[simp] theorem State.setGrp_dramOut (s : State) (g : Nat) (x : RsGroup) : (s.setGrp g x).dramOut = s.dramOut := by unfold State.setGrp; rfl
@[simp] theorem State.setGrp_regs (s : State) (g : Nat) (x : RsGroup) : (s.setGrp g x).regs = s.regs := by unfold State.setGrp; rfl
@[simp] theorem State.setGrp_latches (s : State) (g : Nat) (x : RsGroup) : (s.setGrp g x).latches = s.latches := by unfold State.setGrp; rfl
@[simp] theorem State.setGrp_held (s : State) (g : Nat) (x : RsGroup) : (s.setGrp g x).held = s.held := by unfold State.setGrp; rfl
@[simp] theorem State.setGrp_qHold (s : State) (g : Nat) (x : RsGroup) : (s.setGrp g x).qHold = s.qHold := by unfold State.setGrp; rfl
@[simp] theorem State.setGrp_qLatch (s : State) (g : Nat) (x : RsGroup) : (s.setGrp g x).qLatch = s.qLatch := by unfold State.setGrp; rfl
@[simp] theorem State.setGrp_pairs (s : State) (g : Nat) (x : RsGroup) : (s.setGrp g x).pairs = s.pairs := by unfold State.setGrp; rfl
@[simp] theorem State.setGrp_queues (s : State) (g : Nat) (x : RsGroup) : (s.setGrp g x).queues = s.queues := by unfold State.setGrp; rfl
@[simp] theorem State.setGrp_mem (s : State) (g : Nat) (x : RsGroup) : (s.setGrp g x).mem = s.mem := by unfold State.setGrp; rfl
@[simp] theorem State.setGrp_sched (s : State) (g : Nat) (x : RsGroup) : (s.setGrp g x).sched = s.sched := by unfold State.setGrp; rfl
@[simp] theorem State.setGrp_scene (s : State) (g : Nat) (x : RsGroup) : (s.setGrp g x).scene = s.scene := by unfold State.setGrp; rfl
@[simp] theorem State.setGrp_out (s : State) (g : Nat) (x : RsGroup) : (s.setGrp g x).out = s.out := by unfold State.setGrp; rfl
@[simp] theorem State.setGrp_cores (s : State) (g : Nat) (x : RsGroup) : (s.setGrp g x).cores = s.cores := by unfold State.setGrp; rfl
@[simp] theorem State.setGrp_time (s : State) (g : Nat) (x : RsGroup) : (s.setGrp g x).time = s.time := by unfold State.setGrp; rfl
@[simp] theorem State.setGrp_hif (s : State) (g : Nat) (x : RsGroup) : (s.setGrp g x).hif = s.hif := by unfold State.setGrp; rfl
@[simp] theorem State.setGrp_stat (s : State) (g : Nat) (x : RsGroup) : (s.setGrp g x).stat = s.stat := by unfold State.setGrp; rfl
@[simp] theorem State.setGrp_twin (s : State) (g : Nat) (x : RsGroup) : (s.setGrp g x).twin = s.twin := by unfold State.setGrp; rfl
@[simp] theorem State.setGrp_ddr (s : State) (g : Nat) (x : RsGroup) : (s.setGrp g x).ddr = s.ddr := by unfold State.setGrp; rfl
@[simp] theorem State.setGrp_net (s : State) (g : Nat) (x : RsGroup) : (s.setGrp g x).net = s.net := by unfold State.setGrp; rfl
@[simp] theorem State.setGrp_strm (s : State) (g : Nat) (x : RsGroup) : (s.setGrp g x).strm = s.strm := by unfold State.setGrp; rfl
@[simp] theorem State.setGrp_pwr (s : State) (g : Nat) (x : RsGroup) : (s.setGrp g x).pwr = s.pwr := by unfold State.setGrp; rfl
@[simp] theorem State.setGrp_sec (s : State) (g : Nat) (x : RsGroup) : (s.setGrp g x).sec = s.sec := by unfold State.setGrp; rfl
@[simp] theorem State.setGrp_rdAt (s : State) (g : Nat) (x : RsGroup) (a : Nat) : (s.setGrp g x).rd a = s.rd a := by unfold State.setGrp; rfl
@[simp] theorem State.setGrp_coreAt (s : State) (g : Nat) (x : RsGroup) (j : Nat) : (s.setGrp g x).core j = s.core j := by unfold State.setGrp; rfl
@[simp] theorem State.setGrp_queueAt (s : State) (g : Nat) (x : RsGroup) (j : Nat) : (s.setGrp g x).queue j = s.queue j := by unfold State.setGrp; rfl
@[simp] theorem State.setGrp_objAt (s : State) (g : Nat) (x : RsGroup) (j : Nat) : (s.setGrp g x).obj j = s.obj j := by unfold State.setGrp; rfl

/-! `State.setDet` changes cond. -/

@[simp] theorem State.setDet_pending (s : State) (k : Nat) (x : DetSt) : (s.setDet k x).pending = s.pending := by unfold State.setDet; rfl
@[simp] theorem State.setDet_freeCtr (s : State) (k : Nat) (x : DetSt) : (s.setDet k x).freeCtr = s.freeCtr := by unfold State.setDet; rfl
@[simp] theorem State.setDet_variant (s : State) (k : Nat) (x : DetSt) : (s.setDet k x).variant = s.variant := by unfold State.setDet; rfl
@[simp] theorem State.setDet_readData (s : State) (k : Nat) (x : DetSt) : (s.setDet k x).readData = s.readData := by unfold State.setDet; rfl
@[simp] theorem State.setDet_readEP (s : State) (k : Nat) (x : DetSt) : (s.setDet k x).readEP = s.readEP := by unfold State.setDet; rfl
@[simp] theorem State.setDet_readFault (s : State) (k : Nat) (x : DetSt) : (s.setDet k x).readFault = s.readFault := by unfold State.setDet; rfl
@[simp] theorem State.setDet_otherData (s : State) (k : Nat) (x : DetSt) : (s.setDet k x).otherData = s.otherData := by unfold State.setDet; rfl
@[simp] theorem State.setDet_dramUnit (s : State) (k : Nat) (x : DetSt) : (s.setDet k x).dramUnit = s.dramUnit := by unfold State.setDet; rfl
@[simp] theorem State.setDet_dramOut (s : State) (k : Nat) (x : DetSt) : (s.setDet k x).dramOut = s.dramOut := by unfold State.setDet; rfl
@[simp] theorem State.setDet_regs (s : State) (k : Nat) (x : DetSt) : (s.setDet k x).regs = s.regs := by unfold State.setDet; rfl
@[simp] theorem State.setDet_latches (s : State) (k : Nat) (x : DetSt) : (s.setDet k x).latches = s.latches := by unfold State.setDet; rfl
@[simp] theorem State.setDet_held (s : State) (k : Nat) (x : DetSt) : (s.setDet k x).held = s.held := by unfold State.setDet; rfl
@[simp] theorem State.setDet_qHold (s : State) (k : Nat) (x : DetSt) : (s.setDet k x).qHold = s.qHold := by unfold State.setDet; rfl
@[simp] theorem State.setDet_qLatch (s : State) (k : Nat) (x : DetSt) : (s.setDet k x).qLatch = s.qLatch := by unfold State.setDet; rfl
@[simp] theorem State.setDet_pairs (s : State) (k : Nat) (x : DetSt) : (s.setDet k x).pairs = s.pairs := by unfold State.setDet; rfl
@[simp] theorem State.setDet_queues (s : State) (k : Nat) (x : DetSt) : (s.setDet k x).queues = s.queues := by unfold State.setDet; rfl
@[simp] theorem State.setDet_mem (s : State) (k : Nat) (x : DetSt) : (s.setDet k x).mem = s.mem := by unfold State.setDet; rfl
@[simp] theorem State.setDet_sched (s : State) (k : Nat) (x : DetSt) : (s.setDet k x).sched = s.sched := by unfold State.setDet; rfl
@[simp] theorem State.setDet_scene (s : State) (k : Nat) (x : DetSt) : (s.setDet k x).scene = s.scene := by unfold State.setDet; rfl
@[simp] theorem State.setDet_out (s : State) (k : Nat) (x : DetSt) : (s.setDet k x).out = s.out := by unfold State.setDet; rfl
@[simp] theorem State.setDet_cores (s : State) (k : Nat) (x : DetSt) : (s.setDet k x).cores = s.cores := by unfold State.setDet; rfl
@[simp] theorem State.setDet_time (s : State) (k : Nat) (x : DetSt) : (s.setDet k x).time = s.time := by unfold State.setDet; rfl
@[simp] theorem State.setDet_hif (s : State) (k : Nat) (x : DetSt) : (s.setDet k x).hif = s.hif := by unfold State.setDet; rfl
@[simp] theorem State.setDet_stat (s : State) (k : Nat) (x : DetSt) : (s.setDet k x).stat = s.stat := by unfold State.setDet; rfl
@[simp] theorem State.setDet_twin (s : State) (k : Nat) (x : DetSt) : (s.setDet k x).twin = s.twin := by unfold State.setDet; rfl
@[simp] theorem State.setDet_ddr (s : State) (k : Nat) (x : DetSt) : (s.setDet k x).ddr = s.ddr := by unfold State.setDet; rfl
@[simp] theorem State.setDet_net (s : State) (k : Nat) (x : DetSt) : (s.setDet k x).net = s.net := by unfold State.setDet; rfl
@[simp] theorem State.setDet_strm (s : State) (k : Nat) (x : DetSt) : (s.setDet k x).strm = s.strm := by unfold State.setDet; rfl
@[simp] theorem State.setDet_pwr (s : State) (k : Nat) (x : DetSt) : (s.setDet k x).pwr = s.pwr := by unfold State.setDet; rfl
@[simp] theorem State.setDet_sec (s : State) (k : Nat) (x : DetSt) : (s.setDet k x).sec = s.sec := by unfold State.setDet; rfl
@[simp] theorem State.setDet_rdAt (s : State) (k : Nat) (x : DetSt) (a : Nat) : (s.setDet k x).rd a = s.rd a := by unfold State.setDet; rfl
@[simp] theorem State.setDet_coreAt (s : State) (k : Nat) (x : DetSt) (j : Nat) : (s.setDet k x).core j = s.core j := by unfold State.setDet; rfl
@[simp] theorem State.setDet_queueAt (s : State) (k : Nat) (x : DetSt) (j : Nat) : (s.setDet k x).queue j = s.queue j := by unfold State.setDet; rfl
@[simp] theorem State.setDet_objAt (s : State) (k : Nat) (x : DetSt) (j : Nat) : (s.setDet k x).obj j = s.obj j := by unfold State.setDet; rfl

/-! `State.setNet` changes net. -/

@[simp] theorem State.setNet_pending (s : State) (p : Nat) (x : NetSt) : (s.setNet p x).pending = s.pending := by unfold State.setNet; rfl
@[simp] theorem State.setNet_freeCtr (s : State) (p : Nat) (x : NetSt) : (s.setNet p x).freeCtr = s.freeCtr := by unfold State.setNet; rfl
@[simp] theorem State.setNet_variant (s : State) (p : Nat) (x : NetSt) : (s.setNet p x).variant = s.variant := by unfold State.setNet; rfl
@[simp] theorem State.setNet_readData (s : State) (p : Nat) (x : NetSt) : (s.setNet p x).readData = s.readData := by unfold State.setNet; rfl
@[simp] theorem State.setNet_readEP (s : State) (p : Nat) (x : NetSt) : (s.setNet p x).readEP = s.readEP := by unfold State.setNet; rfl
@[simp] theorem State.setNet_readFault (s : State) (p : Nat) (x : NetSt) : (s.setNet p x).readFault = s.readFault := by unfold State.setNet; rfl
@[simp] theorem State.setNet_otherData (s : State) (p : Nat) (x : NetSt) : (s.setNet p x).otherData = s.otherData := by unfold State.setNet; rfl
@[simp] theorem State.setNet_dramUnit (s : State) (p : Nat) (x : NetSt) : (s.setNet p x).dramUnit = s.dramUnit := by unfold State.setNet; rfl
@[simp] theorem State.setNet_dramOut (s : State) (p : Nat) (x : NetSt) : (s.setNet p x).dramOut = s.dramOut := by unfold State.setNet; rfl
@[simp] theorem State.setNet_regs (s : State) (p : Nat) (x : NetSt) : (s.setNet p x).regs = s.regs := by unfold State.setNet; rfl
@[simp] theorem State.setNet_latches (s : State) (p : Nat) (x : NetSt) : (s.setNet p x).latches = s.latches := by unfold State.setNet; rfl
@[simp] theorem State.setNet_held (s : State) (p : Nat) (x : NetSt) : (s.setNet p x).held = s.held := by unfold State.setNet; rfl
@[simp] theorem State.setNet_qHold (s : State) (p : Nat) (x : NetSt) : (s.setNet p x).qHold = s.qHold := by unfold State.setNet; rfl
@[simp] theorem State.setNet_qLatch (s : State) (p : Nat) (x : NetSt) : (s.setNet p x).qLatch = s.qLatch := by unfold State.setNet; rfl
@[simp] theorem State.setNet_pairs (s : State) (p : Nat) (x : NetSt) : (s.setNet p x).pairs = s.pairs := by unfold State.setNet; rfl
@[simp] theorem State.setNet_queues (s : State) (p : Nat) (x : NetSt) : (s.setNet p x).queues = s.queues := by unfold State.setNet; rfl
@[simp] theorem State.setNet_mem (s : State) (p : Nat) (x : NetSt) : (s.setNet p x).mem = s.mem := by unfold State.setNet; rfl
@[simp] theorem State.setNet_sched (s : State) (p : Nat) (x : NetSt) : (s.setNet p x).sched = s.sched := by unfold State.setNet; rfl
@[simp] theorem State.setNet_scene (s : State) (p : Nat) (x : NetSt) : (s.setNet p x).scene = s.scene := by unfold State.setNet; rfl
@[simp] theorem State.setNet_out (s : State) (p : Nat) (x : NetSt) : (s.setNet p x).out = s.out := by unfold State.setNet; rfl
@[simp] theorem State.setNet_cores (s : State) (p : Nat) (x : NetSt) : (s.setNet p x).cores = s.cores := by unfold State.setNet; rfl
@[simp] theorem State.setNet_time (s : State) (p : Nat) (x : NetSt) : (s.setNet p x).time = s.time := by unfold State.setNet; rfl
@[simp] theorem State.setNet_hif (s : State) (p : Nat) (x : NetSt) : (s.setNet p x).hif = s.hif := by unfold State.setNet; rfl
@[simp] theorem State.setNet_stat (s : State) (p : Nat) (x : NetSt) : (s.setNet p x).stat = s.stat := by unfold State.setNet; rfl
@[simp] theorem State.setNet_twin (s : State) (p : Nat) (x : NetSt) : (s.setNet p x).twin = s.twin := by unfold State.setNet; rfl
@[simp] theorem State.setNet_ddr (s : State) (p : Nat) (x : NetSt) : (s.setNet p x).ddr = s.ddr := by unfold State.setNet; rfl
@[simp] theorem State.setNet_strm (s : State) (p : Nat) (x : NetSt) : (s.setNet p x).strm = s.strm := by unfold State.setNet; rfl
@[simp] theorem State.setNet_cond (s : State) (p : Nat) (x : NetSt) : (s.setNet p x).cond = s.cond := by unfold State.setNet; rfl
@[simp] theorem State.setNet_pwr (s : State) (p : Nat) (x : NetSt) : (s.setNet p x).pwr = s.pwr := by unfold State.setNet; rfl
@[simp] theorem State.setNet_sec (s : State) (p : Nat) (x : NetSt) : (s.setNet p x).sec = s.sec := by unfold State.setNet; rfl
@[simp] theorem State.setNet_rdAt (s : State) (p : Nat) (x : NetSt) (a : Nat) : (s.setNet p x).rd a = s.rd a := by unfold State.setNet; rfl
@[simp] theorem State.setNet_coreAt (s : State) (p : Nat) (x : NetSt) (j : Nat) : (s.setNet p x).core j = s.core j := by unfold State.setNet; rfl
@[simp] theorem State.setNet_queueAt (s : State) (p : Nat) (x : NetSt) (j : Nat) : (s.setNet p x).queue j = s.queue j := by unfold State.setNet; rfl
@[simp] theorem State.setNet_objAt (s : State) (p : Nat) (x : NetSt) (j : Nat) : (s.setNet p x).obj j = s.obj j := by unfold State.setNet; rfl

/-! `State.setDdr` changes ddr. -/

@[simp] theorem State.setDdr_pending (s : State) (c : Nat) (x : DdrSt) : (s.setDdr c x).pending = s.pending := by unfold State.setDdr; rfl
@[simp] theorem State.setDdr_freeCtr (s : State) (c : Nat) (x : DdrSt) : (s.setDdr c x).freeCtr = s.freeCtr := by unfold State.setDdr; rfl
@[simp] theorem State.setDdr_variant (s : State) (c : Nat) (x : DdrSt) : (s.setDdr c x).variant = s.variant := by unfold State.setDdr; rfl
@[simp] theorem State.setDdr_readData (s : State) (c : Nat) (x : DdrSt) : (s.setDdr c x).readData = s.readData := by unfold State.setDdr; rfl
@[simp] theorem State.setDdr_readEP (s : State) (c : Nat) (x : DdrSt) : (s.setDdr c x).readEP = s.readEP := by unfold State.setDdr; rfl
@[simp] theorem State.setDdr_readFault (s : State) (c : Nat) (x : DdrSt) : (s.setDdr c x).readFault = s.readFault := by unfold State.setDdr; rfl
@[simp] theorem State.setDdr_otherData (s : State) (c : Nat) (x : DdrSt) : (s.setDdr c x).otherData = s.otherData := by unfold State.setDdr; rfl
@[simp] theorem State.setDdr_dramUnit (s : State) (c : Nat) (x : DdrSt) : (s.setDdr c x).dramUnit = s.dramUnit := by unfold State.setDdr; rfl
@[simp] theorem State.setDdr_dramOut (s : State) (c : Nat) (x : DdrSt) : (s.setDdr c x).dramOut = s.dramOut := by unfold State.setDdr; rfl
@[simp] theorem State.setDdr_regs (s : State) (c : Nat) (x : DdrSt) : (s.setDdr c x).regs = s.regs := by unfold State.setDdr; rfl
@[simp] theorem State.setDdr_latches (s : State) (c : Nat) (x : DdrSt) : (s.setDdr c x).latches = s.latches := by unfold State.setDdr; rfl
@[simp] theorem State.setDdr_held (s : State) (c : Nat) (x : DdrSt) : (s.setDdr c x).held = s.held := by unfold State.setDdr; rfl
@[simp] theorem State.setDdr_qHold (s : State) (c : Nat) (x : DdrSt) : (s.setDdr c x).qHold = s.qHold := by unfold State.setDdr; rfl
@[simp] theorem State.setDdr_qLatch (s : State) (c : Nat) (x : DdrSt) : (s.setDdr c x).qLatch = s.qLatch := by unfold State.setDdr; rfl
@[simp] theorem State.setDdr_pairs (s : State) (c : Nat) (x : DdrSt) : (s.setDdr c x).pairs = s.pairs := by unfold State.setDdr; rfl
@[simp] theorem State.setDdr_queues (s : State) (c : Nat) (x : DdrSt) : (s.setDdr c x).queues = s.queues := by unfold State.setDdr; rfl
@[simp] theorem State.setDdr_mem (s : State) (c : Nat) (x : DdrSt) : (s.setDdr c x).mem = s.mem := by unfold State.setDdr; rfl
@[simp] theorem State.setDdr_sched (s : State) (c : Nat) (x : DdrSt) : (s.setDdr c x).sched = s.sched := by unfold State.setDdr; rfl
@[simp] theorem State.setDdr_scene (s : State) (c : Nat) (x : DdrSt) : (s.setDdr c x).scene = s.scene := by unfold State.setDdr; rfl
@[simp] theorem State.setDdr_out (s : State) (c : Nat) (x : DdrSt) : (s.setDdr c x).out = s.out := by unfold State.setDdr; rfl
@[simp] theorem State.setDdr_cores (s : State) (c : Nat) (x : DdrSt) : (s.setDdr c x).cores = s.cores := by unfold State.setDdr; rfl
@[simp] theorem State.setDdr_time (s : State) (c : Nat) (x : DdrSt) : (s.setDdr c x).time = s.time := by unfold State.setDdr; rfl
@[simp] theorem State.setDdr_hif (s : State) (c : Nat) (x : DdrSt) : (s.setDdr c x).hif = s.hif := by unfold State.setDdr; rfl
@[simp] theorem State.setDdr_stat (s : State) (c : Nat) (x : DdrSt) : (s.setDdr c x).stat = s.stat := by unfold State.setDdr; rfl
@[simp] theorem State.setDdr_twin (s : State) (c : Nat) (x : DdrSt) : (s.setDdr c x).twin = s.twin := by unfold State.setDdr; rfl
@[simp] theorem State.setDdr_net (s : State) (c : Nat) (x : DdrSt) : (s.setDdr c x).net = s.net := by unfold State.setDdr; rfl
@[simp] theorem State.setDdr_strm (s : State) (c : Nat) (x : DdrSt) : (s.setDdr c x).strm = s.strm := by unfold State.setDdr; rfl
@[simp] theorem State.setDdr_cond (s : State) (c : Nat) (x : DdrSt) : (s.setDdr c x).cond = s.cond := by unfold State.setDdr; rfl
@[simp] theorem State.setDdr_pwr (s : State) (c : Nat) (x : DdrSt) : (s.setDdr c x).pwr = s.pwr := by unfold State.setDdr; rfl
@[simp] theorem State.setDdr_sec (s : State) (c : Nat) (x : DdrSt) : (s.setDdr c x).sec = s.sec := by unfold State.setDdr; rfl
@[simp] theorem State.setDdr_rdAt (s : State) (c : Nat) (x : DdrSt) (a : Nat) : (s.setDdr c x).rd a = s.rd a := by unfold State.setDdr; rfl
@[simp] theorem State.setDdr_coreAt (s : State) (c : Nat) (x : DdrSt) (j : Nat) : (s.setDdr c x).core j = s.core j := by unfold State.setDdr; rfl
@[simp] theorem State.setDdr_queueAt (s : State) (c : Nat) (x : DdrSt) (j : Nat) : (s.setDdr c x).queue j = s.queue j := by unfold State.setDdr; rfl
@[simp] theorem State.setDdr_objAt (s : State) (c : Nat) (x : DdrSt) (j : Nat) : (s.setDdr c x).obj j = s.obj j := by unfold State.setDdr; rfl

/-! `State.hi` changes hif. -/

@[simp] theorem State.hi_pending (s : State) (f : Hif → Hif) : (s.hi f).pending = s.pending := by unfold State.hi; rfl
@[simp] theorem State.hi_freeCtr (s : State) (f : Hif → Hif) : (s.hi f).freeCtr = s.freeCtr := by unfold State.hi; rfl
@[simp] theorem State.hi_variant (s : State) (f : Hif → Hif) : (s.hi f).variant = s.variant := by unfold State.hi; rfl
@[simp] theorem State.hi_readData (s : State) (f : Hif → Hif) : (s.hi f).readData = s.readData := by unfold State.hi; rfl
@[simp] theorem State.hi_readEP (s : State) (f : Hif → Hif) : (s.hi f).readEP = s.readEP := by unfold State.hi; rfl
@[simp] theorem State.hi_readFault (s : State) (f : Hif → Hif) : (s.hi f).readFault = s.readFault := by unfold State.hi; rfl
@[simp] theorem State.hi_otherData (s : State) (f : Hif → Hif) : (s.hi f).otherData = s.otherData := by unfold State.hi; rfl
@[simp] theorem State.hi_dramUnit (s : State) (f : Hif → Hif) : (s.hi f).dramUnit = s.dramUnit := by unfold State.hi; rfl
@[simp] theorem State.hi_dramOut (s : State) (f : Hif → Hif) : (s.hi f).dramOut = s.dramOut := by unfold State.hi; rfl
@[simp] theorem State.hi_regs (s : State) (f : Hif → Hif) : (s.hi f).regs = s.regs := by unfold State.hi; rfl
@[simp] theorem State.hi_latches (s : State) (f : Hif → Hif) : (s.hi f).latches = s.latches := by unfold State.hi; rfl
@[simp] theorem State.hi_held (s : State) (f : Hif → Hif) : (s.hi f).held = s.held := by unfold State.hi; rfl
@[simp] theorem State.hi_qHold (s : State) (f : Hif → Hif) : (s.hi f).qHold = s.qHold := by unfold State.hi; rfl
@[simp] theorem State.hi_qLatch (s : State) (f : Hif → Hif) : (s.hi f).qLatch = s.qLatch := by unfold State.hi; rfl
@[simp] theorem State.hi_pairs (s : State) (f : Hif → Hif) : (s.hi f).pairs = s.pairs := by unfold State.hi; rfl
@[simp] theorem State.hi_queues (s : State) (f : Hif → Hif) : (s.hi f).queues = s.queues := by unfold State.hi; rfl
@[simp] theorem State.hi_mem (s : State) (f : Hif → Hif) : (s.hi f).mem = s.mem := by unfold State.hi; rfl
@[simp] theorem State.hi_sched (s : State) (f : Hif → Hif) : (s.hi f).sched = s.sched := by unfold State.hi; rfl
@[simp] theorem State.hi_scene (s : State) (f : Hif → Hif) : (s.hi f).scene = s.scene := by unfold State.hi; rfl
@[simp] theorem State.hi_out (s : State) (f : Hif → Hif) : (s.hi f).out = s.out := by unfold State.hi; rfl
@[simp] theorem State.hi_cores (s : State) (f : Hif → Hif) : (s.hi f).cores = s.cores := by unfold State.hi; rfl
@[simp] theorem State.hi_time (s : State) (f : Hif → Hif) : (s.hi f).time = s.time := by unfold State.hi; rfl
@[simp] theorem State.hi_stat (s : State) (f : Hif → Hif) : (s.hi f).stat = s.stat := by unfold State.hi; rfl
@[simp] theorem State.hi_twin (s : State) (f : Hif → Hif) : (s.hi f).twin = s.twin := by unfold State.hi; rfl
@[simp] theorem State.hi_ddr (s : State) (f : Hif → Hif) : (s.hi f).ddr = s.ddr := by unfold State.hi; rfl
@[simp] theorem State.hi_net (s : State) (f : Hif → Hif) : (s.hi f).net = s.net := by unfold State.hi; rfl
@[simp] theorem State.hi_strm (s : State) (f : Hif → Hif) : (s.hi f).strm = s.strm := by unfold State.hi; rfl
@[simp] theorem State.hi_cond (s : State) (f : Hif → Hif) : (s.hi f).cond = s.cond := by unfold State.hi; rfl
@[simp] theorem State.hi_pwr (s : State) (f : Hif → Hif) : (s.hi f).pwr = s.pwr := by unfold State.hi; rfl
@[simp] theorem State.hi_sec (s : State) (f : Hif → Hif) : (s.hi f).sec = s.sec := by unfold State.hi; rfl
@[simp] theorem State.hi_rdAt (s : State) (f : Hif → Hif) (a : Nat) : (s.hi f).rd a = s.rd a := by unfold State.hi; rfl
@[simp] theorem State.hi_coreAt (s : State) (f : Hif → Hif) (j : Nat) : (s.hi f).core j = s.core j := by unfold State.hi; rfl
@[simp] theorem State.hi_queueAt (s : State) (f : Hif → Hif) (j : Nat) : (s.hi f).queue j = s.queue j := by unfold State.hi; rfl
@[simp] theorem State.hi_objAt (s : State) (f : Hif → Hif) (j : Nat) : (s.hi f).obj j = s.obj j := by unfold State.hi; rfl

/-! `State.pw` changes pwr. -/

@[simp] theorem State.pw_pending (s : State) (f : PwrSt → PwrSt) : (s.pw f).pending = s.pending := by unfold State.pw; rfl
@[simp] theorem State.pw_freeCtr (s : State) (f : PwrSt → PwrSt) : (s.pw f).freeCtr = s.freeCtr := by unfold State.pw; rfl
@[simp] theorem State.pw_variant (s : State) (f : PwrSt → PwrSt) : (s.pw f).variant = s.variant := by unfold State.pw; rfl
@[simp] theorem State.pw_readData (s : State) (f : PwrSt → PwrSt) : (s.pw f).readData = s.readData := by unfold State.pw; rfl
@[simp] theorem State.pw_readEP (s : State) (f : PwrSt → PwrSt) : (s.pw f).readEP = s.readEP := by unfold State.pw; rfl
@[simp] theorem State.pw_readFault (s : State) (f : PwrSt → PwrSt) : (s.pw f).readFault = s.readFault := by unfold State.pw; rfl
@[simp] theorem State.pw_otherData (s : State) (f : PwrSt → PwrSt) : (s.pw f).otherData = s.otherData := by unfold State.pw; rfl
@[simp] theorem State.pw_dramUnit (s : State) (f : PwrSt → PwrSt) : (s.pw f).dramUnit = s.dramUnit := by unfold State.pw; rfl
@[simp] theorem State.pw_dramOut (s : State) (f : PwrSt → PwrSt) : (s.pw f).dramOut = s.dramOut := by unfold State.pw; rfl
@[simp] theorem State.pw_regs (s : State) (f : PwrSt → PwrSt) : (s.pw f).regs = s.regs := by unfold State.pw; rfl
@[simp] theorem State.pw_latches (s : State) (f : PwrSt → PwrSt) : (s.pw f).latches = s.latches := by unfold State.pw; rfl
@[simp] theorem State.pw_held (s : State) (f : PwrSt → PwrSt) : (s.pw f).held = s.held := by unfold State.pw; rfl
@[simp] theorem State.pw_qHold (s : State) (f : PwrSt → PwrSt) : (s.pw f).qHold = s.qHold := by unfold State.pw; rfl
@[simp] theorem State.pw_qLatch (s : State) (f : PwrSt → PwrSt) : (s.pw f).qLatch = s.qLatch := by unfold State.pw; rfl
@[simp] theorem State.pw_pairs (s : State) (f : PwrSt → PwrSt) : (s.pw f).pairs = s.pairs := by unfold State.pw; rfl
@[simp] theorem State.pw_queues (s : State) (f : PwrSt → PwrSt) : (s.pw f).queues = s.queues := by unfold State.pw; rfl
@[simp] theorem State.pw_mem (s : State) (f : PwrSt → PwrSt) : (s.pw f).mem = s.mem := by unfold State.pw; rfl
@[simp] theorem State.pw_sched (s : State) (f : PwrSt → PwrSt) : (s.pw f).sched = s.sched := by unfold State.pw; rfl
@[simp] theorem State.pw_scene (s : State) (f : PwrSt → PwrSt) : (s.pw f).scene = s.scene := by unfold State.pw; rfl
@[simp] theorem State.pw_out (s : State) (f : PwrSt → PwrSt) : (s.pw f).out = s.out := by unfold State.pw; rfl
@[simp] theorem State.pw_cores (s : State) (f : PwrSt → PwrSt) : (s.pw f).cores = s.cores := by unfold State.pw; rfl
@[simp] theorem State.pw_time (s : State) (f : PwrSt → PwrSt) : (s.pw f).time = s.time := by unfold State.pw; rfl
@[simp] theorem State.pw_hif (s : State) (f : PwrSt → PwrSt) : (s.pw f).hif = s.hif := by unfold State.pw; rfl
@[simp] theorem State.pw_stat (s : State) (f : PwrSt → PwrSt) : (s.pw f).stat = s.stat := by unfold State.pw; rfl
@[simp] theorem State.pw_twin (s : State) (f : PwrSt → PwrSt) : (s.pw f).twin = s.twin := by unfold State.pw; rfl
@[simp] theorem State.pw_ddr (s : State) (f : PwrSt → PwrSt) : (s.pw f).ddr = s.ddr := by unfold State.pw; rfl
@[simp] theorem State.pw_net (s : State) (f : PwrSt → PwrSt) : (s.pw f).net = s.net := by unfold State.pw; rfl
@[simp] theorem State.pw_strm (s : State) (f : PwrSt → PwrSt) : (s.pw f).strm = s.strm := by unfold State.pw; rfl
@[simp] theorem State.pw_cond (s : State) (f : PwrSt → PwrSt) : (s.pw f).cond = s.cond := by unfold State.pw; rfl
@[simp] theorem State.pw_sec (s : State) (f : PwrSt → PwrSt) : (s.pw f).sec = s.sec := by unfold State.pw; rfl
@[simp] theorem State.pw_rdAt (s : State) (f : PwrSt → PwrSt) (a : Nat) : (s.pw f).rd a = s.rd a := by unfold State.pw; rfl
@[simp] theorem State.pw_coreAt (s : State) (f : PwrSt → PwrSt) (j : Nat) : (s.pw f).core j = s.core j := by unfold State.pw; rfl
@[simp] theorem State.pw_queueAt (s : State) (f : PwrSt → PwrSt) (j : Nat) : (s.pw f).queue j = s.queue j := by unfold State.pw; rfl
@[simp] theorem State.pw_objAt (s : State) (f : PwrSt → PwrSt) (j : Nat) : (s.pw f).obj j = s.obj j := by unfold State.pw; rfl

/-! `State.sc` changes sec. -/

@[simp] theorem State.sc_pending (s : State) (f : SecSt → SecSt) : (s.sc f).pending = s.pending := by unfold State.sc; rfl
@[simp] theorem State.sc_freeCtr (s : State) (f : SecSt → SecSt) : (s.sc f).freeCtr = s.freeCtr := by unfold State.sc; rfl
@[simp] theorem State.sc_variant (s : State) (f : SecSt → SecSt) : (s.sc f).variant = s.variant := by unfold State.sc; rfl
@[simp] theorem State.sc_readData (s : State) (f : SecSt → SecSt) : (s.sc f).readData = s.readData := by unfold State.sc; rfl
@[simp] theorem State.sc_readEP (s : State) (f : SecSt → SecSt) : (s.sc f).readEP = s.readEP := by unfold State.sc; rfl
@[simp] theorem State.sc_readFault (s : State) (f : SecSt → SecSt) : (s.sc f).readFault = s.readFault := by unfold State.sc; rfl
@[simp] theorem State.sc_otherData (s : State) (f : SecSt → SecSt) : (s.sc f).otherData = s.otherData := by unfold State.sc; rfl
@[simp] theorem State.sc_dramUnit (s : State) (f : SecSt → SecSt) : (s.sc f).dramUnit = s.dramUnit := by unfold State.sc; rfl
@[simp] theorem State.sc_dramOut (s : State) (f : SecSt → SecSt) : (s.sc f).dramOut = s.dramOut := by unfold State.sc; rfl
@[simp] theorem State.sc_regs (s : State) (f : SecSt → SecSt) : (s.sc f).regs = s.regs := by unfold State.sc; rfl
@[simp] theorem State.sc_latches (s : State) (f : SecSt → SecSt) : (s.sc f).latches = s.latches := by unfold State.sc; rfl
@[simp] theorem State.sc_held (s : State) (f : SecSt → SecSt) : (s.sc f).held = s.held := by unfold State.sc; rfl
@[simp] theorem State.sc_qHold (s : State) (f : SecSt → SecSt) : (s.sc f).qHold = s.qHold := by unfold State.sc; rfl
@[simp] theorem State.sc_qLatch (s : State) (f : SecSt → SecSt) : (s.sc f).qLatch = s.qLatch := by unfold State.sc; rfl
@[simp] theorem State.sc_pairs (s : State) (f : SecSt → SecSt) : (s.sc f).pairs = s.pairs := by unfold State.sc; rfl
@[simp] theorem State.sc_queues (s : State) (f : SecSt → SecSt) : (s.sc f).queues = s.queues := by unfold State.sc; rfl
@[simp] theorem State.sc_mem (s : State) (f : SecSt → SecSt) : (s.sc f).mem = s.mem := by unfold State.sc; rfl
@[simp] theorem State.sc_sched (s : State) (f : SecSt → SecSt) : (s.sc f).sched = s.sched := by unfold State.sc; rfl
@[simp] theorem State.sc_scene (s : State) (f : SecSt → SecSt) : (s.sc f).scene = s.scene := by unfold State.sc; rfl
@[simp] theorem State.sc_out (s : State) (f : SecSt → SecSt) : (s.sc f).out = s.out := by unfold State.sc; rfl
@[simp] theorem State.sc_cores (s : State) (f : SecSt → SecSt) : (s.sc f).cores = s.cores := by unfold State.sc; rfl
@[simp] theorem State.sc_time (s : State) (f : SecSt → SecSt) : (s.sc f).time = s.time := by unfold State.sc; rfl
@[simp] theorem State.sc_hif (s : State) (f : SecSt → SecSt) : (s.sc f).hif = s.hif := by unfold State.sc; rfl
@[simp] theorem State.sc_stat (s : State) (f : SecSt → SecSt) : (s.sc f).stat = s.stat := by unfold State.sc; rfl
@[simp] theorem State.sc_twin (s : State) (f : SecSt → SecSt) : (s.sc f).twin = s.twin := by unfold State.sc; rfl
@[simp] theorem State.sc_ddr (s : State) (f : SecSt → SecSt) : (s.sc f).ddr = s.ddr := by unfold State.sc; rfl
@[simp] theorem State.sc_net (s : State) (f : SecSt → SecSt) : (s.sc f).net = s.net := by unfold State.sc; rfl
@[simp] theorem State.sc_strm (s : State) (f : SecSt → SecSt) : (s.sc f).strm = s.strm := by unfold State.sc; rfl
@[simp] theorem State.sc_cond (s : State) (f : SecSt → SecSt) : (s.sc f).cond = s.cond := by unfold State.sc; rfl
@[simp] theorem State.sc_pwr (s : State) (f : SecSt → SecSt) : (s.sc f).pwr = s.pwr := by unfold State.sc; rfl
@[simp] theorem State.sc_rdAt (s : State) (f : SecSt → SecSt) (a : Nat) : (s.sc f).rd a = s.rd a := by unfold State.sc; rfl
@[simp] theorem State.sc_coreAt (s : State) (f : SecSt → SecSt) (j : Nat) : (s.sc f).core j = s.core j := by unfold State.sc; rfl
@[simp] theorem State.sc_queueAt (s : State) (f : SecSt → SecSt) (j : Nat) : (s.sc f).queue j = s.queue j := by unfold State.sc; rfl
@[simp] theorem State.sc_objAt (s : State) (f : SecSt → SecSt) (j : Nat) : (s.sc f).obj j = s.obj j := by unfold State.sc; rfl

/-! `State.accessFault` changes readEP, readFault. -/

@[simp] theorem State.accessFault_pending (s : State)  : (s.accessFault ).pending = s.pending := by unfold State.accessFault; rfl
@[simp] theorem State.accessFault_freeCtr (s : State)  : (s.accessFault ).freeCtr = s.freeCtr := by unfold State.accessFault; rfl
@[simp] theorem State.accessFault_variant (s : State)  : (s.accessFault ).variant = s.variant := by unfold State.accessFault; rfl
@[simp] theorem State.accessFault_readData (s : State)  : (s.accessFault ).readData = s.readData := by unfold State.accessFault; rfl
@[simp] theorem State.accessFault_otherData (s : State)  : (s.accessFault ).otherData = s.otherData := by unfold State.accessFault; rfl
@[simp] theorem State.accessFault_dramUnit (s : State)  : (s.accessFault ).dramUnit = s.dramUnit := by unfold State.accessFault; rfl
@[simp] theorem State.accessFault_dramOut (s : State)  : (s.accessFault ).dramOut = s.dramOut := by unfold State.accessFault; rfl
@[simp] theorem State.accessFault_regs (s : State)  : (s.accessFault ).regs = s.regs := by unfold State.accessFault; rfl
@[simp] theorem State.accessFault_latches (s : State)  : (s.accessFault ).latches = s.latches := by unfold State.accessFault; rfl
@[simp] theorem State.accessFault_held (s : State)  : (s.accessFault ).held = s.held := by unfold State.accessFault; rfl
@[simp] theorem State.accessFault_qHold (s : State)  : (s.accessFault ).qHold = s.qHold := by unfold State.accessFault; rfl
@[simp] theorem State.accessFault_qLatch (s : State)  : (s.accessFault ).qLatch = s.qLatch := by unfold State.accessFault; rfl
@[simp] theorem State.accessFault_pairs (s : State)  : (s.accessFault ).pairs = s.pairs := by unfold State.accessFault; rfl
@[simp] theorem State.accessFault_queues (s : State)  : (s.accessFault ).queues = s.queues := by unfold State.accessFault; rfl
@[simp] theorem State.accessFault_mem (s : State)  : (s.accessFault ).mem = s.mem := by unfold State.accessFault; rfl
@[simp] theorem State.accessFault_sched (s : State)  : (s.accessFault ).sched = s.sched := by unfold State.accessFault; rfl
@[simp] theorem State.accessFault_scene (s : State)  : (s.accessFault ).scene = s.scene := by unfold State.accessFault; rfl
@[simp] theorem State.accessFault_out (s : State)  : (s.accessFault ).out = s.out := by unfold State.accessFault; rfl
@[simp] theorem State.accessFault_cores (s : State)  : (s.accessFault ).cores = s.cores := by unfold State.accessFault; rfl
@[simp] theorem State.accessFault_time (s : State)  : (s.accessFault ).time = s.time := by unfold State.accessFault; rfl
@[simp] theorem State.accessFault_hif (s : State)  : (s.accessFault ).hif = s.hif := by unfold State.accessFault; rfl
@[simp] theorem State.accessFault_stat (s : State)  : (s.accessFault ).stat = s.stat := by unfold State.accessFault; rfl
@[simp] theorem State.accessFault_twin (s : State)  : (s.accessFault ).twin = s.twin := by unfold State.accessFault; rfl
@[simp] theorem State.accessFault_ddr (s : State)  : (s.accessFault ).ddr = s.ddr := by unfold State.accessFault; rfl
@[simp] theorem State.accessFault_net (s : State)  : (s.accessFault ).net = s.net := by unfold State.accessFault; rfl
@[simp] theorem State.accessFault_strm (s : State)  : (s.accessFault ).strm = s.strm := by unfold State.accessFault; rfl
@[simp] theorem State.accessFault_cond (s : State)  : (s.accessFault ).cond = s.cond := by unfold State.accessFault; rfl
@[simp] theorem State.accessFault_pwr (s : State)  : (s.accessFault ).pwr = s.pwr := by unfold State.accessFault; rfl
@[simp] theorem State.accessFault_sec (s : State)  : (s.accessFault ).sec = s.sec := by unfold State.accessFault; rfl
@[simp] theorem State.accessFault_rdAt (s : State)  (a : Nat) : (s.accessFault ).rd a = s.rd a := by unfold State.accessFault; rfl
@[simp] theorem State.accessFault_coreAt (s : State)  (j : Nat) : (s.accessFault ).core j = s.core j := by unfold State.accessFault; rfl
@[simp] theorem State.accessFault_queueAt (s : State)  (j : Nat) : (s.accessFault ).queue j = s.queue j := by unfold State.accessFault; rfl
@[simp] theorem State.accessFault_objAt (s : State)  (j : Nat) : (s.accessFault ).obj j = s.obj j := by unfold State.accessFault; rfl

/-! `State.unsupported` changes hif. -/

@[simp] theorem State.unsupported_pending (s : State)  : (s.unsupported ).pending = s.pending := by unfold State.unsupported; rfl
@[simp] theorem State.unsupported_freeCtr (s : State)  : (s.unsupported ).freeCtr = s.freeCtr := by unfold State.unsupported; rfl
@[simp] theorem State.unsupported_variant (s : State)  : (s.unsupported ).variant = s.variant := by unfold State.unsupported; rfl
@[simp] theorem State.unsupported_readData (s : State)  : (s.unsupported ).readData = s.readData := by unfold State.unsupported; rfl
@[simp] theorem State.unsupported_readEP (s : State)  : (s.unsupported ).readEP = s.readEP := by unfold State.unsupported; rfl
@[simp] theorem State.unsupported_readFault (s : State)  : (s.unsupported ).readFault = s.readFault := by unfold State.unsupported; rfl
@[simp] theorem State.unsupported_otherData (s : State)  : (s.unsupported ).otherData = s.otherData := by unfold State.unsupported; rfl
@[simp] theorem State.unsupported_dramUnit (s : State)  : (s.unsupported ).dramUnit = s.dramUnit := by unfold State.unsupported; rfl
@[simp] theorem State.unsupported_dramOut (s : State)  : (s.unsupported ).dramOut = s.dramOut := by unfold State.unsupported; rfl
@[simp] theorem State.unsupported_regs (s : State)  : (s.unsupported ).regs = s.regs := by unfold State.unsupported; rfl
@[simp] theorem State.unsupported_latches (s : State)  : (s.unsupported ).latches = s.latches := by unfold State.unsupported; rfl
@[simp] theorem State.unsupported_held (s : State)  : (s.unsupported ).held = s.held := by unfold State.unsupported; rfl
@[simp] theorem State.unsupported_qHold (s : State)  : (s.unsupported ).qHold = s.qHold := by unfold State.unsupported; rfl
@[simp] theorem State.unsupported_qLatch (s : State)  : (s.unsupported ).qLatch = s.qLatch := by unfold State.unsupported; rfl
@[simp] theorem State.unsupported_pairs (s : State)  : (s.unsupported ).pairs = s.pairs := by unfold State.unsupported; rfl
@[simp] theorem State.unsupported_queues (s : State)  : (s.unsupported ).queues = s.queues := by unfold State.unsupported; rfl
@[simp] theorem State.unsupported_mem (s : State)  : (s.unsupported ).mem = s.mem := by unfold State.unsupported; rfl
@[simp] theorem State.unsupported_sched (s : State)  : (s.unsupported ).sched = s.sched := by unfold State.unsupported; rfl
@[simp] theorem State.unsupported_scene (s : State)  : (s.unsupported ).scene = s.scene := by unfold State.unsupported; rfl
@[simp] theorem State.unsupported_out (s : State)  : (s.unsupported ).out = s.out := by unfold State.unsupported; rfl
@[simp] theorem State.unsupported_cores (s : State)  : (s.unsupported ).cores = s.cores := by unfold State.unsupported; rfl
@[simp] theorem State.unsupported_time (s : State)  : (s.unsupported ).time = s.time := by unfold State.unsupported; rfl
@[simp] theorem State.unsupported_stat (s : State)  : (s.unsupported ).stat = s.stat := by unfold State.unsupported; rfl
@[simp] theorem State.unsupported_twin (s : State)  : (s.unsupported ).twin = s.twin := by unfold State.unsupported; rfl
@[simp] theorem State.unsupported_ddr (s : State)  : (s.unsupported ).ddr = s.ddr := by unfold State.unsupported; rfl
@[simp] theorem State.unsupported_net (s : State)  : (s.unsupported ).net = s.net := by unfold State.unsupported; rfl
@[simp] theorem State.unsupported_strm (s : State)  : (s.unsupported ).strm = s.strm := by unfold State.unsupported; rfl
@[simp] theorem State.unsupported_cond (s : State)  : (s.unsupported ).cond = s.cond := by unfold State.unsupported; rfl
@[simp] theorem State.unsupported_pwr (s : State)  : (s.unsupported ).pwr = s.pwr := by unfold State.unsupported; rfl
@[simp] theorem State.unsupported_sec (s : State)  : (s.unsupported ).sec = s.sec := by unfold State.unsupported; rfl
@[simp] theorem State.unsupported_rdAt (s : State)  (a : Nat) : (s.unsupported ).rd a = s.rd a := by unfold State.unsupported; rfl
@[simp] theorem State.unsupported_coreAt (s : State)  (j : Nat) : (s.unsupported ).core j = s.core j := by unfold State.unsupported; rfl
@[simp] theorem State.unsupported_queueAt (s : State)  (j : Nat) : (s.unsupported ).queue j = s.queue j := by unfold State.unsupported; rfl
@[simp] theorem State.unsupported_objAt (s : State)  (j : Nat) : (s.unsupported ).obj j = s.obj j := by unfold State.unsupported; rfl

/-! `State.noData` changes hif, readData, readEP, readFault. -/

@[simp] theorem State.noData_pending (s : State)  : (s.noData ).pending = s.pending := by unfold State.noData; rfl
@[simp] theorem State.noData_freeCtr (s : State)  : (s.noData ).freeCtr = s.freeCtr := by unfold State.noData; rfl
@[simp] theorem State.noData_variant (s : State)  : (s.noData ).variant = s.variant := by unfold State.noData; rfl
@[simp] theorem State.noData_otherData (s : State)  : (s.noData ).otherData = s.otherData := by unfold State.noData; rfl
@[simp] theorem State.noData_dramUnit (s : State)  : (s.noData ).dramUnit = s.dramUnit := by unfold State.noData; rfl
@[simp] theorem State.noData_dramOut (s : State)  : (s.noData ).dramOut = s.dramOut := by unfold State.noData; rfl
@[simp] theorem State.noData_regs (s : State)  : (s.noData ).regs = s.regs := by unfold State.noData; rfl
@[simp] theorem State.noData_latches (s : State)  : (s.noData ).latches = s.latches := by unfold State.noData; rfl
@[simp] theorem State.noData_held (s : State)  : (s.noData ).held = s.held := by unfold State.noData; rfl
@[simp] theorem State.noData_qHold (s : State)  : (s.noData ).qHold = s.qHold := by unfold State.noData; rfl
@[simp] theorem State.noData_qLatch (s : State)  : (s.noData ).qLatch = s.qLatch := by unfold State.noData; rfl
@[simp] theorem State.noData_pairs (s : State)  : (s.noData ).pairs = s.pairs := by unfold State.noData; rfl
@[simp] theorem State.noData_queues (s : State)  : (s.noData ).queues = s.queues := by unfold State.noData; rfl
@[simp] theorem State.noData_mem (s : State)  : (s.noData ).mem = s.mem := by unfold State.noData; rfl
@[simp] theorem State.noData_sched (s : State)  : (s.noData ).sched = s.sched := by unfold State.noData; rfl
@[simp] theorem State.noData_scene (s : State)  : (s.noData ).scene = s.scene := by unfold State.noData; rfl
@[simp] theorem State.noData_out (s : State)  : (s.noData ).out = s.out := by unfold State.noData; rfl
@[simp] theorem State.noData_cores (s : State)  : (s.noData ).cores = s.cores := by unfold State.noData; rfl
@[simp] theorem State.noData_time (s : State)  : (s.noData ).time = s.time := by unfold State.noData; rfl
@[simp] theorem State.noData_stat (s : State)  : (s.noData ).stat = s.stat := by unfold State.noData; rfl
@[simp] theorem State.noData_twin (s : State)  : (s.noData ).twin = s.twin := by unfold State.noData; rfl
@[simp] theorem State.noData_ddr (s : State)  : (s.noData ).ddr = s.ddr := by unfold State.noData; rfl
@[simp] theorem State.noData_net (s : State)  : (s.noData ).net = s.net := by unfold State.noData; rfl
@[simp] theorem State.noData_strm (s : State)  : (s.noData ).strm = s.strm := by unfold State.noData; rfl
@[simp] theorem State.noData_cond (s : State)  : (s.noData ).cond = s.cond := by unfold State.noData; rfl
@[simp] theorem State.noData_pwr (s : State)  : (s.noData ).pwr = s.pwr := by unfold State.noData; rfl
@[simp] theorem State.noData_sec (s : State)  : (s.noData ).sec = s.sec := by unfold State.noData; rfl
@[simp] theorem State.noData_rdAt (s : State)  (a : Nat) : (s.noData ).rd a = s.rd a := by unfold State.noData; rfl
@[simp] theorem State.noData_coreAt (s : State)  (j : Nat) : (s.noData ).core j = s.core j := by unfold State.noData; rfl
@[simp] theorem State.noData_queueAt (s : State)  (j : Nat) : (s.noData ).queue j = s.queue j := by unfold State.noData; rfl
@[simp] theorem State.noData_objAt (s : State)  (j : Nat) : (s.noData ).obj j = s.obj j := by unfold State.noData; rfl

/-! `State.stt` changes stat. -/

@[simp] theorem State.stt_pending (s : State) (f : Stat → Stat) : (s.stt f).pending = s.pending := by unfold State.stt; rfl
@[simp] theorem State.stt_freeCtr (s : State) (f : Stat → Stat) : (s.stt f).freeCtr = s.freeCtr := by unfold State.stt; rfl
@[simp] theorem State.stt_variant (s : State) (f : Stat → Stat) : (s.stt f).variant = s.variant := by unfold State.stt; rfl
@[simp] theorem State.stt_readData (s : State) (f : Stat → Stat) : (s.stt f).readData = s.readData := by unfold State.stt; rfl
@[simp] theorem State.stt_readEP (s : State) (f : Stat → Stat) : (s.stt f).readEP = s.readEP := by unfold State.stt; rfl
@[simp] theorem State.stt_readFault (s : State) (f : Stat → Stat) : (s.stt f).readFault = s.readFault := by unfold State.stt; rfl
@[simp] theorem State.stt_otherData (s : State) (f : Stat → Stat) : (s.stt f).otherData = s.otherData := by unfold State.stt; rfl
@[simp] theorem State.stt_dramUnit (s : State) (f : Stat → Stat) : (s.stt f).dramUnit = s.dramUnit := by unfold State.stt; rfl
@[simp] theorem State.stt_dramOut (s : State) (f : Stat → Stat) : (s.stt f).dramOut = s.dramOut := by unfold State.stt; rfl
@[simp] theorem State.stt_regs (s : State) (f : Stat → Stat) : (s.stt f).regs = s.regs := by unfold State.stt; rfl
@[simp] theorem State.stt_latches (s : State) (f : Stat → Stat) : (s.stt f).latches = s.latches := by unfold State.stt; rfl
@[simp] theorem State.stt_held (s : State) (f : Stat → Stat) : (s.stt f).held = s.held := by unfold State.stt; rfl
@[simp] theorem State.stt_qHold (s : State) (f : Stat → Stat) : (s.stt f).qHold = s.qHold := by unfold State.stt; rfl
@[simp] theorem State.stt_qLatch (s : State) (f : Stat → Stat) : (s.stt f).qLatch = s.qLatch := by unfold State.stt; rfl
@[simp] theorem State.stt_pairs (s : State) (f : Stat → Stat) : (s.stt f).pairs = s.pairs := by unfold State.stt; rfl
@[simp] theorem State.stt_queues (s : State) (f : Stat → Stat) : (s.stt f).queues = s.queues := by unfold State.stt; rfl
@[simp] theorem State.stt_mem (s : State) (f : Stat → Stat) : (s.stt f).mem = s.mem := by unfold State.stt; rfl
@[simp] theorem State.stt_sched (s : State) (f : Stat → Stat) : (s.stt f).sched = s.sched := by unfold State.stt; rfl
@[simp] theorem State.stt_scene (s : State) (f : Stat → Stat) : (s.stt f).scene = s.scene := by unfold State.stt; rfl
@[simp] theorem State.stt_out (s : State) (f : Stat → Stat) : (s.stt f).out = s.out := by unfold State.stt; rfl
@[simp] theorem State.stt_cores (s : State) (f : Stat → Stat) : (s.stt f).cores = s.cores := by unfold State.stt; rfl
@[simp] theorem State.stt_time (s : State) (f : Stat → Stat) : (s.stt f).time = s.time := by unfold State.stt; rfl
@[simp] theorem State.stt_hif (s : State) (f : Stat → Stat) : (s.stt f).hif = s.hif := by unfold State.stt; rfl
@[simp] theorem State.stt_twin (s : State) (f : Stat → Stat) : (s.stt f).twin = s.twin := by unfold State.stt; rfl
@[simp] theorem State.stt_ddr (s : State) (f : Stat → Stat) : (s.stt f).ddr = s.ddr := by unfold State.stt; rfl
@[simp] theorem State.stt_net (s : State) (f : Stat → Stat) : (s.stt f).net = s.net := by unfold State.stt; rfl
@[simp] theorem State.stt_strm (s : State) (f : Stat → Stat) : (s.stt f).strm = s.strm := by unfold State.stt; rfl
@[simp] theorem State.stt_cond (s : State) (f : Stat → Stat) : (s.stt f).cond = s.cond := by unfold State.stt; rfl
@[simp] theorem State.stt_pwr (s : State) (f : Stat → Stat) : (s.stt f).pwr = s.pwr := by unfold State.stt; rfl
@[simp] theorem State.stt_sec (s : State) (f : Stat → Stat) : (s.stt f).sec = s.sec := by unfold State.stt; rfl
@[simp] theorem State.stt_rdAt (s : State) (f : Stat → Stat) (a : Nat) : (s.stt f).rd a = s.rd a := by unfold State.stt; rfl
@[simp] theorem State.stt_coreAt (s : State) (f : Stat → Stat) (j : Nat) : (s.stt f).core j = s.core j := by unfold State.stt; rfl
@[simp] theorem State.stt_queueAt (s : State) (f : Stat → Stat) (j : Nat) : (s.stt f).queue j = s.queue j := by unfold State.stt; rfl
@[simp] theorem State.stt_objAt (s : State) (f : Stat → Stat) (j : Nat) : (s.stt f).obj j = s.obj j := by unfold State.stt; rfl

/-! `State.tw` changes twin. -/

@[simp] theorem State.tw_pending (s : State) (f : TwinSt → TwinSt) : (s.tw f).pending = s.pending := by unfold State.tw; rfl
@[simp] theorem State.tw_freeCtr (s : State) (f : TwinSt → TwinSt) : (s.tw f).freeCtr = s.freeCtr := by unfold State.tw; rfl
@[simp] theorem State.tw_variant (s : State) (f : TwinSt → TwinSt) : (s.tw f).variant = s.variant := by unfold State.tw; rfl
@[simp] theorem State.tw_readData (s : State) (f : TwinSt → TwinSt) : (s.tw f).readData = s.readData := by unfold State.tw; rfl
@[simp] theorem State.tw_readEP (s : State) (f : TwinSt → TwinSt) : (s.tw f).readEP = s.readEP := by unfold State.tw; rfl
@[simp] theorem State.tw_readFault (s : State) (f : TwinSt → TwinSt) : (s.tw f).readFault = s.readFault := by unfold State.tw; rfl
@[simp] theorem State.tw_otherData (s : State) (f : TwinSt → TwinSt) : (s.tw f).otherData = s.otherData := by unfold State.tw; rfl
@[simp] theorem State.tw_dramUnit (s : State) (f : TwinSt → TwinSt) : (s.tw f).dramUnit = s.dramUnit := by unfold State.tw; rfl
@[simp] theorem State.tw_dramOut (s : State) (f : TwinSt → TwinSt) : (s.tw f).dramOut = s.dramOut := by unfold State.tw; rfl
@[simp] theorem State.tw_regs (s : State) (f : TwinSt → TwinSt) : (s.tw f).regs = s.regs := by unfold State.tw; rfl
@[simp] theorem State.tw_latches (s : State) (f : TwinSt → TwinSt) : (s.tw f).latches = s.latches := by unfold State.tw; rfl
@[simp] theorem State.tw_held (s : State) (f : TwinSt → TwinSt) : (s.tw f).held = s.held := by unfold State.tw; rfl
@[simp] theorem State.tw_qHold (s : State) (f : TwinSt → TwinSt) : (s.tw f).qHold = s.qHold := by unfold State.tw; rfl
@[simp] theorem State.tw_qLatch (s : State) (f : TwinSt → TwinSt) : (s.tw f).qLatch = s.qLatch := by unfold State.tw; rfl
@[simp] theorem State.tw_pairs (s : State) (f : TwinSt → TwinSt) : (s.tw f).pairs = s.pairs := by unfold State.tw; rfl
@[simp] theorem State.tw_queues (s : State) (f : TwinSt → TwinSt) : (s.tw f).queues = s.queues := by unfold State.tw; rfl
@[simp] theorem State.tw_mem (s : State) (f : TwinSt → TwinSt) : (s.tw f).mem = s.mem := by unfold State.tw; rfl
@[simp] theorem State.tw_sched (s : State) (f : TwinSt → TwinSt) : (s.tw f).sched = s.sched := by unfold State.tw; rfl
@[simp] theorem State.tw_scene (s : State) (f : TwinSt → TwinSt) : (s.tw f).scene = s.scene := by unfold State.tw; rfl
@[simp] theorem State.tw_out (s : State) (f : TwinSt → TwinSt) : (s.tw f).out = s.out := by unfold State.tw; rfl
@[simp] theorem State.tw_cores (s : State) (f : TwinSt → TwinSt) : (s.tw f).cores = s.cores := by unfold State.tw; rfl
@[simp] theorem State.tw_time (s : State) (f : TwinSt → TwinSt) : (s.tw f).time = s.time := by unfold State.tw; rfl
@[simp] theorem State.tw_hif (s : State) (f : TwinSt → TwinSt) : (s.tw f).hif = s.hif := by unfold State.tw; rfl
@[simp] theorem State.tw_stat (s : State) (f : TwinSt → TwinSt) : (s.tw f).stat = s.stat := by unfold State.tw; rfl
@[simp] theorem State.tw_ddr (s : State) (f : TwinSt → TwinSt) : (s.tw f).ddr = s.ddr := by unfold State.tw; rfl
@[simp] theorem State.tw_net (s : State) (f : TwinSt → TwinSt) : (s.tw f).net = s.net := by unfold State.tw; rfl
@[simp] theorem State.tw_strm (s : State) (f : TwinSt → TwinSt) : (s.tw f).strm = s.strm := by unfold State.tw; rfl
@[simp] theorem State.tw_cond (s : State) (f : TwinSt → TwinSt) : (s.tw f).cond = s.cond := by unfold State.tw; rfl
@[simp] theorem State.tw_pwr (s : State) (f : TwinSt → TwinSt) : (s.tw f).pwr = s.pwr := by unfold State.tw; rfl
@[simp] theorem State.tw_sec (s : State) (f : TwinSt → TwinSt) : (s.tw f).sec = s.sec := by unfold State.tw; rfl
@[simp] theorem State.tw_rdAt (s : State) (f : TwinSt → TwinSt) (a : Nat) : (s.tw f).rd a = s.rd a := by unfold State.tw; rfl
@[simp] theorem State.tw_coreAt (s : State) (f : TwinSt → TwinSt) (j : Nat) : (s.tw f).core j = s.core j := by unfold State.tw; rfl
@[simp] theorem State.tw_queueAt (s : State) (f : TwinSt → TwinSt) (j : Nat) : (s.tw f).queue j = s.queue j := by unfold State.tw; rfl
@[simp] theorem State.tw_objAt (s : State) (f : TwinSt → TwinSt) (j : Nat) : (s.tw f).obj j = s.obj j := by unfold State.tw; rfl

/-- A register reads what was written. -/
theorem State.rd_wr (s : State) (off v a : Nat) : (s.wr off v).rd a = if a = off then v % 2 ^ 32 else s.rd a := by
  unfold State.rd State.wr
  rw [Tab.get_put]
  split <;> simp [toW, BitVec.toNat_ofNat]

@[simp] theorem State.rd_wr_self (s : State) (off v : Nat) : (s.wr off v).rd off = v % 2 ^ 32 := by simp [State.rd_wr]

theorem State.rd_wr_ne (s : State) {off a : Nat} (v : Nat) (h : a ≠ off) : (s.wr off v).rd a = s.rd a := by simp [State.rd_wr, h]

/-- A register holds a 32-bit word. -/
theorem State.rd_lt (s : State) (off : Nat) : s.rd off < 2 ^ 32 := (Tab.get resetWord s.regs off).isLt

/-- R17: a counter reads its saturated sum. -/
@[simp] theorem State.rd_count_self (s : State) (off n : Nat) : (s.count off n).rd off = Nat.min (s.rd off + n) 0xFFFFFFFF := by
  unfold State.count
  rw [State.rd_wr_self]
  exact Nat.mod_eq_of_lt (Nat.lt_of_le_of_lt (Nat.min_le_right ..) (by decide))

theorem State.rd_count_ne (s : State) {off a : Nat} (n : Nat) (h : a ≠ off) : (s.count off n).rd a = s.rd a := State.rd_wr_ne s _ h

theorem State.rd_fset_ne (s : State) {off a : Nat} (hi lo v : Nat) (h : a ≠ off) : (s.fset off hi lo v).rd a = s.rd a :=
  State.rd_wr_ne s _ h

theorem State.rd_bset_ne (s : State) {off a : Nat} (b : Nat) (v : Bool) (h : a ≠ off) : (s.bset off b v).rd a = s.rd a :=
  State.rd_wr_ne s _ h

/-- A core reads as it was set; the others are unchanged. -/
theorem State.core_setCore (s : State) (k j : Nat) (c : QCore) : (s.setCore k c).core j = if j = k then c else s.core j :=
  Tab.get_put ..

@[simp] theorem State.core_setCore_self (s : State) (k : Nat) (c : QCore) : (s.setCore k c).core k = c := by simp [State.core_setCore]

/-- A queue reads as it was set; the others are unchanged. -/
theorem State.queue_setQueue (s : State) (q j : Nat) (x : QState) : (s.setQueue q x).queue j = if j = q then x else s.queue j :=
  Tab.get_put ..

@[simp] theorem State.queue_setQueue_self (s : State) (q : Nat) (x : QState) : (s.setQueue q x).queue q = x := by
  simp [State.queue_setQueue]

/-- An object reads as it was set; the others are unchanged. -/
theorem State.obj_setObj (s : State) (o j : Nat) (x : Obj) : (s.setObj o x).obj j = if j = o then x else s.obj j :=
  Tab.get_put ..

@[simp] theorem State.obj_setObj_self (s : State) (o : Nat) (x : Obj) : (s.setObj o x).obj o = x := by simp [State.obj_setObj]

/-- A DRAM controller reads as set; the others are unchanged. -/
theorem State.ddrSt_setDdr (s : State) (c j : Nat) (x : DdrSt) : (s.setDdr c x).ddrSt j = if j = c then x else s.ddrSt j :=
  Tab.get_put ..

@[simp] theorem State.ddrSt_setDdr_self (s : State) (c : Nat) (x : DdrSt) : (s.setDdr c x).ddrSt c = x := by simp [State.ddrSt_setDdr]

/-- A port reads as set; the others are unchanged. -/
theorem State.netSt_setNet (s : State) (p j : Nat) (x : NetSt) : (s.setNet p x).netSt j = if j = p then x else s.netSt j :=
  Tab.get_put ..

@[simp] theorem State.netSt_setNet_self (s : State) (p : Nat) (x : NetSt) : (s.setNet p x).netSt p = x := by simp [State.netSt_setNet]

/-- A TDM port reads as set; the others are unchanged. -/
theorem State.tdm_setTdm (s : State) (p j : Nat) (x : TdmSt) : (s.setTdm p x).tdm j = if j = p then x else s.tdm j :=
  Tab.get_put ..

@[simp] theorem State.tdm_setTdm_self (s : State) (p : Nat) (x : TdmSt) : (s.setTdm p x).tdm p = x := by simp [State.tdm_setTdm]

/-- A resampler group reads as set; the others are unchanged. -/
theorem State.grp_setGrp (s : State) (g j : Nat) (x : RsGroup) : (s.setGrp g x).grp j = if j = g then x else s.grp j :=
  Tab.get_put ..

@[simp] theorem State.grp_setGrp_self (s : State) (g : Nat) (x : RsGroup) : (s.setGrp g x).grp g = x := by simp [State.grp_setGrp]

/-- A level detector reads as set; the others are unchanged. -/
theorem State.det_setDet (s : State) (k j : Nat) (x : DetSt) : (s.setDet k x).det j = if j = k then x else s.det j :=
  Tab.get_put ..

@[simp] theorem State.det_setDet_self (s : State) (k : Nat) (x : DetSt) : (s.setDet k x).det k = x := by simp [State.det_setDet]

/-- An output reads as set; the others are unchanged. -/
theorem State.outSt_setOut (s : State) (n j : Nat) (x : OutSt) : (s.setOut n x).outSt j = if j = n then x else s.outSt j :=
  Tab.get_put ..

@[simp] theorem State.outSt_setOut_self (s : State) (n : Nat) (x : OutSt) : (s.setOut n x).outSt n = x := by simp [State.outSt_setOut]

/-- A receive stream reads as set; the others are unchanged. -/
theorem State.srx_setSrx (s : State) (n j : Nat) (x : StrmRx) : (s.setSrx n x).srx j = if j = n then x else s.srx j :=
  Tab.get_put ..

@[simp] theorem State.srx_setSrx_self (s : State) (n : Nat) (x : StrmRx) : (s.setSrx n x).srx n = x := by simp [State.srx_setSrx]

/-- A transmit stream reads as set; the others are unchanged. -/
theorem State.stx_setStx (s : State) (n j : Nat) (x : StrmTx) : (s.setStx n x).stx j = if j = n then x else s.stx j :=
  Tab.get_put ..

@[simp] theorem State.stx_setStx_self (s : State) (n : Nat) (x : StrmTx) : (s.setStx n x).stx n = x := by simp [State.stx_setStx]

/-- The crosspoints of an object read as set; the others are unchanged. -/
theorem State.xp_setXp (s : State) (o j : Nat) (x : XpObj) : (s.setXp o x).xp j = if j = o then x else s.xp j :=
  Tab.get_put ..

@[simp] theorem State.xp_setXp_self (s : State) (o : Nat) (x : XpObj) : (s.setXp o x).xp o = x := by simp [State.xp_setXp]

end Sys2Proof.Machine
end

