-- ==== Sys2Proof/Laws/Mem.lean ====
section
/-! SUPPORT. The laws of memory: reads after writes, what a store leaves alone, and that every memory operation keeps the canonical
form. -/

namespace Sys2Proof.Machine

/-- A byte reads as it was written; the others stand. -/
theorem Mem.rdByte_wrByte (m : Mem) (a x : Nat) (b : Byte) : (m.wrByte a b).rdByte x = if x = a then b else m.rdByte x := by
  unfold Mem.rdByte Mem.wrByte
  exact Tab.get_put ..

@[simp] theorem Mem.rdByte_setBad (m : Mem) (a x : Nat) (b : Bool) : (m.setBad a b).rdByte x = m.rdByte x := rfl

/-- The bytes of a word that was written, and the others. -/
theorem Mem.rdByte_wrWord (m : Mem) (a x : Nat) (w : Word) : (m.wrWord a w).rdByte x =
    if x = a + 3 then w.extractLsb' 24 8 else if x = a + 2 then w.extractLsb' 16 8 else if x = a + 1 then w.extractLsb' 8 8
    else if x = a then w.extractLsb' 0 8 else m.rdByte x := by
  unfold Mem.wrWord
  simp only [Mem.rdByte_wrByte]

/-- A word reads as it was written. -/
@[simp] theorem Mem.rdWord_wrWord (m : Mem) (a : Nat) (w : Word) : (m.wrWord a w).rdWord a = w := by
  unfold Mem.rdWord
  simp only [Mem.rdByte_wrWord]
  simp only [show ¬ a + 2 = a + 3 by omega, show ¬ a + 1 = a + 3 by omega, show ¬ a + 1 = a + 2 by omega, show ¬ a = a + 3 by omega,
    show ¬ a = a + 2 by omega, show ¬ a = a + 1 by omega, ↓reduceIte]
  ext i hi
  simp only [BitVec.getElem_append, BitVec.getElem_extractLsb']
  by_cases h1 : i < 8
  · simp [h1, BitVec.getLsbD_eq_getElem hi]
  · by_cases h2 : i < 16
    · simp [h1, show i - 8 < 8 by omega, show 8 + (i - 8) = i by omega, BitVec.getLsbD_eq_getElem hi]
    · by_cases h3 : i < 24
      · simp [h1, show ¬ i - 8 < 8 by omega, show i - 8 - 8 < 8 by omega, show 16 + (i - 8 - 8) = i by omega, BitVec.getLsbD_eq_getElem hi]
      · simp [h1, show ¬ i - 8 < 8 by omega, show ¬ i - 8 - 8 < 8 by omega, show 24 + (i - 8 - 8 - 8) = i by omega, BitVec.getLsbD_eq_getElem hi]

/-- A word write leaves every byte outside the word. -/
theorem Mem.rdByte_wrWord_ne (m : Mem) {a x : Nat} (w : Word) (h : x < a ∨ a + 4 ≤ x) : (m.wrWord a w).rdByte x = m.rdByte x := by
  rw [Mem.rdByte_wrWord, if_neg (by omega), if_neg (by omega), if_neg (by omega), if_neg (by omega)]

/-- The bytes of memory after a whole-word store. -/
theorem Mem.rdByte_store (m : Mem) (i p x : Nat) (v : Word) (bad : Bool) : (m.store i p v bad).rdByte x = (m.wrWord p v).rdByte x := by
  unfold Mem.store
  dsimp only
  split <;> rfl

/-- The word of a whole-word store. -/
@[simp] theorem Mem.rdWord_store (m : Mem) (i p : Nat) (v : Word) (bad : Bool) : (m.store i p v bad).rdWord p = v := by
  have h := Mem.rdWord_wrWord m p v
  unfold Mem.rdWord at h ⊢
  simpa only [Mem.rdByte_store] using h

@[simp] theorem Mem.wf_wrByte (m : Mem) (a : Nat) (b : Byte) (h : m.wf = true) : (m.wrByte a b).wf = true := Tab.wf_put _ _ _ _ h

@[simp] theorem Mem.wf_wrWord (m : Mem) (a : Nat) (w : Word) (h : m.wf = true) : (m.wrWord a w).wf = true :=
  Mem.wf_wrByte _ _ _ (Mem.wf_wrByte _ _ _ (Mem.wf_wrByte _ _ _ (Mem.wf_wrByte _ _ _ h)))

@[simp] theorem Mem.wf_setBad (m : Mem) (a : Nat) (b : Bool) : (m.setBad a b).wf = m.wf := rfl

@[simp] theorem Mem.wf_store (m : Mem) (i p : Nat) (v : Word) (bad : Bool) (h : m.wf = true) : (m.store i p v bad).wf = true := by
  unfold Mem.store
  dsimp only
  split <;> exact Mem.wf_wrWord _ _ _ h

@[simp] theorem Mem.wf_clearSpan (m : Mem) (a b : Nat) (h : m.wf = true) : (m.clearSpan a b).wf = true := Tab.wf_filter _ _ _ h

/-- A whole-word store to a bank that is present and ON (R272): the word is written where the windows map it (R266). -/
theorem storeWord_on {a i w : Nat} {s : State} (v : Word) (bad : Bool) (hb : bankOf a = some (i, w)) (hp : bankPresent s.variant i = true)
    (ho : s.bankOn i = true) : storeWord a v bad s = { s with mem := s.mem.store i (bankBase i + 4 * winMap s i w) (bankWord i v) bad } := by
  unfold storeWord
  simp [hb, hp, ho]

/-- A store to a bank that is not ON is discarded and counted (R272). -/
theorem storeWord_off {a i w : Nat} {s : State} (v : Word) (bad : Bool) (hb : bankOf a = some (i, w)) (hp : bankPresent s.variant i = true)
    (ho : s.bankOn i = false) : storeWord a v bad s = s.count Reg.MEMC_REFUSED_CNT 1 := by
  unfold storeWord
  simp [hb, hp, ho]

/-- A store keeps the canonical form of memory. -/
@[simp] theorem storeWord_wf (a : Nat) (v : Word) (bad : Bool) (s : State) (h : s.mem.wf = true) : (storeWord a v bad s).mem.wf = true := by
  unfold storeWord
  split
  · exact h
  · split
    · exact h
    · split
      · simpa using h
      · exact Mem.wf_store _ _ _ _ _ h

end Sys2Proof.Machine
end

