-- ==== Sys2Proof/Laws/Queue.lean ====
section
/-! SUPPORT. What the queue fabric and the event unit can do (R278 to R296, R544 to R547): a firing, a push, a flush and a pop change
registers, queues, interrupt bits of the cores, the event flags of the host and the twin, and queue storage; all else stands. -/

namespace Sys2Proof.Machine

set_option Elab.async false

variable {α : Type}

/-- `g` reads nothing that the queue fabric or the event unit writes. -/
structure Quiet (g : State → α) : Prop where
  regs : ∀ s r, g { s with regs := r } = g s
  queues : ∀ s q, g { s with queues := q } = g s
  cores : ∀ s k n, g (s.setCore k { s.core k with ipend := n }) = g s
  mem : ∀ s m, g { s with mem := m } = g s
  twin : ∀ s n, g { s with twin := { s.twin with hBits := n } } = g s
  hif : ∀ s n, g { s with hif := { s.hif with msixPend := n } } = g s
  free : ∀ s n, g { s with freeCtr := n } = g s

theorem Quiet.wr {g : State → α} (hg : Quiet g) (o v : Nat) (s : State) : g (s.wr o v) = g s := by
  unfold State.wr
  exact hg.regs _ _

theorem Quiet.count {g : State → α} (hg : Quiet g) (o n : Nat) (s : State) : g (s.count o n) = g s := hg.wr _ _ _

theorem Quiet.bset {g : State → α} (hg : Quiet g) (o i : Nat) (b : Bool) (s : State) : g (s.bset o i b) = g s := hg.wr _ _ _

theorem Quiet.storeSlot {g : State → α} (hg : Quiet g) (n w : Nat) (s : State) : g (storeSlot n w s) = g s := by
  unfold Machine.storeSlot
  split
  · exact hg.mem _ _
  · exact hg.count _ _ _

theorem Quiet.storeEntries {g : State → α} (hg : Quiet g) (q k : Nat) (es : List QEntry) (s : State) : g (storeEntries q k es s) = g s := by
  induction es generalizing k s with
  | nil => rfl
  | cons e es ih => exact (ih _ _).trans (hg.storeSlot _ _ _)

theorem Quiet.qSettle {g : State → α} (hg : Quiet g) (q : Nat) (s : State) : g (qSettle q s).1 = g s := by
  unfold Machine.qSettle
  dsimp only
  split
  · exact hg.wr _ _ _
  · split
    · exact (hg.count _ _ _).trans ((hg.bset _ _ _ _).trans ((hg.queues _ _).trans (hg.wr _ _ _)))
    · split
      · exact (hg.queues _ _).trans (hg.wr _ _ _)
      · exact hg.wr _ _ _

theorem Quiet.joinFree {g : State → α} (hg : Quiet g) (q n : Nat) (s : State) : g (joinFree q n s) = g s := by
  unfold Machine.joinFree
  dsimp only
  split
  · split
    · exact (hg.queues _ _).trans (hg.free _ _)
    · exact hg.free _ _
  · rfl

theorem Quiet.pushRaw {g : State → α} (hg : Quiet g) (q : Nat) (ps : List (BitVec 60)) (s : State) : g (pushRaw q ps s).1 = g s := by
  unfold Machine.pushRaw
  split
  · exact (hg.qSettle _ _).trans ((hg.storeEntries _ _ _ _).trans ((hg.count _ _ _).trans ((hg.queues _ _).trans (hg.joinFree _ _ _))))
  · exact hg.count _ _ _

theorem Quiet.pendQueueIrq {g : State → α} (hg : Quiet g) (q : Nat) (s : State) : g (pendQueueIrq q s) = g s := by
  unfold Machine.pendQueueIrq
  dsimp only
  split
  · exact hg.cores _ _ _
  · rfl

theorem Quiet.recordEvent {g : State → α} (hg : Quiet g) (e i : Nat) (s : State) : g (recordEvent e i s) = g s := by
  unfold Machine.recordEvent
  dsimp only
  split
  · exact (hg.hif _ _).trans ((hg.wr _ _ _).trans ((hg.count _ _ _).trans ((hg.bset _ _ _ _).trans (hg.twin _ _))))
  · exact (hg.wr _ _ _).trans ((hg.count _ _ _).trans ((hg.bset _ _ _ _).trans (hg.twin _ _)))

theorem Quiet.fireN {g : State → α} (hg : Quiet g) (n e i : Nat) (s : State) : g (fireN n e i s) = g s := by
  induction n generalizing e i s with
  | zero => rfl
  | succ n ih =>
    have step (q : Nat) (ps : List (BitVec 60)) (t : State) :
        g (if (Machine.pushRaw q ps t).2 then Machine.fireN n 0x1A q (Machine.pendQueueIrq q (Machine.pushRaw q ps t).1)
          else (Machine.pushRaw q ps t).1) = g t := by
      split
      · exact (ih _ _ _).trans ((hg.pendQueueIrq _ _).trans (hg.pushRaw _ _ _))
      · exact hg.pushRaw _ _ _
    unfold Machine.fireN
    split
    · dsimp only
      split <;> split
      · exact (step _ _ _).trans ((step _ _ _).trans (hg.recordEvent _ _ _))
      · exact (step _ _ _).trans (hg.recordEvent _ _ _)
      · exact (step _ _ _).trans (hg.recordEvent _ _ _)
      · exact hg.recordEvent _ _ _
    · rfl

/-- A firing leaves what the queue fabric and the event unit do not write. -/
theorem Quiet.fire {g : State → α} (hg : Quiet g) (e i : Nat) (s : State) : g (fire e i s) = g s := hg.fireN _ _ _ _

/-- So does a push. -/
theorem Quiet.push {g : State → α} (hg : Quiet g) (q : Nat) (ps : List (BitVec 60)) (s : State) : g (push q ps s) = g s := by
  unfold Machine.push
  dsimp only
  split
  · exact (hg.fire _ _ _).trans ((hg.pendQueueIrq _ _).trans (hg.pushRaw _ _ _))
  · exact hg.pushRaw _ _ _

/-- So does a flush. -/
theorem Quiet.flush {g : State → α} (hg : Quiet g) (q : Nat) (mark : Bool) (s : State) : g (flush q mark s) = g s := by
  unfold Machine.flush
  dsimp only
  generalize (if (mark && !(s.qView q).isEmpty) = true then [gapEntry (flushCount (s.qView q))] else []) = left
  split
  · exact (hg.fire _ _ _).trans ((hg.pendQueueIrq _ _).trans ((hg.qSettle _ _).trans ((hg.storeEntries _ _ _ _).trans (hg.queues _ _))))
  · exact (hg.qSettle _ _).trans ((hg.storeEntries _ _ _ _).trans (hg.queues _ _))

theorem quiet_pending : Quiet (fun s => s.pending) := ⟨fun _ _ => rfl, fun _ _ => rfl, fun _ _ _ => rfl, fun _ _ => rfl, fun _ _ => rfl, fun _ _ => rfl, fun _ _ => rfl⟩
theorem quiet_variant : Quiet (fun s => s.variant) := ⟨fun _ _ => rfl, fun _ _ => rfl, fun _ _ _ => rfl, fun _ _ => rfl, fun _ _ => rfl, fun _ _ => rfl, fun _ _ => rfl⟩
theorem quiet_readData : Quiet (fun s => s.readData) := ⟨fun _ _ => rfl, fun _ _ => rfl, fun _ _ _ => rfl, fun _ _ => rfl, fun _ _ => rfl, fun _ _ => rfl, fun _ _ => rfl⟩
theorem quiet_readEP : Quiet (fun s => s.readEP) := ⟨fun _ _ => rfl, fun _ _ => rfl, fun _ _ _ => rfl, fun _ _ => rfl, fun _ _ => rfl, fun _ _ => rfl, fun _ _ => rfl⟩
theorem quiet_readFault : Quiet (fun s => s.readFault) := ⟨fun _ _ => rfl, fun _ _ => rfl, fun _ _ _ => rfl, fun _ _ => rfl, fun _ _ => rfl, fun _ _ => rfl, fun _ _ => rfl⟩
theorem quiet_otherData : Quiet (fun s => s.otherData) := ⟨fun _ _ => rfl, fun _ _ => rfl, fun _ _ _ => rfl, fun _ _ => rfl, fun _ _ => rfl, fun _ _ => rfl, fun _ _ => rfl⟩
theorem quiet_dramUnit : Quiet (fun s => s.dramUnit) := ⟨fun _ _ => rfl, fun _ _ => rfl, fun _ _ _ => rfl, fun _ _ => rfl, fun _ _ => rfl, fun _ _ => rfl, fun _ _ => rfl⟩
theorem quiet_dramOut : Quiet (fun s => s.dramOut) := ⟨fun _ _ => rfl, fun _ _ => rfl, fun _ _ _ => rfl, fun _ _ => rfl, fun _ _ => rfl, fun _ _ => rfl, fun _ _ => rfl⟩
theorem quiet_latches : Quiet (fun s => s.latches) := ⟨fun _ _ => rfl, fun _ _ => rfl, fun _ _ _ => rfl, fun _ _ => rfl, fun _ _ => rfl, fun _ _ => rfl, fun _ _ => rfl⟩
theorem quiet_held : Quiet (fun s => s.held) := ⟨fun _ _ => rfl, fun _ _ => rfl, fun _ _ _ => rfl, fun _ _ => rfl, fun _ _ => rfl, fun _ _ => rfl, fun _ _ => rfl⟩
theorem quiet_qHold : Quiet (fun s => s.qHold) := ⟨fun _ _ => rfl, fun _ _ => rfl, fun _ _ _ => rfl, fun _ _ => rfl, fun _ _ => rfl, fun _ _ => rfl, fun _ _ => rfl⟩
theorem quiet_qLatch : Quiet (fun s => s.qLatch) := ⟨fun _ _ => rfl, fun _ _ => rfl, fun _ _ _ => rfl, fun _ _ => rfl, fun _ _ => rfl, fun _ _ => rfl, fun _ _ => rfl⟩
theorem quiet_pairs : Quiet (fun s => s.pairs) := ⟨fun _ _ => rfl, fun _ _ => rfl, fun _ _ _ => rfl, fun _ _ => rfl, fun _ _ => rfl, fun _ _ => rfl, fun _ _ => rfl⟩
theorem quiet_sched : Quiet (fun s => s.sched) := ⟨fun _ _ => rfl, fun _ _ => rfl, fun _ _ _ => rfl, fun _ _ => rfl, fun _ _ => rfl, fun _ _ => rfl, fun _ _ => rfl⟩
theorem quiet_scene : Quiet (fun s => s.scene) := ⟨fun _ _ => rfl, fun _ _ => rfl, fun _ _ _ => rfl, fun _ _ => rfl, fun _ _ => rfl, fun _ _ => rfl, fun _ _ => rfl⟩
theorem quiet_out : Quiet (fun s => s.out) := ⟨fun _ _ => rfl, fun _ _ => rfl, fun _ _ _ => rfl, fun _ _ => rfl, fun _ _ => rfl, fun _ _ => rfl, fun _ _ => rfl⟩
theorem quiet_time : Quiet (fun s => s.time) := ⟨fun _ _ => rfl, fun _ _ => rfl, fun _ _ _ => rfl, fun _ _ => rfl, fun _ _ => rfl, fun _ _ => rfl, fun _ _ => rfl⟩
theorem quiet_stat : Quiet (fun s => s.stat) := ⟨fun _ _ => rfl, fun _ _ => rfl, fun _ _ _ => rfl, fun _ _ => rfl, fun _ _ => rfl, fun _ _ => rfl, fun _ _ => rfl⟩
theorem quiet_ddr : Quiet (fun s => s.ddr) := ⟨fun _ _ => rfl, fun _ _ => rfl, fun _ _ _ => rfl, fun _ _ => rfl, fun _ _ => rfl, fun _ _ => rfl, fun _ _ => rfl⟩
theorem quiet_net : Quiet (fun s => s.net) := ⟨fun _ _ => rfl, fun _ _ => rfl, fun _ _ _ => rfl, fun _ _ => rfl, fun _ _ => rfl, fun _ _ => rfl, fun _ _ => rfl⟩
theorem quiet_strm : Quiet (fun s => s.strm) := ⟨fun _ _ => rfl, fun _ _ => rfl, fun _ _ _ => rfl, fun _ _ => rfl, fun _ _ => rfl, fun _ _ => rfl, fun _ _ => rfl⟩
theorem quiet_cond : Quiet (fun s => s.cond) := ⟨fun _ _ => rfl, fun _ _ => rfl, fun _ _ _ => rfl, fun _ _ => rfl, fun _ _ => rfl, fun _ _ => rfl, fun _ _ => rfl⟩
theorem quiet_pwr : Quiet (fun s => s.pwr) := ⟨fun _ _ => rfl, fun _ _ => rfl, fun _ _ _ => rfl, fun _ _ => rfl, fun _ _ => rfl, fun _ _ => rfl, fun _ _ => rfl⟩
theorem quiet_sec : Quiet (fun s => s.sec) := ⟨fun _ _ => rfl, fun _ _ => rfl, fun _ _ _ => rfl, fun _ _ => rfl, fun _ _ => rfl, fun _ _ => rfl, fun _ _ => rfl⟩

@[simp] theorem fire_pending (e i : Nat) (s : State) : (fire e i s).pending = s.pending := quiet_pending.fire e i s
@[simp] theorem fire_variant (e i : Nat) (s : State) : (fire e i s).variant = s.variant := quiet_variant.fire e i s
@[simp] theorem fire_readData (e i : Nat) (s : State) : (fire e i s).readData = s.readData := quiet_readData.fire e i s
@[simp] theorem fire_readEP (e i : Nat) (s : State) : (fire e i s).readEP = s.readEP := quiet_readEP.fire e i s
@[simp] theorem fire_readFault (e i : Nat) (s : State) : (fire e i s).readFault = s.readFault := quiet_readFault.fire e i s
@[simp] theorem fire_otherData (e i : Nat) (s : State) : (fire e i s).otherData = s.otherData := quiet_otherData.fire e i s
@[simp] theorem fire_dramUnit (e i : Nat) (s : State) : (fire e i s).dramUnit = s.dramUnit := quiet_dramUnit.fire e i s
@[simp] theorem fire_dramOut (e i : Nat) (s : State) : (fire e i s).dramOut = s.dramOut := quiet_dramOut.fire e i s
@[simp] theorem fire_latches (e i : Nat) (s : State) : (fire e i s).latches = s.latches := quiet_latches.fire e i s
@[simp] theorem fire_held (e i : Nat) (s : State) : (fire e i s).held = s.held := quiet_held.fire e i s
@[simp] theorem fire_qHold (e i : Nat) (s : State) : (fire e i s).qHold = s.qHold := quiet_qHold.fire e i s
@[simp] theorem fire_qLatch (e i : Nat) (s : State) : (fire e i s).qLatch = s.qLatch := quiet_qLatch.fire e i s
@[simp] theorem fire_pairs (e i : Nat) (s : State) : (fire e i s).pairs = s.pairs := quiet_pairs.fire e i s
@[simp] theorem fire_sched (e i : Nat) (s : State) : (fire e i s).sched = s.sched := quiet_sched.fire e i s
@[simp] theorem fire_scene (e i : Nat) (s : State) : (fire e i s).scene = s.scene := quiet_scene.fire e i s
@[simp] theorem fire_out (e i : Nat) (s : State) : (fire e i s).out = s.out := quiet_out.fire e i s
@[simp] theorem fire_time (e i : Nat) (s : State) : (fire e i s).time = s.time := quiet_time.fire e i s
@[simp] theorem fire_stat (e i : Nat) (s : State) : (fire e i s).stat = s.stat := quiet_stat.fire e i s
@[simp] theorem fire_ddr (e i : Nat) (s : State) : (fire e i s).ddr = s.ddr := quiet_ddr.fire e i s
@[simp] theorem fire_net (e i : Nat) (s : State) : (fire e i s).net = s.net := quiet_net.fire e i s
@[simp] theorem fire_strm (e i : Nat) (s : State) : (fire e i s).strm = s.strm := quiet_strm.fire e i s
@[simp] theorem fire_cond (e i : Nat) (s : State) : (fire e i s).cond = s.cond := quiet_cond.fire e i s
@[simp] theorem fire_pwr (e i : Nat) (s : State) : (fire e i s).pwr = s.pwr := quiet_pwr.fire e i s
@[simp] theorem fire_sec (e i : Nat) (s : State) : (fire e i s).sec = s.sec := quiet_sec.fire e i s

@[simp] theorem push_pending (q : Nat) (ps : List (BitVec 60)) (s : State) : (push q ps s).pending = s.pending := quiet_pending.push q ps s
@[simp] theorem push_variant (q : Nat) (ps : List (BitVec 60)) (s : State) : (push q ps s).variant = s.variant := quiet_variant.push q ps s
@[simp] theorem push_readData (q : Nat) (ps : List (BitVec 60)) (s : State) : (push q ps s).readData = s.readData := quiet_readData.push q ps s
@[simp] theorem push_readEP (q : Nat) (ps : List (BitVec 60)) (s : State) : (push q ps s).readEP = s.readEP := quiet_readEP.push q ps s
@[simp] theorem push_readFault (q : Nat) (ps : List (BitVec 60)) (s : State) : (push q ps s).readFault = s.readFault := quiet_readFault.push q ps s
@[simp] theorem push_otherData (q : Nat) (ps : List (BitVec 60)) (s : State) : (push q ps s).otherData = s.otherData := quiet_otherData.push q ps s
@[simp] theorem push_dramUnit (q : Nat) (ps : List (BitVec 60)) (s : State) : (push q ps s).dramUnit = s.dramUnit := quiet_dramUnit.push q ps s
@[simp] theorem push_dramOut (q : Nat) (ps : List (BitVec 60)) (s : State) : (push q ps s).dramOut = s.dramOut := quiet_dramOut.push q ps s
@[simp] theorem push_latches (q : Nat) (ps : List (BitVec 60)) (s : State) : (push q ps s).latches = s.latches := quiet_latches.push q ps s
@[simp] theorem push_held (q : Nat) (ps : List (BitVec 60)) (s : State) : (push q ps s).held = s.held := quiet_held.push q ps s
@[simp] theorem push_qHold (q : Nat) (ps : List (BitVec 60)) (s : State) : (push q ps s).qHold = s.qHold := quiet_qHold.push q ps s
@[simp] theorem push_qLatch (q : Nat) (ps : List (BitVec 60)) (s : State) : (push q ps s).qLatch = s.qLatch := quiet_qLatch.push q ps s
@[simp] theorem push_pairs (q : Nat) (ps : List (BitVec 60)) (s : State) : (push q ps s).pairs = s.pairs := quiet_pairs.push q ps s
@[simp] theorem push_sched (q : Nat) (ps : List (BitVec 60)) (s : State) : (push q ps s).sched = s.sched := quiet_sched.push q ps s
@[simp] theorem push_scene (q : Nat) (ps : List (BitVec 60)) (s : State) : (push q ps s).scene = s.scene := quiet_scene.push q ps s
@[simp] theorem push_out (q : Nat) (ps : List (BitVec 60)) (s : State) : (push q ps s).out = s.out := quiet_out.push q ps s
@[simp] theorem push_time (q : Nat) (ps : List (BitVec 60)) (s : State) : (push q ps s).time = s.time := quiet_time.push q ps s
@[simp] theorem push_stat (q : Nat) (ps : List (BitVec 60)) (s : State) : (push q ps s).stat = s.stat := quiet_stat.push q ps s
@[simp] theorem push_ddr (q : Nat) (ps : List (BitVec 60)) (s : State) : (push q ps s).ddr = s.ddr := quiet_ddr.push q ps s
@[simp] theorem push_net (q : Nat) (ps : List (BitVec 60)) (s : State) : (push q ps s).net = s.net := quiet_net.push q ps s
@[simp] theorem push_strm (q : Nat) (ps : List (BitVec 60)) (s : State) : (push q ps s).strm = s.strm := quiet_strm.push q ps s
@[simp] theorem push_cond (q : Nat) (ps : List (BitVec 60)) (s : State) : (push q ps s).cond = s.cond := quiet_cond.push q ps s
@[simp] theorem push_pwr (q : Nat) (ps : List (BitVec 60)) (s : State) : (push q ps s).pwr = s.pwr := quiet_pwr.push q ps s
@[simp] theorem push_sec (q : Nat) (ps : List (BitVec 60)) (s : State) : (push q ps s).sec = s.sec := quiet_sec.push q ps s

@[simp] theorem flush_pending (q : Nat) (mark : Bool) (s : State) : (flush q mark s).pending = s.pending := quiet_pending.flush q mark s
@[simp] theorem flush_variant (q : Nat) (mark : Bool) (s : State) : (flush q mark s).variant = s.variant := quiet_variant.flush q mark s
@[simp] theorem flush_readData (q : Nat) (mark : Bool) (s : State) : (flush q mark s).readData = s.readData := quiet_readData.flush q mark s
@[simp] theorem flush_readEP (q : Nat) (mark : Bool) (s : State) : (flush q mark s).readEP = s.readEP := quiet_readEP.flush q mark s
@[simp] theorem flush_readFault (q : Nat) (mark : Bool) (s : State) : (flush q mark s).readFault = s.readFault := quiet_readFault.flush q mark s
@[simp] theorem flush_otherData (q : Nat) (mark : Bool) (s : State) : (flush q mark s).otherData = s.otherData := quiet_otherData.flush q mark s
@[simp] theorem flush_dramUnit (q : Nat) (mark : Bool) (s : State) : (flush q mark s).dramUnit = s.dramUnit := quiet_dramUnit.flush q mark s
@[simp] theorem flush_dramOut (q : Nat) (mark : Bool) (s : State) : (flush q mark s).dramOut = s.dramOut := quiet_dramOut.flush q mark s
@[simp] theorem flush_latches (q : Nat) (mark : Bool) (s : State) : (flush q mark s).latches = s.latches := quiet_latches.flush q mark s
@[simp] theorem flush_held (q : Nat) (mark : Bool) (s : State) : (flush q mark s).held = s.held := quiet_held.flush q mark s
@[simp] theorem flush_qHold (q : Nat) (mark : Bool) (s : State) : (flush q mark s).qHold = s.qHold := quiet_qHold.flush q mark s
@[simp] theorem flush_qLatch (q : Nat) (mark : Bool) (s : State) : (flush q mark s).qLatch = s.qLatch := quiet_qLatch.flush q mark s
@[simp] theorem flush_pairs (q : Nat) (mark : Bool) (s : State) : (flush q mark s).pairs = s.pairs := quiet_pairs.flush q mark s
@[simp] theorem flush_sched (q : Nat) (mark : Bool) (s : State) : (flush q mark s).sched = s.sched := quiet_sched.flush q mark s
@[simp] theorem flush_scene (q : Nat) (mark : Bool) (s : State) : (flush q mark s).scene = s.scene := quiet_scene.flush q mark s
@[simp] theorem flush_out (q : Nat) (mark : Bool) (s : State) : (flush q mark s).out = s.out := quiet_out.flush q mark s
@[simp] theorem flush_time (q : Nat) (mark : Bool) (s : State) : (flush q mark s).time = s.time := quiet_time.flush q mark s
@[simp] theorem flush_stat (q : Nat) (mark : Bool) (s : State) : (flush q mark s).stat = s.stat := quiet_stat.flush q mark s
@[simp] theorem flush_ddr (q : Nat) (mark : Bool) (s : State) : (flush q mark s).ddr = s.ddr := quiet_ddr.flush q mark s
@[simp] theorem flush_net (q : Nat) (mark : Bool) (s : State) : (flush q mark s).net = s.net := quiet_net.flush q mark s
@[simp] theorem flush_strm (q : Nat) (mark : Bool) (s : State) : (flush q mark s).strm = s.strm := quiet_strm.flush q mark s
@[simp] theorem flush_cond (q : Nat) (mark : Bool) (s : State) : (flush q mark s).cond = s.cond := quiet_cond.flush q mark s
@[simp] theorem flush_pwr (q : Nat) (mark : Bool) (s : State) : (flush q mark s).pwr = s.pwr := quiet_pwr.flush q mark s
@[simp] theorem flush_sec (q : Nat) (mark : Bool) (s : State) : (flush q mark s).sec = s.sec := quiet_sec.flush q mark s

/-- Of a core, a firing, a push and a flush change the pending interrupts alone. -/
theorem quiet_core (k : Nat) : Quiet (fun s => { s.core k with ipend := 0 }) :=
  ⟨fun _ _ => rfl, fun _ _ => rfl, fun s j n => by
    dsimp only
    rw [State.core_setCore]
    split
    · next h => rw [h]
    · rfl, fun _ _ => rfl, fun _ _ => rfl, fun _ _ => rfl, fun _ _ => rfl⟩

theorem fire_core (e i k : Nat) (s : State) : { (fire e i s).core k with ipend := 0 } = { s.core k with ipend := 0 } :=
  (quiet_core k).fire e i s

theorem push_core (q k : Nat) (ps : List (BitVec 60)) (s : State) :
    { (push q ps s).core k with ipend := 0 } = { s.core k with ipend := 0 } := (quiet_core k).push q ps s

theorem flush_core (q k : Nat) (mark : Bool) (s : State) :
    { (flush q mark s).core k with ipend := 0 } = { s.core k with ipend := 0 } := (quiet_core k).flush q mark s

/-- Of the host interface, only the pending messages; of the twin, only the health bits. -/
theorem quiet_hif : Quiet (fun s => { s.hif with msixPend := 0 }) :=
  ⟨fun _ _ => rfl, fun _ _ => rfl, fun _ _ _ => rfl, fun _ _ => rfl, fun _ _ => rfl, fun _ _ => rfl, fun _ _ => rfl⟩

theorem quiet_twin : Quiet (fun s => { s.twin with hBits := 0 }) :=
  ⟨fun _ _ => rfl, fun _ _ => rfl, fun _ _ _ => rfl, fun _ _ => rfl, fun _ _ => rfl, fun _ _ => rfl, fun _ _ => rfl⟩

theorem storeSlot_wf (n w : Nat) (s : State) (h : s.mem.wf = true) : (storeSlot n w s).mem.wf = true := by
  unfold storeSlot
  split
  · dsimp only
    apply Mem.wf_store
    apply Mem.wf_store
    exact h
  · exact h

/-- Storing queue words keeps the canonical form of memory. -/
theorem storeEntries_wf (q k : Nat) (es : List QEntry) (s : State) (h : s.mem.wf = true) : (storeEntries q k es s).mem.wf = true := by
  induction es generalizing k s with
  | nil => simpa only [storeEntries] using h
  | cons e es ih => simpa only [storeEntries] using ih (k + 1) _ (storeSlot_wf _ _ _ h)

@[simp] theorem qSettle_mem (q : Nat) (s : State) : (qSettle q s).1.mem = s.mem := by
  unfold qSettle
  dsimp only
  (repeat' split) <;> simp

@[simp] theorem pendQueueIrq_mem (q : Nat) (s : State) : (pendQueueIrq q s).mem = s.mem := by
  unfold pendQueueIrq
  dsimp only
  split <;> rfl

@[simp] theorem recordEvent_mem (e i : Nat) (s : State) : (recordEvent e i s).mem = s.mem := by
  unfold recordEvent
  dsimp only
  split <;> rfl

@[simp] theorem joinFree_mem (q n : Nat) (s : State) : (joinFree q n s).mem = s.mem := by
  unfold joinFree
  dsimp only
  (repeat' split) <;> rfl

theorem pushRaw_wf (q : Nat) (ps : List (BitVec 60)) (s : State) (h : s.mem.wf = true) : (pushRaw q ps s).1.mem.wf = true := by
  unfold pushRaw
  split
  · dsimp only
    rw [qSettle_mem]
    exact storeEntries_wf _ _ _ _ (by simpa using h)
  · exact h

theorem fireN_wf (n e i : Nat) (s : State) (h : s.mem.wf = true) : (fireN n e i s).mem.wf = true := by
  induction n generalizing e i s with
  | zero => exact h
  | succ n ih =>
    have step (q : Nat) (ps : List (BitVec 60)) (t : State) (ht : t.mem.wf = true) :
        (if (pushRaw q ps t).2 then fireN n 0x1A q (pendQueueIrq q (pushRaw q ps t).1) else (pushRaw q ps t).1).mem.wf = true := by
      split
      · exact ih _ _ _ ((pendQueueIrq_mem _ _).symm ▸ pushRaw_wf _ _ _ ht)
      · exact pushRaw_wf _ _ _ ht
    have hr : (recordEvent e i s).mem.wf = true := (recordEvent_mem e i s).symm ▸ h
    unfold fireN
    split
    · dsimp only
      split <;> split
      · exact step _ _ _ (step _ _ _ hr)
      · exact step _ _ _ hr
      · exact step _ _ _ hr
      · exact hr
    · exact h

/-- A firing keeps the canonical form of memory. -/
@[simp] theorem fire_wf (e i : Nat) (s : State) (h : s.mem.wf = true) : (fire e i s).mem.wf = true := fireN_wf _ _ _ _ h

/-- So does a push. -/
@[simp] theorem push_wf (q : Nat) (ps : List (BitVec 60)) (s : State) (h : s.mem.wf = true) : (push q ps s).mem.wf = true := by
  unfold push
  dsimp only
  split
  · exact fire_wf _ _ _ ((pendQueueIrq_mem _ _).symm ▸ pushRaw_wf _ _ _ h)
  · exact pushRaw_wf _ _ _ h

/-- So does a flush. -/
@[simp] theorem flush_wf (q : Nat) (mark : Bool) (s : State) (h : s.mem.wf = true) : (flush q mark s).mem.wf = true := by
  unfold flush
  dsimp only
  generalize (if (mark && !(s.qView q).isEmpty) = true then [gapEntry (flushCount (s.qView q))] else []) = left
  have hs (t : State) (ht : t.mem.wf = true) : (if (qSettle q (storeEntries q 0 left t)).2 = true then
      fire 0x1A q (pendQueueIrq q (qSettle q (storeEntries q 0 left t)).1) else (qSettle q (storeEntries q 0 left t)).1).mem.wf = true := by
    split
    · apply fire_wf
      rw [pendQueueIrq_mem, qSettle_mem]
      exact storeEntries_wf _ _ _ _ ht
    · rw [qSettle_mem]
      exact storeEntries_wf _ _ _ _ ht
  exact hs (s.setQueue q _) (by rw [State.setQueue_mem]; exact h)

theorem halfCheck_wf (i a : Nat) (s : State) (h : s.mem.wf = true) : (halfCheck i a s).mem.wf = true := by
  unfold halfCheck
  generalize 2 ^ 31 + i * 2 ^ 20 + (a - bankBase i) / 4 = v
  split
  · dsimp only
    split
    · simpa using h
    · exact fire_wf _ _ _ (by simpa using h)
  · exact h

theorem slotRead_wf (q n : Nat) (s : State) (h : s.mem.wf = true) : (slotRead q n s).mem.wf = true := by
  unfold slotRead
  split
  · dsimp only
    split
    · exact halfCheck_wf _ _ _ (halfCheck_wf _ _ _ h)
    · exact h
  · exact h

/-- So does a pop. -/
@[simp] theorem pop_wf (q : Nat) (s : State) (h : s.mem.wf = true) : (pop q s).2.mem.wf = true := by
  unfold pop
  split
  · split
    · dsimp only
      split <;> simpa using h
    · dsimp only
      rw [qSettle_mem]
      exact slotRead_wf _ _ _ h
  · exact h

/-- A firing outside ACTIVE and QUIET does nothing. -/
theorem fire_off (e i : Nat) {s : State} (h : s.coreOn = false) : fire e i s = s := by
  unfold fire fireN
  simp [h]

end Sys2Proof.Machine
end

