-- ==== Sys2Proof/Laws/Keep.lean ====
section
/-! SUPPORT. Memory keeps its canonical form under every shared operation: the register file, the queue fabric, the banks, the
fabric, the crosspoint store, DRAM, commits and the host's commands. -/

namespace Sys2Proof.Machine

set_option Elab.async false

@[simp] theorem ite_wf {c : Prop} [Decidable c] {a b : State} (ha : a.mem.wf = true) (hb : b.mem.wf = true) : (if c then a else b).mem.wf = true := by split <;> assumption
@[simp] theorem ite2_wf {α : Type} {c : Prop} [Decidable c] {a b : α × State} (ha : a.2.mem.wf = true) (hb : b.2.mem.wf = true) : (if c then a else b).2.mem.wf = true := by split <;> assumption
@[simp] theorem ite1_wf {α : Type} {c : Prop} [Decidable c] {a b : State × α} (ha : a.1.mem.wf = true) (hb : b.1.mem.wf = true) : (if c then a else b).1.mem.wf = true := by split <;> assumption
@[simp] theorem foldl_wf {α : Type} (l : List α) (f : State → α → State) (hf : ∀ s x, s.mem.wf = true → (f s x).mem.wf = true) (s : State) (h : s.mem.wf = true) : (l.foldl f s).mem.wf = true := by
  induction l generalizing s with
  | nil => exact h
  | cons a l ih => exact ih _ (hf _ _ h)
@[simp] theorem foldl2_wf {α β : Type} (l : List α) (f : β × State → α → β × State) (hf : ∀ s x, s.2.mem.wf = true → (f s x).2.mem.wf = true) (s : β × State) (h : s.2.mem.wf = true) : (l.foldl f s).2.mem.wf = true := by
  induction l generalizing s with
  | nil => exact h
  | cons a l ih => exact ih _ (hf _ _ h)


@[simp] theorem State.wr_wf (s : State) (off : Nat) (v : Nat) (h0 : s.mem.wf = true) : (State.wr s off v).mem.wf = true := by
  unfold State.wr; (try dsimp only); first
    | (simp [*]; done)
    | ((repeat' split) <;> simp_all; done)

@[simp] theorem State.fset_wf (s : State) (off : Nat) (hi : Nat) (lo : Nat) (v : Nat) (h0 : s.mem.wf = true) : (State.fset s off hi lo v).mem.wf = true := by
  unfold State.fset; (try dsimp only); first
    | (simp [*]; done)
    | ((repeat' split) <;> simp_all; done)

@[simp] theorem State.bset_wf (s : State) (off : Nat) (b : Nat) (v : Bool) (h0 : s.mem.wf = true) : (State.bset s off b v).mem.wf = true := by
  unfold State.bset; (try dsimp only); first
    | (simp [*]; done)
    | ((repeat' split) <;> simp_all; done)

@[simp] theorem State.count_wf (s : State) (off : Nat) (n : Nat) (h0 : s.mem.wf = true) : (State.count s off n).mem.wf = true := by
  unfold State.count; (try dsimp only); first
    | (simp [*]; done)
    | ((repeat' split) <;> simp_all; done)

@[simp] theorem State.wr64_wf (s : State) (lo : Nat) (v : Nat) (h0 : s.mem.wf = true) : (State.wr64 s lo v).mem.wf = true := by
  unfold State.wr64; (try dsimp only); first
    | (simp [*]; done)
    | ((repeat' split) <;> simp_all; done)

@[simp] theorem State.finish_wf (s : State) (off : Nat) (v : Nat) (h0 : s.mem.wf = true) : (State.finish s off v).mem.wf = true := by
  unfold State.finish; (try dsimp only); first
    | (simp [*]; done)
    | ((repeat' split) <;> simp_all; done)

@[simp] theorem State.latch_wf (s : State) (m : Master) (off : Nat) (v : Word) (h0 : s.mem.wf = true) : (State.latch s m off v).mem.wf = true := by
  unfold State.latch; (try dsimp only); first
    | (simp [*]; done)
    | ((repeat' split) <;> simp_all; done)

@[simp] theorem State.unlatch_wf (s : State) (m : Master) (off : Nat) (h0 : s.mem.wf = true) : (State.unlatch s m off).mem.wf = true := by
  unfold State.unlatch; (try dsimp only); first
    | (simp [*]; done)
    | ((repeat' split) <;> simp_all; done)

@[simp] theorem State.accessFault_wf (s : State) (h0 : s.mem.wf = true) : (State.accessFault s).mem.wf = true := by
  unfold State.accessFault; (try dsimp only); first
    | (simp [*]; done)
    | ((repeat' split) <;> first | assumption | (simp_all; done))

@[simp] theorem State.unsupported_wf (s : State) (h0 : s.mem.wf = true) : (State.unsupported s).mem.wf = true := by
  unfold State.unsupported; (try dsimp only); first
    | (simp [*]; done)
    | ((repeat' split) <;> first | assumption | (simp_all; done))

@[simp] theorem State.noData_wf (s : State) (h0 : s.mem.wf = true) : (State.noData s).mem.wf = true := by
  unfold State.noData; (try dsimp only); first
    | (simp [*]; done)
    | ((repeat' split) <;> first | assumption | (simp_all; done))

@[simp] theorem State.answer_wf (s : State) (v : Word) (h0 : s.mem.wf = true) : (State.answer s v).mem.wf = true := by
  unfold State.answer; (try dsimp only); first
    | (simp [*]; done)
    | ((repeat' split) <;> simp_all; done)

@[simp] theorem State.freeW_wf (s : State) (h0 : s.mem.wf = true) : (State.freeW s).2.mem.wf = true := by
  unfold State.freeW; (try dsimp only); first
    | (simp [*]; done)
    | ((repeat' split) <;> simp_all; done)

@[simp] theorem State.atCycle_wf (s : State) (c : Nat) (h0 : s.mem.wf = true) : (State.atCycle s c).mem.wf = true := by
  unfold State.atCycle; (try dsimp only); first
    | (simp [*]; done)
    | ((repeat' split) <;> simp_all; done)

@[simp] theorem clearBank_wf (i : Nat) (a : Nat) (b : Nat) (s : State) (h0 : s.mem.wf = true) : (clearBank i a b s).mem.wf = true := by
  unfold clearBank; (try dsimp only); first
    | (simp [*]; done)
    | ((repeat' split) <;> first | assumption | (simp_all; done))

@[simp] theorem clearRecordBanks_wf (s : State) (h : s.mem.wf = true) : (clearRecordBanks s).mem.wf = true :=
  foldl_wf _ _ (fun _ _ ht => clearBank_wf _ _ _ _ ht) _ h

@[simp] theorem loseBank_wf (i : Nat) (s : State) (h : s.mem.wf = true) : (loseBank i s).mem.wf = true := by
  unfold loseBank
  exact Tab.wf_filter _ _ _ h

@[simp] theorem setBank_wf (i : Nat) (st : Nat) (s : State) (h0 : s.mem.wf = true) : (setBank i st s).mem.wf = true := by
  unfold setBank; (try dsimp only); first
    | (simp [*]; done)
    | ((repeat' split) <;> simp_all; done)

@[simp] theorem State.setCore_wf (s : State) (k : Nat) (c : QCore) (h0 : s.mem.wf = true) : (State.setCore s k c).mem.wf = true := by
  unfold State.setCore; (try dsimp only); first
    | (simp [*]; done)
    | ((repeat' split) <;> simp_all; done)

@[simp] theorem State.setQueue_wf (s : State) (q : Nat) (x : QState) (h0 : s.mem.wf = true) : (State.setQueue s q x).mem.wf = true := by
  unfold State.setQueue; (try dsimp only); first
    | (simp [*]; done)
    | ((repeat' split) <;> simp_all; done)

@[simp] theorem noteHealth_wf (bits : Nat) (s : State) (h0 : s.mem.wf = true) : (noteHealth bits s).mem.wf = true := by
  unfold noteHealth; (try dsimp only); first
    | (simp [*]; done)
    | ((repeat' split) <;> simp_all; done)

@[simp] theorem pushPairMode_wf (key : Nat) (p : BitVec 60) (s : State) (h0 : s.mem.wf = true) : (pushPairMode key p s).mem.wf = true := by
  unfold pushPairMode; (try dsimp only); first
    | (simp [*]; done)
    | ((repeat' split) <;> simp_all; done)

@[simp] theorem releasePair_wf (key : Nat) (s : State) (h0 : s.mem.wf = true) : (releasePair key s).mem.wf = true := by
  unfold releasePair; (try dsimp only); first
    | (simp [*]; done)
    | ((repeat' split) <;> simp_all; done)

@[simp] theorem holdItem_wf (kind : Nat) (q : Nat) (tag : Word) (words : List Word) (s : State) (h0 : s.mem.wf = true) : (holdItem kind q tag words s).mem.wf = true := by
  unfold holdItem; (try dsimp only); first
    | (simp [*]; done)
    | ((repeat' split) <;> simp_all; done)

@[simp] theorem pushBy_wf (key : Nat) (q : Nat) (p : BitVec 60) (s : State) (h0 : s.mem.wf = true) : (pushBy key q p s).mem.wf = true := by
  unfold pushBy; (try dsimp only); first
    | (simp [*]; done)
    | ((repeat' split) <;> simp_all; done)

@[simp] theorem joinCycle_wf (q : Nat) (same : Bool) (s : State) (h0 : s.mem.wf = true) : (joinCycle q same s).mem.wf = true := by
  unfold joinCycle; (try dsimp only); first
    | (simp [*]; done)
    | ((repeat' split) <;> simp_all; done)

@[simp] theorem doPush_wf (m : Master) (q : Nat) (v : Word) (same : Bool) (s : State) (h0 : s.mem.wf = true) : (doPush m q v same s).mem.wf = true := by
  unfold doPush; (try dsimp only); first
    | (simp [*]; done)
    | ((repeat' split) <;> simp_all; done)

@[simp] theorem doPop_wf (m : Master) (q : Nat) (s : State) (h0 : s.mem.wf = true) : (doPop m q s).mem.wf = true := by
  unfold doPop; (try dsimp only); first
    | (simp [*]; done)
    | ((repeat' split) <;> simp_all; done)

@[simp] theorem doFlush_wf (m : Master) (q : Nat) (v : Word) (s : State) (h0 : s.mem.wf = true) : (doFlush m q v s).mem.wf = true := by
  unfold doFlush; (try dsimp only); first
    | (simp [*]; done)
    | ((repeat' split) <;> simp_all; done)

@[simp] theorem emptyQueue_wf (q : Nat) (s : State) (h0 : s.mem.wf = true) : (emptyQueue q s).mem.wf = true := by
  unfold emptyQueue; (try dsimp only); first
    | (simp [*]; done)
    | ((repeat' split) <;> simp_all; done)

@[simp] theorem cfgFields_wf (m : Master) (q : Nat) (v : Nat) (s : State) (h0 : s.mem.wf = true) : (cfgFields m q v s).mem.wf = true := by
  unfold cfgFields; (try dsimp only); first
    | (simp [*]; done)
    | ((repeat' split) <;> simp_all; done)

@[simp] theorem enableQueue_wf (q : Nat) (s : State) (h0 : s.mem.wf = true) : (enableQueue q s).mem.wf = true := by
  unfold enableQueue; (try dsimp only); first
    | (simp [*]; done)
    | ((repeat' split) <;> simp_all; done)

@[simp] theorem doCfg_wf (m : Master) (q : Nat) (v : Word) (s : State) (h0 : s.mem.wf = true) : (doCfg m q v s).mem.wf = true := by
  unfold doCfg; (try dsimp only); first
    | (simp [*]; done)
    | ((repeat' split) <;> simp_all; done)

@[simp] theorem doWm_wf (q : Nat) (v : Word) (s : State) (h0 : s.mem.wf = true) : (doWm q v s).mem.wf = true := by
  unfold doWm; (try dsimp only); first
    | (simp [*]; done)
    | ((repeat' split) <;> simp_all; done)

@[simp] theorem doArrival_wf (q : Nat) (same : Bool) (s : State) (h0 : s.mem.wf = true) : (doArrival q same s).mem.wf = true := by
  unfold doArrival; (try dsimp only); first
    | (simp [*]; done)
    | ((repeat' split) <;> simp_all; done)

@[simp] theorem arriveAll_wf (s : State) (h : s.mem.wf = true) : (arriveAll s).mem.wf = true :=
  foldl_wf _ _ (fun _ q ht => foldl_wf _ _ (fun _ _ hu => doArrival_wf q false _ hu) _ ht) _ h

@[simp] theorem State.reach_wf (s : State) (c : Nat) (h0 : s.mem.wf = true) : (State.reach s c).mem.wf = true := by
  unfold State.reach; (try dsimp only); first
    | (simp [*]; done)
    | ((repeat' split) <;> first | assumption | (simp_all; done))

@[simp] theorem parityFail_wf (i : Nat) (w : Nat) (s : State) (h0 : s.mem.wf = true) : (parityFail i w s).mem.wf = true := by
  unfold parityFail; (try dsimp only); first
    | (simp [*]; done)
    | ((repeat' split) <;> simp_all; done)

@[simp] theorem readWord_wf (a : Nat) (s : State) (h0 : s.mem.wf = true) : (readWord a s).2.mem.wf = true := by
  unfold readWord; (try dsimp only); first
    | (simp [*]; done)
    | ((repeat' split) <;> simp_all; done)

@[simp] theorem visitorWrite_wf (a : Nat) (v : Word) (bad : Bool) (s : State) (h0 : s.mem.wf = true) : (visitorWrite a v bad s).mem.wf = true := by
  unfold visitorWrite; (try dsimp only); first
    | (simp [*]; done)
    | ((repeat' split) <;> simp_all; done)

@[simp] theorem noteSeen_wf (i : Nat) (w : Nat) (o : PortOp) (x : Word × Bool) (s : State) (h0 : s.mem.wf = true) : (noteSeen i w o x s).mem.wf = true := by
  unfold noteSeen; (try dsimp only); first
    | (simp [*]; done)
    | ((repeat' split) <;> simp_all; done)

@[simp] theorem portCycle_wf (i w : Nat) (own vis : PortOp) (s : State) (h : s.mem.wf = true) : (portCycle i w own vis s).2.2.mem.wf = true := by
  unfold portCycle
  split
  · exact h
  · split
    · exact State.count_wf _ _ _ h
    · dsimp only
      have hn (a b : Word × Bool) (t : State) : (noteSeen i (winMap s i w) vis a (noteSeen i (winMap s i w) own b s)).mem.wf = true :=
        noteSeen_wf _ _ _ _ _ (noteSeen_wf _ _ _ _ _ h)
      refine ite_wf (Mem.wf_store _ _ _ _ _ ?_) ?_
      · exact ite_wf (State.count_wf _ _ _ (hn _ _ s)) (hn _ _ s)
      · exact ite_wf (State.count_wf _ _ _ (hn _ _ s)) (hn _ _ s)

@[simp] theorem accessAnswer_wf (m : Master) (i : Nat) (r : RdRes) (s : State) (h0 : s.mem.wf = true) : (accessAnswer m i r s).mem.wf = true := by
  unfold accessAnswer; (try dsimp only); first
    | (simp [*]; done)
    | ((repeat' split) <;> first | assumption | (simp_all; done))

@[simp] theorem otherAlone_wf (a : Nat) (o : PortOp) (s : State) (h0 : s.mem.wf = true) : (otherAlone a o s).mem.wf = true := by
  unfold otherAlone; (try dsimp only); first
    | (simp [*]; done)
    | ((repeat' split) <;> first | assumption | (simp_all; done))

theorem withOwner_wf (a : Nat) (own : PortOp) (write : State → State) (s : State) (hw : ∀ t, t.mem.wf = true → (write t).mem.wf = true)
    (h : s.mem.wf = true) : (withOwner a own write s).mem.wf = true := by
  unfold withOwner
  split
  · exact hw _ h
  · dsimp only
    refine ite_wf (hw _ h) (ite_wf ?_ (hw _ (otherAlone_wf _ _ _ h)))
    exact ite_wf (State.count_wf _ _ _ (otherAlone_wf _ _ _ (hw _ h))) (otherAlone_wf _ _ _ (hw _ h))

@[simp] theorem doAtomic_wf (m : Master) (a : Nat) (mine other : PortOp) (s : State) (h : s.mem.wf = true) : (doAtomic m a mine other s).mem.wf = true := by
  unfold doAtomic
  refine ite_wf h ?_
  split
  · exact ite_wf (by simpa using h) (by simpa using h)
  · refine ite_wf (by simpa using h) (ite_wf ?_ (ite_wf ?_ (ite_wf ?_ ?_)))
    · exact State.answer_wf _ _ (State.freeW_wf _ (State.bset_wf _ _ _ _ (portCycle_wf _ _ _ _ _ h)))
    · exact State.answer_wf _ _ (State.freeW_wf _ (State.count_wf _ _ _ (portCycle_wf _ _ _ _ _ h)))
    · exact accessAnswer_wf _ _ _ _ (portCycle_wf _ _ _ _ _ h)
    · exact accessAnswer_wf _ _ _ _ (portCycle_wf _ _ _ _ _ h)

@[simp] theorem doOther_wf (m : Master) (a : Nat) (req : AtomReq) (other : PortOp) (s : State) (h0 : s.mem.wf = true) : (doOther m a req other s).mem.wf = true := by
  unfold doOther; (try dsimp only); first
    | (simp [*]; done)
    | ((repeat' split) <;> first | assumption | (simp_all; done))

@[simp] theorem doSubWord_wf (a : Nat) (be : BitVec 4) (v : Word) (s : State) (h : s.mem.wf = true) : (doSubWord a be v s).mem.wf = true := by
  have hr := readWord_wf a s h
  unfold doSubWord
  split
  · exact h
  · dsimp only
    split
    · exact h
    · split
      · simpa using h
      · split
        · simpa using h
        · split
          · exact hr
          · split
            · exact Mem.wf_wrWord _ _ _ hr
            · exact Mem.wf_wrWord _ _ _ hr

@[simp] theorem doWinLen_wf (i : Nat) (w : Nat) (v : Word) (s : State) (h0 : s.mem.wf = true) : (doWinLen i w v s).mem.wf = true := by
  unfold doWinLen; (try dsimp only); first
    | (simp [*]; done)
    | ((repeat' split) <;> simp_all; done)

@[simp] theorem doBankPwr_wf (i : Nat) (v : Word) (s : State) (h0 : s.mem.wf = true) : (doBankPwr i v s).mem.wf = true := by
  unfold doBankPwr; (try dsimp only); first
    | (simp [*]; done)
    | ((repeat' split) <;> simp_all; done)

@[simp] theorem bankDone_wf (i : Nat) (s : State) (h0 : s.mem.wf = true) : (bankDone i s).mem.wf = true := by
  unfold bankDone; (try dsimp only); first
    | (simp [*]; done)
    | ((repeat' split) <;> simp_all; done)

@[simp] theorem missed_wf (m : Master) (a : Nat) (s : State) (h0 : s.mem.wf = true) : (missed m a s).mem.wf = true := by
  unfold missed; (try dsimp only); first
    | (simp [*]; done)
    | ((repeat' split) <;> first | assumption | (simp_all; done))

@[simp] theorem State.setObj_wf (s : State) (o : Nat) (x : Obj) (h0 : s.mem.wf = true) : (State.setObj s o x).mem.wf = true := by
  unfold State.setObj; (try dsimp only); first
    | (simp [*]; done)
    | ((repeat' split) <;> simp_all; done)

@[simp] theorem State.spawnObj_wf (s : State) (o : Nat) (x : Obj) (h0 : s.mem.wf = true) : (State.spawnObj s o x).mem.wf = true := by
  unfold State.spawnObj; (try dsimp only); first
    | (simp [*]; done)
    | ((repeat' split) <;> simp_all; done)

@[simp] theorem noteSubmit_wf (k : Nat) (o : Nat) (p : Nat) (s : State) (h0 : s.mem.wf = true) : (noteSubmit k o p s).mem.wf = true := by
  unfold noteSubmit; (try dsimp only); first
    | (simp [*]; done)
    | ((repeat' split) <;> simp_all; done)

@[simp] theorem inkStore_wf (k : Nat) (a : Nat) (v : Word) (s : State) (h0 : s.mem.wf = true) : (inkStore k a v s).mem.wf = true := by
  unfold inkStore; (try dsimp only); first
    | (simp [*]; done)
    | ((repeat' split) <;> simp_all; done)

@[simp] theorem State.setCommits_wf (s : State) (cs : List Commit) (h0 : s.mem.wf = true) : (State.setCommits s cs).mem.wf = true := by
  unfold State.setCommits; (try dsimp only); first
    | (simp [*]; done)
    | ((repeat' split) <;> simp_all; done)

@[simp] theorem lowerAll_wf (mask : Nat) (s : State) (h0 : s.mem.wf = true) : (lowerAll mask s).mem.wf = true := by
  unfold lowerAll; (try dsimp only); first
    | (simp [*]; done)
    | ((repeat' split) <;> simp_all; done)

@[simp] theorem noteForward_wf (cid : Nat) (t : Nat) (items : List Item) (s : State) (h0 : s.mem.wf = true) : (noteForward cid t items s).mem.wf = true := by
  unfold noteForward; (try dsimp only); first
    | (simp [*]; done)
    | ((repeat' split) <;> simp_all; done)

@[simp] theorem stage_wf (t : Nat) (items : List Item) (wrote : List Nat) (s : State) (h0 : s.mem.wf = true) : (stage t items wrote s).2.mem.wf = true := by
  unfold stage; (try dsimp only); first
    | (simp [*]; done)
    | ((repeat' split) <;> simp_all; done)

@[simp] theorem revertShadow_wf (s : State) (off : Nat) (h0 : s.mem.wf = true) : (revertShadow s off).mem.wf = true := by
  unfold revertShadow; (try dsimp only); first
    | (simp [*]; done)
    | ((repeat' split) <;> simp_all; done)

@[simp] theorem openShadow_wf (off : Nat) (w : Nat) (s : State) (h0 : s.mem.wf = true) : (openShadow off w s).mem.wf = true := by
  unfold openShadow; (try dsimp only); first
    | (simp [*]; done)
    | ((repeat' split) <;> simp_all; done)

@[simp] theorem sealOpen_wf (t : Nat) (s : State) (h0 : s.mem.wf = true) : (sealOpen t s).mem.wf = true := by
  unfold sealOpen; (try dsimp only); first
    | (simp [*]; done)
    | ((repeat' split) <;> simp_all; done)

@[simp] theorem doSeal_wf (v : Word) (s : State) (h0 : s.mem.wf = true) : (doSeal v s).mem.wf = true := by
  unfold doSeal; (try dsimp only); first
    | (simp [*]; done)
    | ((repeat' split) <;> simp_all; done)

@[simp] theorem doAbandon_wf (v : Word) (s : State) (h0 : s.mem.wf = true) : (doAbandon v s).mem.wf = true := by
  unfold doAbandon; (try dsimp only); first
    | (simp [*]; done)
    | ((repeat' split) <;> simp_all; done)

@[simp] theorem raiseArm_wf (cid : Nat) (p : Nat) (s : State) (h0 : s.mem.wf = true) : (raiseArm cid p s).mem.wf = true := by
  unfold raiseArm; (try dsimp only); first
    | (simp [*]; done)
    | ((repeat' split) <;> simp_all; done)

@[simp] theorem freeObj_wf (o : Nat) (s : State) (h0 : s.mem.wf = true) : (freeObj o s).mem.wf = true := by
  unfold freeObj; (try dsimp only); first
    | (simp [*]; done)
    | ((repeat' split) <;> simp_all; done)

@[simp] theorem failCommit_wf (c : Commit) (s : State) (h : s.mem.wf = true) : (failCommit c s).mem.wf = true := by
  unfold failCommit
  dsimp only
  have h1 : ((c.wrote.filter (fun o => !c.rewritten.contains o && !s.sched.openShadows.contains o)).foldl (fun s o => revertShadow s o)
      (s.setCommits (s.sched.commits.filter (fun d => !(d.cid == c.cid && d.peer == c.peer))))).mem.wf = true :=
    foldl_wf _ _ (fun _ _ ht => revertShadow_wf _ _ ht) _ (State.setCommits_wf _ _ h)
  have h2 := foldl_wf c.items (fun s i => match i with
    | .spawn o _ => if (s.obj o).st = .armed && (s.obj o).armCid = c.cid then freeObj o s else s
    | _ => s) (fun t i ht => by
      split
      · split
        · exact freeObj_wf _ _ ht
        · exact ht
      · exact ht) _ h1
  apply fire_wf
  rw [State.wr64_mem, State.count_mem]
  split <;> exact h2

@[simp] theorem trackArmBN_wf (c : Commit) (t : Nat) (s : State) (h : s.mem.wf = true) : (trackArmBN c t s).mem.wf = true := by
  unfold trackArmBN
  refine foldl_wf _ _ (fun u i hu => ?_) _ h
  dsimp only
  split
  · split
    · simpa using hu
    · exact hu
  · exact hu

@[simp] theorem deferCommit_wf (x : Nat) (unarmed : Nat) (c : Commit) (s : State) (h0 : s.mem.wf = true) : (deferCommit x unarmed c s).mem.wf = true := by
  unfold deferCommit; (try dsimp only); first
    | (simp [*]; done)
    | ((repeat' split) <;> simp_all; done)

@[simp] theorem noteOutcomes_wf (o : List (Nat × Nat)) (s : State) (h0 : s.mem.wf = true) : (noteOutcomes o s).mem.wf = true := by
  unfold noteOutcomes; (try dsimp only); first
    | (simp [*]; done)
    | ((repeat' split) <;> simp_all; done)

@[simp] theorem latchVerdict_wf (x : Nat) (s : State) (h0 : s.mem.wf = true) : (latchVerdict x s).mem.wf = true := by
  unfold latchVerdict; (try dsimp only); first
    | (simp [*]; done)
    | ((repeat' split) <;> simp_all; done)

@[simp] theorem doVerdict_wf (s : State) (h0 : s.mem.wf = true) : (doVerdict s).mem.wf = true := by
  unfold doVerdict; (try dsimp only); first
    | (simp [*]; done)
    | ((repeat' split) <;> simp_all; done)

@[simp] theorem State.setDdr_wf (s : State) (c : Nat) (x : DdrSt) (h0 : s.mem.wf = true) : (State.setDdr s c x).mem.wf = true := by
  unfold State.setDdr; (try dsimp only); first
    | (simp [*]; done)
    | ((repeat' split) <;> simp_all; done)

@[simp] theorem ddrError_wf (a : Nat) (kind : Nat) (s : State) (h0 : s.mem.wf = true) : (ddrError a kind s).mem.wf = true := by
  unfold ddrError; (try dsimp only); first
    | (simp [*]; done)
    | ((repeat' split) <;> simp_all; done)

@[simp] theorem dropTest_wf (c : Nat) (s : State) (h0 : s.mem.wf = true) : (dropTest c s).mem.wf = true := by
  unfold dropTest; (try dsimp only); first
    | (simp [*]; done)
    | ((repeat' split) <;> first | assumption | (simp_all; done))

@[simp] theorem retireRank_wf (c : Nat) (r : Nat) (s : State) (h0 : s.mem.wf = true) : (retireRank c r s).mem.wf = true := by
  unfold retireRank; (try dsimp only); first
    | (simp [*]; done)
    | ((repeat' split) <;> simp_all; done)

@[simp] theorem corrected_wf (a : Nat) (s : State) (h0 : s.mem.wf = true) : (corrected a s).mem.wf = true := by
  unfold corrected; (try dsimp only); first
    | (simp [*]; done)
    | ((repeat' split) <;> simp_all; done)

@[simp] theorem beat_wf (a : Nat) (s : State) (h : s.mem.wf = true) : (beat a s).2.mem.wf = true := by
  unfold beat
  dsimp only
  refine ite2_wf ?_ (ite2_wf ?_ (ite2_wf ?_ h))
  · exact ddrError_wf _ _ _ (State.count_wf _ _ _ h)
  · exact retireRank_wf _ _ _ (ddrError_wf _ _ _ (State.count_wf _ _ _ h))
  · exact corrected_wf _ _ h

@[simp] theorem beats_wf (u n k : Nat) (s : State) (h : s.mem.wf = true) : (beats u n k s).2.mem.wf = true := by
  induction n generalizing k s with
  | zero => exact h
  | succ n ih =>
    unfold beats
    exact ih _ _ (beat_wf _ _ h)

@[simp] theorem meetSyn_wf (u : Nat) (syn : List Nat) (s : State) (h0 : s.mem.wf = true) : (meetSyn u syn s).mem.wf = true := by
  unfold meetSyn; (try dsimp only); first
    | (simp [*]; done)
    | ((repeat' split) <;> simp_all; done)

@[simp] theorem strike_wf (s : State) (e : Nat × Nat) (h0 : s.mem.wf = true) : (strike s e).mem.wf = true := by
  unfold strike; (try dsimp only); first
    | (simp [*]; done)
    | ((repeat' split) <;> first | assumption | (simp_all; done))

@[simp] theorem writeBeat_wf (a : Nat) (v : Word) (poison : Bool) (s : State) (h0 : s.mem.wf = true) : (writeBeat a v poison s).mem.wf = true := by
  unfold writeBeat; (try dsimp only); first
    | (simp [*]; done)
    | ((repeat' split) <;> simp_all; done)

@[simp] theorem ddrSettle_wf (c : Nat) (s : State) (h0 : s.mem.wf = true) : (ddrSettle c s).mem.wf = true := by
  unfold ddrSettle; (try dsimp only); first
    | (simp [*]; done)
    | ((repeat' split) <;> simp_all; done)

@[simp] theorem useSlot_wf (c : Nat) (r : DramReq) (s : State) (h0 : s.mem.wf = true) : (useSlot c r s).mem.wf = true := by
  unfold useSlot; (try dsimp only); first
    | (simp [*]; done)
    | ((repeat' split) <;> simp_all; done)

@[simp] theorem issueWord_wf (rmw : Bool) (r : DramReq) (s : State) (k : Nat) (h : s.mem.wf = true) : (issueWord rmw r s k).mem.wf = true := by
  unfold issueWord
  dsimp only
  exact ite_wf (writeBeat_wf _ _ _ _ (beat_wf _ _ h)) (writeBeat_wf _ _ _ _ h)

@[simp] theorem issueWrite_wf (c : Nat) (r : DramReq) (s : State) (h : s.mem.wf = true) : (issueWrite c r s).mem.wf = true := by
  unfold issueWrite
  exact ddrSettle_wf _ _ (useSlot_wf _ _ _ (State.setDdr_wf _ _ _ (foldl_wf _ _ (fun t k ht => issueWord_wf _ _ t k ht) _ (State.setDdr_wf _ _ _ h))))

@[simp] theorem oldWord_wf (c : Nat) (s : State) (w : Nat × Word × Nat) (h : s.mem.wf = true) : (oldWord c s w).mem.wf = true :=
  Mem.wf_wrWord _ _ _ h

@[simp] theorem spareError_wf (c : Nat) (s : State) (h : s.mem.wf = true) : (spareError c s).mem.wf = true := by
  have ho := foldl_wf (s.ddrSt c).oldWords (oldWord c) (fun t p ht => oldWord_wf c t p ht) s h
  unfold spareError
  exact fire_wf _ _ _ (State.setDdr_wf _ _ _ (State.fset_wf _ _ _ _ _ ho))

@[simp] theorem noteOld_wf (c : Nat) (r : DramReq) (ws : List DramWord) (s : State) (k : Nat) (h0 : s.mem.wf = true) : (noteOld c r ws s k).mem.wf = true := by
  unfold noteOld; (try dsimp only); first
    | (simp [*]; done)
    | ((repeat' split) <;> first | assumption | (simp_all; done))

@[simp] theorem noteCmdErr_wf (a : Nat) (s : State) (h0 : s.mem.wf = true) : (noteCmdErr a s).mem.wf = true := by
  unfold noteCmdErr; (try dsimp only); first
    | (simp [*]; done)
    | ((repeat' split) <;> simp_all; done)

@[simp] theorem garble_wf (ws : List DramWord) (s : State) (h : s.mem.wf = true) : (garble ws s).2.mem.wf = true := by
  induction ws generalizing s with
  | nil => exact h
  | cons w ws ih =>
    unfold garble
    apply ih
    split
    · exact h
    · exact h

@[simp] theorem issueWriteCrc_wf (c : Nat) (r : DramReq) (fails : Nat) (onSpare : Bool) (s : State) (h : s.mem.wf = true) :
    (issueWriteCrc c r fails onSpare s).mem.wf = true := by
  unfold issueWriteCrc
  refine ite_wf (issueWrite_wf _ _ _ h) ?_
  have hn := noteCmdErr_wf r.unit _ (State.count_wf s (Reg.DDR_CMD_ERR_CNT c) 1 h)
  dsimp only
  refine ite_wf (spareError_wf _ _ (issueWrite_wf _ _ _ hn)) (ite_wf ?_ ?_)
  · exact retireRank_wf _ _ _ (foldl_wf _ _ (fun t k ht => noteOld_wf _ _ _ _ _ ht) _ (issueWrite_wf _ _ _ (garble_wf _ _ hn)))
  · exact retireRank_wf _ _ _ (issueWrite_wf _ _ _ (garble_wf _ _ hn))

@[simp] theorem flushUnit_wf (c : Nat) (u : Nat) (s : State) (h0 : s.mem.wf = true) : (flushUnit c u s).mem.wf = true := by
  unfold flushUnit; (try dsimp only); first
    | (simp [*]; done)
    | ((repeat' split) <;> simp_all; done)

@[simp] theorem issueInTurn_wf (c : Nat) (r : DramReq) (s : State) (h0 : s.mem.wf = true) : (issueInTurn c r s).mem.wf = true := by
  unfold issueInTurn; (try dsimp only); first
    | (simp [*]; done)
    | ((repeat' split) <;> first | assumption | (simp_all; done))

@[simp] theorem makeRoom_wf (c : Nat) (port : Nat) (x0 : Nat) (x1 : State) (h0 : x1.mem.wf = true) : (makeRoom c port x0 x1).mem.wf = true := by
  fun_induction makeRoom c port x0 x1 <;> (try dsimp only) <;> first
    | (simp [*]; done)
    | ((repeat' split) <;> simp_all; done)

@[simp] theorem deliver_wf (r : DramReq) (ws : List (Word × Bool)) (s : State) (h0 : s.mem.wf = true) : (deliver r ws s).mem.wf = true := by
  unfold deliver; (try dsimp only); first
    | (simp [*]; done)
    | ((repeat' split) <;> first | assumption | (simp_all; done))

@[simp] theorem arrive_wf (s : State) (d : DramArr) (h0 : s.mem.wf = true) : (arrive s d).mem.wf = true := by
  unfold arrive; (try dsimp only); first
    | (simp [*]; done)
    | ((repeat' split) <;> simp_all; done)

@[simp] theorem issueRead_wf (c : Nat) (r : DramReq) (syn : List Nat) (s : State) (h : s.mem.wf = true) : (issueRead c r syn s).mem.wf = true := by
  unfold issueRead
  exact deliver_wf _ _ _ (ddrSettle_wf _ _ (useSlot_wf _ _ _ (beats_wf _ _ _ _ (meetSyn_wf _ _ _ (State.setDdr_wf _ _ _ h)))))

@[simp] theorem awaitTurn_wf (c : Nat) (r : DramReq) (n : Nat) (s : State) (h : s.mem.wf = true) : (awaitTurn c r n s).mem.wf = true := by
  induction n generalizing s with
  | zero => exact h
  | succ n ih =>
    unfold awaitTurn
    dsimp only
    split
    · exact h
    · refine ite_wf h (ite_wf (ih _ (issueWrite_wf _ _ _ h)) ?_)
      exact ih _ (issueRead_wf c _ [] s h)

@[simp] theorem dramRead_wf (port a : Nat) (s : State) (h : s.mem.wf = true) : (dramRead port a s).2.mem.wf = true := by
  unfold dramRead
  refine ite2_wf h ?_
  dsimp only
  refine ite2_wf h (ite2_wf ?_ ?_)
  · exact ite_wf (ddrError_wf _ _ _ (State.count_wf _ _ _ h)) h
  · have ha := awaitTurn_wf (ddrOf s.variant a)
    refine beat_wf _ _ (useSlot_wf _ _ _ (ite_wf ?_ (flushUnit_wf _ _ _ ?_)))
    · exact ha _ _ _ (State.setDdr_wf _ _ _ h)
    · exact ha _ _ _ (State.setDdr_wf _ _ _ h)

@[simp] theorem enqueueFresh_wf (port buf : Nat) (be : BitVec 4) (v : Word) (poison : Bool) (c u k : Nat) (s : State) (h : s.mem.wf = true) :
    (enqueueWord.fresh port buf be v poison c u k s).mem.wf = true := by
  unfold enqueueWord.fresh
  exact ddrSettle_wf _ _ (State.setDdr_wf _ _ _ (makeRoom_wf _ _ _ _ h))

@[simp] theorem enqueueWord_wf (port buf a : Nat) (be : BitVec 4) (v : Word) (poison : Bool) (s : State) (h : s.mem.wf = true) :
    (enqueueWord port buf a be v poison s).mem.wf = true := by
  unfold enqueueWord
  dsimp only
  split
  · split
    · exact State.setDdr_wf _ _ _ h
    · exact enqueueFresh_wf _ _ _ _ _ _ _ _ _ h
  · exact enqueueFresh_wf _ _ _ _ _ _ _ _ _ h

@[simp] theorem dramStore_wf (port : Nat) (buf : Nat) (a : Nat) (v : Word) (poison : Bool) (s : State) (h0 : s.mem.wf = true) : (dramStore port buf a v poison s).mem.wf = true := by
  unfold dramStore; (try dsimp only); first
    | (simp [*]; done)
    | ((repeat' split) <;> simp_all; done)

@[simp] theorem dramBytes_wf (port : Nat) (a : Nat) (be : BitVec 4) (v : Word) (s : State) (h0 : s.mem.wf = true) : (dramBytes port a be v s).mem.wf = true := by
  unfold dramBytes; (try dsimp only); first
    | (simp [*]; done)
    | ((repeat' split) <;> simp_all; done)

@[simp] theorem readSlot_wf (c : Nat) (arr : List DramArr) (ready syn : List Nat) (hits : List (Nat × Nat)) (s : State) (h : s.mem.wf = true) :
    (readSlot c arr ready syn hits s).mem.wf = true := by
  have ha : (arr.foldl arrive (hits.foldl strike { s with dramOut := [] })).mem.wf = true :=
    foldl_wf _ _ (fun t d ht => arrive_wf t d ht) _ (foldl_wf _ _ (fun t p ht => strike_wf t p ht) _ h)
  unfold readSlot
  dsimp only
  split
  · exact ite_wf ha (issueRead_wf _ _ _ _ ha)
  · exact ha

@[simp] theorem writeSlot_wf (c : Nat) (arr : List DramArr) (ready syn : List Nat) (fails : Nat) (onSpare : Bool) (s : State)
    (h : s.mem.wf = true) : (writeSlot c arr ready syn fails onSpare s).mem.wf = true := by
  have ha : (arr.foldl arrive { s with dramOut := [] }).mem.wf = true := foldl_wf _ _ (fun t d ht => arrive_wf t d ht) _ h
  unfold writeSlot
  dsimp only
  split
  · exact ite_wf (issueWriteCrc_wf _ _ _ _ _ (ite_wf ha (meetSyn_wf _ _ _ ha))) ha
  · exact ha

@[simp] theorem writeBack_wf (c : Nat) (ready : List Nat) (s : State) (h0 : s.mem.wf = true) : (writeBack c ready s).mem.wf = true := by
  unfold writeBack; (try dsimp only); first
    | (simp [*]; done)
    | ((repeat' split) <;> simp_all; done)

@[simp] theorem setOwed_wf (c : Nat) (r : Nat) (n : Nat) (s : State) (h0 : s.mem.wf = true) : (setOwed c r n s).mem.wf = true := by
  unfold setOwed; (try dsimp only); first
    | (simp [*]; done)
    | ((repeat' split) <;> simp_all; done)

@[simp] theorem countTicks_wf (c : Nat) (s : State) (h0 : s.mem.wf = true) : (countTicks c s).mem.wf = true := by
  unfold countTicks; (try dsimp only); first
    | (simp [*]; done)
    | ((repeat' split) <;> first | assumption | (simp_all; done))

@[simp] theorem refreshTick_wf (c : Nat) (s : State) (h0 : s.mem.wf = true) : (refreshTick c s).mem.wf = true := by
  unfold refreshTick; (try dsimp only); first
    | (simp [*]; done)
    | ((repeat' split) <;> simp_all; done)

@[simp] theorem refab_wf (c : Nat) (r : Nat) (ready : List Nat) (s : State) (h0 : s.mem.wf = true) : (refab c r ready s).mem.wf = true := by
  unfold refab; (try dsimp only); first
    | (simp [*]; done)
    | ((repeat' split) <;> simp_all; done)

@[simp] theorem hotTicks_wf (c : Nat) (s : State) (h0 : s.mem.wf = true) : (hotTicks c s).mem.wf = true := by
  unfold hotTicks; (try dsimp only); first
    | (simp [*]; done)
    | ((repeat' split) <;> first | assumption | (simp_all; done))

@[simp] theorem tempReading_wf (c : Nat) (t' : BitVec 16) (s : State) (h : s.mem.wf = true) : (tempReading c t' s).mem.wf = true := by
  have hw := State.wr_wf s (Reg.DDR_TEMP c) (packTemp s c t').toNat h
  unfold tempReading
  dsimp only
  refine ite_wf (ite_wf (fire_wf _ _ _ (State.setDdr_wf _ _ _ (State.fset_wf _ _ _ _ _ (State.bset_wf _ _ _ _ (hotTicks_wf _ _ ?_))))) ?_) h
  · exact ite_wf (countTicks_wf _ _ hw) hw
  · exact ite_wf (State.fset_wf _ _ _ _ _ (State.bset_wf _ _ _ _ hw)) hw

@[simp] theorem panicRise_wf (c : Nat) (port : Nat) (s : State) (h0 : s.mem.wf = true) : (panicRise c port s).mem.wf = true := by
  unfold panicRise; (try dsimp only); first
    | (simp [*]; done)
    | ((repeat' split) <;> simp_all; done)

@[simp] theorem urgencyRise_wf (c : Nat) (port : Nat) (s : State) (h0 : s.mem.wf = true) : (urgencyRise c port s).mem.wf = true := by
  unfold urgencyRise; (try dsimp only); first
    | (simp [*]; done)
    | ((repeat' split) <;> simp_all; done)

@[simp] theorem ddrCtlWrite_wf (c : Nat) (v : Word) (s : State) (h0 : s.mem.wf = true) : (ddrCtlWrite c v s).mem.wf = true := by
  unfold ddrCtlWrite; (try dsimp only); first
    | (simp [*]; done)
    | ((repeat' split) <;> simp_all; done)

@[simp] theorem trnWrite_wf (c : Nat) (v : Word) (s : State) (h0 : s.mem.wf = true) : (trnWrite c v s).mem.wf = true := by
  unfold trnWrite; (try dsimp only); first
    | (simp [*]; done)
    | ((repeat' split) <;> simp_all; done)

@[simp] theorem applyPause_wf (c : Nat) (s : State) (h0 : s.mem.wf = true) : (applyPause c s).mem.wf = true := by
  unfold applyPause; (try dsimp only); first
    | (simp [*]; done)
    | ((repeat' split) <;> simp_all; done)

@[simp] theorem copyWord_wf (u : Nat) (s : State) (k : Nat) (h : s.mem.wf = true) : (copyWord u s k).mem.wf = true := by
  have hb := writeBeat_wf (u + 4 * k) (beat (u + 4 * k) s).1.1 (beat (u + 4 * k) s).1.2 _ (beat_wf (u + 4 * k) s h)
  unfold copyWord
  dsimp only
  exact ite_wf hb (State.setDdr_wf _ _ _ hb)

@[simp] theorem migrationCopy_wf (c : Nat) (bad ready soft : List Nat) (cmdErr : Bool) (s : State) (h : s.mem.wf = true) :
    (migrationCopy c bad ready soft cmdErr s).mem.wf = true := by
  unfold migrationCopy
  split
  · dsimp only
    refine ite_wf (ite_wf ?_ ?_) h
    · exact spareError_wf _ _ (noteCmdErr_wf _ _ (State.count_wf _ _ _ (beats_wf _ _ _ _ (meetSyn_wf _ _ _ h))))
    · exact State.wr_wf _ _ _ (State.setDdr_wf _ _ _ (foldl_wf _ _ (fun t k ht => copyWord_wf _ t k ht) _ (meetSyn_wf _ _ _ h)))
  · exact h

@[simp] theorem migrationDone_wf (c : Nat) (s : State) (h0 : s.mem.wf = true) : (migrationDone c s).mem.wf = true := by
  unfold migrationDone; (try dsimp only); first
    | (simp [*]; done)
    | ((repeat' split) <;> simp_all; done)

@[simp] theorem scrubRead_wf (a : Nat) (syn ready : List Nat) (s : State) (h : s.mem.wf = true) : (scrubRead a syn ready s).mem.wf = true := by
  unfold scrubRead
  dsimp only
  exact ite_wf (beats_wf _ _ _ _ (meetSyn_wf _ _ _ h)) h

@[simp] theorem testStart_wf (c : Nat) (v : Word) (s : State) (h0 : s.mem.wf = true) : (testStart c v s).mem.wf = true := by
  unfold testStart; (try dsimp only); first
    | (simp [*]; done)
    | ((repeat' split) <;> simp_all; done)

@[simp] theorem testPut_wf (c : Nat) (j : Nat) (w : Word) (s : State) (h0 : s.mem.wf = true) : (testPut c j w s).mem.wf = true := by
  unfold testPut; (try dsimp only); first
    | (simp [*]; done)
    | ((repeat' split) <;> first | assumption | (simp_all; done))

@[simp] theorem testGet_wf (c : Nat) (j : Nat) (s : State) (h0 : s.mem.wf = true) : (testGet c j s).2.mem.wf = true := by
  unfold testGet; (try dsimp only); first
    | (simp [*]; done)
    | ((repeat' split) <;> first | assumption | (simp_all; done))

@[simp] theorem testWrite_wf (c : Nat) (x0 : Nat) (x1 : Nat) (x2 : Nat) (x3 : State) (h0 : x3.mem.wf = true) : (testWrite c x0 x1 x2 x3).mem.wf = true := by
  fun_induction testWrite c x0 x1 x2 x3 <;> (try dsimp only) <;> first
    | (simp [*]; done)
    | ((repeat' split) <;> first | assumption | (simp_all; done))

@[simp] theorem testCompare_wf (c : Nat) (err : Nat → Nat) (n j r : Nat) (s : State) (h : s.mem.wf = true) : (testCompare c err n j r s).2.mem.wf = true := by
  induction n generalizing j r s with
  | zero => exact h
  | succ n ih =>
    have hg : (testGet c j s).2.mem.wf = true := testGet_wf _ _ _ h
    unfold testCompare
    dsimp only
    refine ih _ _ _ ?_
    split
    · exact hg
    · exact State.freeW_wf _ hg

@[simp] theorem testDone_wf (c : Nat) (bits : Word) (ecc : BitVec 8) (mrr : BitVec 16) (beats : Nat) (more : List (Nat × Nat)) (ready : List Nat)
    (s : State) (h : s.mem.wf = true) : (testDone c bits ecc mrr beats more ready s).mem.wf = true := by
  unfold testDone
  refine ite_wf ?_ h
  refine State.setDdr_wf _ _ _ (State.wr_wf _ _ _ (State.wr_wf _ _ _ (State.wr_wf _ _ _ (State.bset_wf _ _ _ _ ?_))))
  exact ite2_wf (testWrite_wf _ _ _ _ _ h) (ite2_wf (testCompare_wf _ _ _ _ _ _ h) h)

@[simp] theorem fabReadBy_wf (port a : Nat) (s : State) (h : s.mem.wf = true) : (fabReadBy port a s).2.mem.wf = true := by
  unfold fabReadBy
  dsimp only
  exact ite2_wf h (ite2_wf (readWord_wf _ _ h) (ite2_wf (dramRead_wf _ _ _ h) h))

@[simp] theorem fabRead_wf (a : Nat) (s : State) (h0 : s.mem.wf = true) : (fabRead a s).2.mem.wf = true := by
  unfold fabRead; (try dsimp only); first
    | (simp [*]; done)
    | ((repeat' split) <;> simp_all; done)

@[simp] theorem fabWriteBy_wf (port : Nat) (a : Nat) (v : Word) (bad : Bool) (s : State) (h0 : s.mem.wf = true) : (fabWriteBy port a v bad s).mem.wf = true := by
  unfold fabWriteBy; (try dsimp only); first
    | (simp [*]; done)
    | ((repeat' split) <;> simp_all; done)

@[simp] theorem fabWrite_wf (a : Nat) (v : Word) (bad : Bool) (s : State) (h0 : s.mem.wf = true) : (fabWrite a v bad s).mem.wf = true := by
  unfold fabWrite; (try dsimp only); first
    | (simp [*]; done)
    | ((repeat' split) <;> simp_all; done)

@[simp] theorem hostWrite_wf (a : Nat) (v : Word) (own : PortOp) (s : State) (h : s.mem.wf = true) : (hostWrite a v own s).mem.wf = true := by
  unfold hostWrite
  split
  · exact withOwner_wf _ _ _ _ (fun _ ht => fabWriteBy_wf _ _ _ _ _ ht) h
  · exact h

@[simp] theorem hostRead_wf (a : Nat) (s : State) (h : s.mem.wf = true) : (hostRead a s).mem.wf = true := by
  unfold hostRead
  split
  · exact State.answer_wf _ _ h
  · split
    · exact accessAnswer_wf _ _ _ _ (readWord_wf _ _ h)
    · exact fabReadBy_wf 5 _ _ h

@[simp] theorem scribeLoad_wf (core a : Nat) (s : State) (h : s.mem.wf = true) : (scribeLoad core a s).mem.wf = true := by
  unfold scribeLoad
  split
  · exact accessAnswer_wf _ _ _ _ (readWord_wf _ _ h)
  · dsimp only
    have hr := dramRead_wf 3 a s h
    exact ite_wf (ite_wf (State.accessFault_wf _ hr) (State.answer_wf _ _ hr)) (ite_wf h (State.accessFault_wf _ h))

@[simp] theorem scribeStore_wf (a : Nat) (v : Word) (own : PortOp) (s : State) (h : s.mem.wf = true) : (scribeStore a v own s).mem.wf = true := by
  have hw := withOwner_wf a own (visitorWrite a v false) s (fun _ ht => visitorWrite_wf _ _ _ _ ht) h
  unfold scribeStore
  dsimp only
  exact ite_wf (ite_wf (State.accessFault_wf _ hw) hw)
    (ite_wf (dramStore_wf _ _ _ _ _ _ h) (ite_wf h (State.accessFault_wf _ h)))

@[simp] theorem cfgWrite_wf (r : CfgReg) (v : Word) (s : State) (h0 : s.mem.wf = true) : (cfgWrite r v s).mem.wf = true := by
  unfold cfgWrite; (try dsimp only); first
    | (simp [*]; done)
    | ((repeat' split) <;> first | assumption | (simp_all; done))

theorem inD0_wf (f g : State → State) (s : State) (hf : (f s).mem.wf = true) (hg : (g s).mem.wf = true) : (inD0 f g s).mem.wf = true :=
  ite_wf hg hf

theorem configured_wf (f : State → State) (s : State) (hf : (f s).mem.wf = true) (h : s.mem.wf = true) : (configured f s).mem.wf = true :=
  ite_wf hf h

@[simp] theorem fabByte_wf (a : Nat) (b : Byte) (s : State) (h0 : s.mem.wf = true) : (fabByte a b s).mem.wf = true := by
  unfold fabByte; (try dsimp only); first
    | (simp [*]; done)
    | ((repeat' split) <;> simp_all; done)

@[simp] theorem fabBytesN_wf (x0 : Nat) (x1 : Nat) (x2 : List Byte) (x3 : State) (h0 : x3.mem.wf = true) : (fabBytesN x0 x1 x2 x3).mem.wf = true := by
  fun_induction fabBytesN x0 x1 x2 x3 <;> (try dsimp only) <;> first
    | (simp [*]; done)
    | ((repeat' split) <;> simp_all; done)

@[simp] theorem fabBytes_wf (a : Nat) (bs : List Byte) (s : State) (h0 : s.mem.wf = true) : (fabBytes a bs s).mem.wf = true := by
  unfold fabBytes; (try dsimp only); first
    | (simp [*]; done)
    | ((repeat' split) <;> simp_all; done)

@[simp] theorem fabWords_wf (n a : Nat) (s : State) (h : s.mem.wf = true) : (fabWords n a s).2.mem.wf = true := by
  induction n generalizing a s with
  | zero => exact h
  | succ n ih =>
    unfold fabWords
    exact ih _ _ (fabRead_wf _ _ h)

@[simp] theorem fabGet_wf (n : Nat) (a : Nat) (s : State) (h0 : s.mem.wf = true) : (fabGet n a s).2.mem.wf = true := by
  unfold fabGet; (try dsimp only); first
    | (simp [*]; done)
    | ((repeat' split) <;> simp_all; done)

@[simp] theorem readRec_wf (tile : Nat) (set : Nat) (slot : Nat) (s : State) (h0 : s.mem.wf = true) : (readRec tile set slot s).2.mem.wf = true := by
  unfold readRec; (try dsimp only); first
    | (simp [*]; done)
    | ((repeat' split) <;> simp_all; done)

@[simp] theorem halfSeen_wf (i : Nat) (p : Nat) (other : Bool) (s : State) (h0 : s.mem.wf = true) : (halfSeen i p other s).mem.wf = true := by
  unfold halfSeen; (try dsimp only); first
    | (simp [*]; done)
    | ((repeat' split) <;> simp_all; done)

theorem writeHalf_wf (i p : Nat) (lo hi : Byte) (at2 other : Bool) (m : Mem) (h : m.wf = true) :
    (writeHalf i p lo hi at2 other m).wf = true := by
  unfold writeHalf
  dsimp only
  generalize (if at2 = true then p + 2 else p) = a
  have hw : ((m.wrByte a lo).wrByte (a + 1) hi).wf = true := Mem.wf_wrByte _ _ _ (Mem.wf_wrByte _ _ _ h)
  split
  · exact hw
  · split <;> exact hw

@[simp] theorem writeRec_wf (halves : List Nat) (tile set slot : Nat) (r : BitVec 48) (s : State) (h : s.mem.wf = true) :
    (writeRec halves tile set slot r s).mem.wf = true := by
  unfold writeRec
  generalize recAddr tile set slot = a
  split
  · dsimp only
    split
    · exact writeHalf_wf _ _ _ _ _ _ _ (Mem.wf_store _ _ _ _ _ (halfSeen_wf _ _ _ _ h))
    · exact writeHalf_wf _ _ _ _ _ _ _ (Mem.wf_store _ _ _ _ _ (halfSeen_wf _ _ _ _ h))
  · exact ite_wf (State.count_wf _ _ _ h) h

@[simp] theorem writeRecs_wf (x0 : List XpWrite) (x1 : List Nat) (x2 : State) (h0 : x2.mem.wf = true) : (writeRecs x0 x1 x2).mem.wf = true := by
  fun_induction writeRecs x0 x1 x2 <;> (try dsimp only) <;> first
    | (simp [*]; done)
    | ((repeat' split) <;> simp_all; done)

@[simp] theorem State.setXp_wf (s : State) (o : Nat) (x : XpObj) (h0 : s.mem.wf = true) : (State.setXp s o x).mem.wf = true := by
  unfold State.setXp; (try dsimp only); first
    | (simp [*]; done)
    | ((repeat' split) <;> simp_all; done)

@[simp] theorem flushXp_wf (all : Bool) (s : State) (h0 : s.mem.wf = true) : (flushXp all s).mem.wf = true := by
  unfold flushXp; (try dsimp only); first
    | (simp [*]; done)
    | ((repeat' split) <;> simp_all; done)

@[simp] theorem popN_wf (x0 : Nat) (x1 : Nat) (x2 : State) (h0 : x2.mem.wf = true) : (popN x0 x1 x2).mem.wf = true := by
  fun_induction popN x0 x1 x2 <;> (try dsimp only) <;> first
    | (simp [*]; done)
    | ((repeat' split) <;> simp_all; done)

@[simp] theorem takeWords_wf (op : Nat) (q : Nat) (tag : Word) (args : List Word) (s : State) (h0 : s.mem.wf = true) : (takeWords op q tag args s).mem.wf = true := by
  unfold takeWords; (try dsimp only); first
    | (simp [*]; done)
    | ((repeat' split) <;> simp_all; done)

@[simp] theorem complete_wf (op : Nat) (q : Nat) (tag : Word) (x : Status) (res : List Word) (s : State) (h0 : s.mem.wf = true) : (complete op q tag x res s).mem.wf = true := by
  unfold complete; (try dsimp only); first
    | (simp [*]; done)
    | ((repeat' split) <;> simp_all; done)

@[simp] theorem serve_wf (q : Nat) (s : State) (h0 : s.mem.wf = true) : (serve q s).mem.wf = true := by
  unfold serve; (try dsimp only); first
    | (simp [*]; done)
    | ((repeat' split) <;> first | assumption | (simp_all; done))

@[simp] theorem hold_wf (op : Nat) (q : Nat) (tag : Word) (a : Nat) (s : State) (h0 : s.mem.wf = true) : (hold op q tag a s).mem.wf = true := by
  unfold hold; (try dsimp only); first
    | (simp [*]; done)
    | ((repeat' split) <;> simp_all; done)

@[simp] theorem release_wf (w : Waiting) (x : Status) (res : List Word) (s : State) (h0 : s.mem.wf = true) : (release w x res s).mem.wf = true := by
  unfold release; (try dsimp only); first
    | (simp [*]; done)
    | ((repeat' split) <;> simp_all; done)

@[simp] theorem finishCmd_wf (op q : Nat) (tag : Word) (r : CRes) (h : r.st.mem.wf = true) : (finishCmd op q tag r).mem.wf = true :=
  ite_wf h (complete_wf _ _ _ _ _ _ h)

theorem runCommand_wf (op q : Nat) (tag : Word) (args : List Word) (body : State → CRes)
    (hb : ∀ t, t.mem.wf = true → (body t).st.mem.wf = true) (s : State) (h : s.mem.wf = true) :
    (runCommand op q tag args body s).mem.wf = true := by
  unfold runCommand
  refine ite_wf ?_ h
  dsimp only
  have ht : (takeWords op q tag args (serve q s)).mem.wf = true := takeWords_wf _ _ _ _ _ h
  refine ite_wf (finishCmd_wf _ _ _ _ ht) (ite_wf (finishCmd_wf _ _ _ _ ht) (ite_wf ?_ (finishCmd_wf _ _ _ _ (hb _ ht))))
  exact finishCmd_wf _ _ _ _ (holdItem_wf _ _ _ _ _ (hold_wf _ _ _ _ _ ht))

@[simp] theorem skipWords_wf (q : Nat) (s : State) (h0 : s.mem.wf = true) : (skipWords q s).mem.wf = true := by
  unfold skipWords; (try dsimp only); first
    | (simp [*]; done)
    | ((repeat' split) <;> simp_all; done)

@[simp] theorem endBad_wf (op q : Nat) (tag : Word) (found : List Status) (e : Option QEntry) (s : State) (h : s.mem.wf = true) :
    (endBad op q tag found e s).mem.wf = true := by
  unfold endBad
  split
  · exact complete_wf _ _ _ _ _ _ h
  · exact complete_wf _ _ _ _ _ _ h

@[simp] theorem strayHeader_wf (q : Nat) (e : QEntry) (rest : List QEntry) (s : State) (h : s.mem.wf = true) : (strayHeader q e rest s).mem.wf = true := by
  have hp (n : Nat) : (popN n q (serve q s)).mem.wf = true := popN_wf _ _ _ h
  unfold strayHeader
  dsimp only
  split
  · exact ite_wf h (complete_wf _ _ _ _ _ _ (hp _))
  · split
    · exact skipWords_wf _ _ (endBad_wf _ _ _ _ _ _ (hp _))
    · exact ite_wf (endBad_wf _ _ _ _ _ _ (hp _)) (skipWords_wf _ _ (endBad_wf _ _ _ _ _ _ (hp _)))

@[simp] theorem strayWord_wf (q : Nat) (s : State) (h : s.mem.wf = true) : (strayWord q s).mem.wf = true := by
  have hs : (serve q s).mem.wf = true := h
  unfold strayWord
  refine ite_wf (ite_wf (skipWords_wf _ _ h) ?_) h
  split
  · exact h
  · refine ite_wf (strayHeader_wf _ _ _ _ h) (ite_wf (endBad_wf _ _ _ _ _ _ (popN_wf _ _ _ hs)) (skipWords_wf _ _ (endBad_wf _ _ _ _ _ _ hs)))

end Sys2Proof.Machine
end

