-- ==== Sys2Proof/Laws/Quill.lean ====
section
/-! SUPPORT. The laws of a Quill bundle: what each stage leaves of the core (one lemma for each register a stage does not write), the
whole effect of the stages, and that a command whose bundle runs answers the state after it. -/

namespace Sys2Proof.Machine

set_option Elab.async false

/-! A write of a register code writes only the file of that code. -/

@[simp] theorem QCore.inReg_st (c : QCore) (code : Nat) (w : Word) : (QCore.inReg c code w).st = c.st := by unfold QCore.inReg; (repeat' split) <;> rfl
@[simp] theorem QCore.inReg_cause (c : QCore) (code : Nat) (w : Word) : (QCore.inReg c code w).cause = c.cause := by unfold QCore.inReg; (repeat' split) <;> rfl
@[simp] theorem QCore.inReg_pc (c : QCore) (code : Nat) (w : Word) : (QCore.inReg c code w).pc = c.pc := by unfold QCore.inReg; (repeat' split) <;> rfl
@[simp] theorem QCore.inReg_lastPc (c : QCore) (code : Nat) (w : Word) : (QCore.inReg c code w).lastPc = c.lastPc := by unfold QCore.inReg; (repeat' split) <;> rfl
@[simp] theorem QCore.inReg_ac (c : QCore) (code : Nat) (w : Word) : (QCore.inReg c code w).ac = c.ac := by unfold QCore.inReg; (repeat' split) <;> rfl
@[simp] theorem QCore.inReg_acm (c : QCore) (code : Nat) (w : Word) : (QCore.inReg c code w).acm = c.acm := by unfold QCore.inReg; (repeat' split) <;> rfl
@[simp] theorem QCore.inReg_acBusy (c : QCore) (code : Nat) (w : Word) : (QCore.inReg c code w).acBusy = c.acBusy := by unfold QCore.inReg; (repeat' split) <;> rfl
@[simp] theorem QCore.inReg_lc (c : QCore) (code : Nat) (w : Word) : (QCore.inReg c code w).lc = c.lc := by unfold QCore.inReg; (repeat' split) <;> rfl
@[simp] theorem QCore.inReg_ls (c : QCore) (code : Nat) (w : Word) : (QCore.inReg c code w).ls = c.ls := by unfold QCore.inReg; (repeat' split) <;> rfl
@[simp] theorem QCore.inReg_le (c : QCore) (code : Nat) (w : Word) : (QCore.inReg c code w).le = c.le := by unfold QCore.inReg; (repeat' split) <;> rfl
@[simp] theorem QCore.inReg_ipend (c : QCore) (code : Nat) (w : Word) : (QCore.inReg c code w).ipend = c.ipend := by unfold QCore.inReg; (repeat' split) <;> rfl
@[simp] theorem QCore.inReg_imask (c : QCore) (code : Nat) (w : Word) : (QCore.inReg c code w).imask = c.imask := by unfold QCore.inReg; (repeat' split) <;> rfl
@[simp] theorem QCore.inReg_epc (c : QCore) (code : Nat) (w : Word) : (QCore.inReg c code w).epc = c.epc := by unfold QCore.inReg; (repeat' split) <;> rfl
@[simp] theorem QCore.inReg_est (c : QCore) (code : Nat) (w : Word) : (QCore.inReg c code w).est = c.est := by unfold QCore.inReg; (repeat' split) <;> rfl
@[simp] theorem QCore.inReg_timer (c : QCore) (code : Nat) (w : Word) : (QCore.inReg c code w).timer = c.timer := by unfold QCore.inReg; (repeat' split) <;> rfl
@[simp] theorem QCore.inReg_pm (c : QCore) (code : Nat) (w : Word) : (QCore.inReg c code w).pm = c.pm := by unfold QCore.inReg; (repeat' split) <;> rfl
@[simp] theorem QCore.inReg_pmBad (c : QCore) (code : Nat) (w : Word) : (QCore.inReg c code w).pmBad = c.pmBad := by unfold QCore.inReg; (repeat' split) <;> rfl
@[simp] theorem QCore.inReg_prog (c : QCore) (code : Nat) (w : Word) : (QCore.inReg c code w).prog = c.prog := by unfold QCore.inReg; (repeat' split) <;> rfl
@[simp] theorem QCore.inReg_land (c : QCore) (code : Nat) (w : Word) : (QCore.inReg c code w).land = c.land := by unfold QCore.inReg; (repeat' split) <;> rfl
@[simp] theorem QCore.inReg_delay (c : QCore) (code : Nat) (w : Word) : (QCore.inReg c code w).delay = c.delay := by unfold QCore.inReg; (repeat' split) <;> rfl
@[simp] theorem QCore.inReg_inRep (c : QCore) (code : Nat) (w : Word) : (QCore.inReg c code w).inRep = c.inRep := by unfold QCore.inReg; (repeat' split) <;> rfl
@[simp] theorem QCore.inReg_repTail (c : QCore) (code : Nat) (w : Word) : (QCore.inReg c code w).repTail = c.repTail := by unfold QCore.inReg; (repeat' split) <;> rfl
@[simp] theorem QCore.inReg_waiting (c : QCore) (code : Nat) (w : Word) : (QCore.inReg c code w).waiting = c.waiting := by unfold QCore.inReg; (repeat' split) <;> rfl
@[simp] theorem QCore.inReg_hold (c : QCore) (code : Nat) (w : Word) : (QCore.inReg c code w).hold = c.hold := by unfold QCore.inReg; (repeat' split) <;> rfl
@[simp] theorem QCore.inReg_stall (c : QCore) (code : Nat) (w : Word) : (QCore.inReg c code w).stall = c.stall := by unfold QCore.inReg; (repeat' split) <;> rfl
@[simp] theorem QCore.inReg_wbuf (c : QCore) (code : Nat) (w : Word) : (QCore.inReg c code w).wbuf = c.wbuf := by unfold QCore.inReg; (repeat' split) <;> rfl
@[simp] theorem QCore.inReg_bufWait (c : QCore) (code : Nat) (w : Word) : (QCore.inReg c code w).bufWait = c.bufWait := by unfold QCore.inReg; (repeat' split) <;> rfl
@[simp] theorem QCore.inReg_haltReq (c : QCore) (code : Nat) (w : Word) : (QCore.inReg c code w).haltReq = c.haltReq := by unfold QCore.inReg; (repeat' split) <;> rfl
@[simp] theorem QCore.inReg_submit (c : QCore) (code : Nat) (w : Word) : (QCore.inReg c code w).submit = c.submit := by unfold QCore.inReg; (repeat' split) <;> rfl

/-! The loads in flight land in register codes. -/

@[simp] theorem landFold_st (l : List (Nat × Word)) (c : QCore) : (l.foldl (fun c p => c.inReg p.1 p.2) c).st = c.st := by
  induction l generalizing c with
  | nil => rfl
  | cons p l ih => simp only [List.foldl_cons, ih, QCore.inReg_st]
@[simp] theorem landFold_cause (l : List (Nat × Word)) (c : QCore) : (l.foldl (fun c p => c.inReg p.1 p.2) c).cause = c.cause := by
  induction l generalizing c with
  | nil => rfl
  | cons p l ih => simp only [List.foldl_cons, ih, QCore.inReg_cause]
@[simp] theorem landFold_pc (l : List (Nat × Word)) (c : QCore) : (l.foldl (fun c p => c.inReg p.1 p.2) c).pc = c.pc := by
  induction l generalizing c with
  | nil => rfl
  | cons p l ih => simp only [List.foldl_cons, ih, QCore.inReg_pc]
@[simp] theorem landFold_lastPc (l : List (Nat × Word)) (c : QCore) : (l.foldl (fun c p => c.inReg p.1 p.2) c).lastPc = c.lastPc := by
  induction l generalizing c with
  | nil => rfl
  | cons p l ih => simp only [List.foldl_cons, ih, QCore.inReg_lastPc]
@[simp] theorem landFold_ac (l : List (Nat × Word)) (c : QCore) : (l.foldl (fun c p => c.inReg p.1 p.2) c).ac = c.ac := by
  induction l generalizing c with
  | nil => rfl
  | cons p l ih => simp only [List.foldl_cons, ih, QCore.inReg_ac]
@[simp] theorem landFold_acm (l : List (Nat × Word)) (c : QCore) : (l.foldl (fun c p => c.inReg p.1 p.2) c).acm = c.acm := by
  induction l generalizing c with
  | nil => rfl
  | cons p l ih => simp only [List.foldl_cons, ih, QCore.inReg_acm]
@[simp] theorem landFold_acBusy (l : List (Nat × Word)) (c : QCore) : (l.foldl (fun c p => c.inReg p.1 p.2) c).acBusy = c.acBusy := by
  induction l generalizing c with
  | nil => rfl
  | cons p l ih => simp only [List.foldl_cons, ih, QCore.inReg_acBusy]
@[simp] theorem landFold_lc (l : List (Nat × Word)) (c : QCore) : (l.foldl (fun c p => c.inReg p.1 p.2) c).lc = c.lc := by
  induction l generalizing c with
  | nil => rfl
  | cons p l ih => simp only [List.foldl_cons, ih, QCore.inReg_lc]
@[simp] theorem landFold_ls (l : List (Nat × Word)) (c : QCore) : (l.foldl (fun c p => c.inReg p.1 p.2) c).ls = c.ls := by
  induction l generalizing c with
  | nil => rfl
  | cons p l ih => simp only [List.foldl_cons, ih, QCore.inReg_ls]
@[simp] theorem landFold_le (l : List (Nat × Word)) (c : QCore) : (l.foldl (fun c p => c.inReg p.1 p.2) c).le = c.le := by
  induction l generalizing c with
  | nil => rfl
  | cons p l ih => simp only [List.foldl_cons, ih, QCore.inReg_le]
@[simp] theorem landFold_ipend (l : List (Nat × Word)) (c : QCore) : (l.foldl (fun c p => c.inReg p.1 p.2) c).ipend = c.ipend := by
  induction l generalizing c with
  | nil => rfl
  | cons p l ih => simp only [List.foldl_cons, ih, QCore.inReg_ipend]
@[simp] theorem landFold_imask (l : List (Nat × Word)) (c : QCore) : (l.foldl (fun c p => c.inReg p.1 p.2) c).imask = c.imask := by
  induction l generalizing c with
  | nil => rfl
  | cons p l ih => simp only [List.foldl_cons, ih, QCore.inReg_imask]
@[simp] theorem landFold_epc (l : List (Nat × Word)) (c : QCore) : (l.foldl (fun c p => c.inReg p.1 p.2) c).epc = c.epc := by
  induction l generalizing c with
  | nil => rfl
  | cons p l ih => simp only [List.foldl_cons, ih, QCore.inReg_epc]
@[simp] theorem landFold_est (l : List (Nat × Word)) (c : QCore) : (l.foldl (fun c p => c.inReg p.1 p.2) c).est = c.est := by
  induction l generalizing c with
  | nil => rfl
  | cons p l ih => simp only [List.foldl_cons, ih, QCore.inReg_est]
@[simp] theorem landFold_timer (l : List (Nat × Word)) (c : QCore) : (l.foldl (fun c p => c.inReg p.1 p.2) c).timer = c.timer := by
  induction l generalizing c with
  | nil => rfl
  | cons p l ih => simp only [List.foldl_cons, ih, QCore.inReg_timer]
@[simp] theorem landFold_pm (l : List (Nat × Word)) (c : QCore) : (l.foldl (fun c p => c.inReg p.1 p.2) c).pm = c.pm := by
  induction l generalizing c with
  | nil => rfl
  | cons p l ih => simp only [List.foldl_cons, ih, QCore.inReg_pm]
@[simp] theorem landFold_pmBad (l : List (Nat × Word)) (c : QCore) : (l.foldl (fun c p => c.inReg p.1 p.2) c).pmBad = c.pmBad := by
  induction l generalizing c with
  | nil => rfl
  | cons p l ih => simp only [List.foldl_cons, ih, QCore.inReg_pmBad]
@[simp] theorem landFold_prog (l : List (Nat × Word)) (c : QCore) : (l.foldl (fun c p => c.inReg p.1 p.2) c).prog = c.prog := by
  induction l generalizing c with
  | nil => rfl
  | cons p l ih => simp only [List.foldl_cons, ih, QCore.inReg_prog]
@[simp] theorem landFold_land (l : List (Nat × Word)) (c : QCore) : (l.foldl (fun c p => c.inReg p.1 p.2) c).land = c.land := by
  induction l generalizing c with
  | nil => rfl
  | cons p l ih => simp only [List.foldl_cons, ih, QCore.inReg_land]
@[simp] theorem landFold_delay (l : List (Nat × Word)) (c : QCore) : (l.foldl (fun c p => c.inReg p.1 p.2) c).delay = c.delay := by
  induction l generalizing c with
  | nil => rfl
  | cons p l ih => simp only [List.foldl_cons, ih, QCore.inReg_delay]
@[simp] theorem landFold_inRep (l : List (Nat × Word)) (c : QCore) : (l.foldl (fun c p => c.inReg p.1 p.2) c).inRep = c.inRep := by
  induction l generalizing c with
  | nil => rfl
  | cons p l ih => simp only [List.foldl_cons, ih, QCore.inReg_inRep]
@[simp] theorem landFold_repTail (l : List (Nat × Word)) (c : QCore) : (l.foldl (fun c p => c.inReg p.1 p.2) c).repTail = c.repTail := by
  induction l generalizing c with
  | nil => rfl
  | cons p l ih => simp only [List.foldl_cons, ih, QCore.inReg_repTail]
@[simp] theorem landFold_waiting (l : List (Nat × Word)) (c : QCore) : (l.foldl (fun c p => c.inReg p.1 p.2) c).waiting = c.waiting := by
  induction l generalizing c with
  | nil => rfl
  | cons p l ih => simp only [List.foldl_cons, ih, QCore.inReg_waiting]
@[simp] theorem landFold_hold (l : List (Nat × Word)) (c : QCore) : (l.foldl (fun c p => c.inReg p.1 p.2) c).hold = c.hold := by
  induction l generalizing c with
  | nil => rfl
  | cons p l ih => simp only [List.foldl_cons, ih, QCore.inReg_hold]
@[simp] theorem landFold_stall (l : List (Nat × Word)) (c : QCore) : (l.foldl (fun c p => c.inReg p.1 p.2) c).stall = c.stall := by
  induction l generalizing c with
  | nil => rfl
  | cons p l ih => simp only [List.foldl_cons, ih, QCore.inReg_stall]
@[simp] theorem landFold_wbuf (l : List (Nat × Word)) (c : QCore) : (l.foldl (fun c p => c.inReg p.1 p.2) c).wbuf = c.wbuf := by
  induction l generalizing c with
  | nil => rfl
  | cons p l ih => simp only [List.foldl_cons, ih, QCore.inReg_wbuf]
@[simp] theorem landFold_bufWait (l : List (Nat × Word)) (c : QCore) : (l.foldl (fun c p => c.inReg p.1 p.2) c).bufWait = c.bufWait := by
  induction l generalizing c with
  | nil => rfl
  | cons p l ih => simp only [List.foldl_cons, ih, QCore.inReg_bufWait]
@[simp] theorem landFold_haltReq (l : List (Nat × Word)) (c : QCore) : (l.foldl (fun c p => c.inReg p.1 p.2) c).haltReq = c.haltReq := by
  induction l generalizing c with
  | nil => rfl
  | cons p l ih => simp only [List.foldl_cons, ih, QCore.inReg_haltReq]
@[simp] theorem landFold_submit (l : List (Nat × Word)) (c : QCore) : (l.foldl (fun c p => c.inReg p.1 p.2) c).submit = c.submit := by
  induction l generalizing c with
  | nil => rfl
  | cons p l ih => simp only [List.foldl_cons, ih, QCore.inReg_submit]

/-! SV and the post-modification. -/

@[simp] theorem setSV_st (b : Bool) (c : QCore) : (setSV b c).st = c.st := by unfold setSV; split <;> rfl
@[simp] theorem setSV_cause (b : Bool) (c : QCore) : (setSV b c).cause = c.cause := by unfold setSV; split <;> rfl
@[simp] theorem setSV_pc (b : Bool) (c : QCore) : (setSV b c).pc = c.pc := by unfold setSV; split <;> rfl
@[simp] theorem setSV_lastPc (b : Bool) (c : QCore) : (setSV b c).lastPc = c.lastPc := by unfold setSV; split <;> rfl
@[simp] theorem setSV_d (b : Bool) (c : QCore) : (setSV b c).d = c.d := by unfold setSV; split <;> rfl
@[simp] theorem setSV_a (b : Bool) (c : QCore) : (setSV b c).a = c.a := by unfold setSV; split <;> rfl
@[simp] theorem setSV_m (b : Bool) (c : QCore) : (setSV b c).m = c.m := by unfold setSV; split <;> rfl
@[simp] theorem setSV_ac (b : Bool) (c : QCore) : (setSV b c).ac = c.ac := by unfold setSV; split <;> rfl
@[simp] theorem setSV_acm (b : Bool) (c : QCore) : (setSV b c).acm = c.acm := by unfold setSV; split <;> rfl
@[simp] theorem setSV_acBusy (b : Bool) (c : QCore) : (setSV b c).acBusy = c.acBusy := by unfold setSV; split <;> rfl
@[simp] theorem setSV_lc (b : Bool) (c : QCore) : (setSV b c).lc = c.lc := by unfold setSV; split <;> rfl
@[simp] theorem setSV_ls (b : Bool) (c : QCore) : (setSV b c).ls = c.ls := by unfold setSV; split <;> rfl
@[simp] theorem setSV_le (b : Bool) (c : QCore) : (setSV b c).le = c.le := by unfold setSV; split <;> rfl
@[simp] theorem setSV_iv (b : Bool) (c : QCore) : (setSV b c).iv = c.iv := by unfold setSV; split <;> rfl
@[simp] theorem setSV_ipend (b : Bool) (c : QCore) : (setSV b c).ipend = c.ipend := by unfold setSV; split <;> rfl
@[simp] theorem setSV_imask (b : Bool) (c : QCore) : (setSV b c).imask = c.imask := by unfold setSV; split <;> rfl
@[simp] theorem setSV_epc (b : Bool) (c : QCore) : (setSV b c).epc = c.epc := by unfold setSV; split <;> rfl
@[simp] theorem setSV_est (b : Bool) (c : QCore) : (setSV b c).est = c.est := by unfold setSV; split <;> rfl
@[simp] theorem setSV_timer (b : Bool) (c : QCore) : (setSV b c).timer = c.timer := by unfold setSV; split <;> rfl
@[simp] theorem setSV_pm (b : Bool) (c : QCore) : (setSV b c).pm = c.pm := by unfold setSV; split <;> rfl
@[simp] theorem setSV_pmBad (b : Bool) (c : QCore) : (setSV b c).pmBad = c.pmBad := by unfold setSV; split <;> rfl
@[simp] theorem setSV_prog (b : Bool) (c : QCore) : (setSV b c).prog = c.prog := by unfold setSV; split <;> rfl
@[simp] theorem setSV_land (b : Bool) (c : QCore) : (setSV b c).land = c.land := by unfold setSV; split <;> rfl
@[simp] theorem setSV_delay (b : Bool) (c : QCore) : (setSV b c).delay = c.delay := by unfold setSV; split <;> rfl
@[simp] theorem setSV_inRep (b : Bool) (c : QCore) : (setSV b c).inRep = c.inRep := by unfold setSV; split <;> rfl
@[simp] theorem setSV_repTail (b : Bool) (c : QCore) : (setSV b c).repTail = c.repTail := by unfold setSV; split <;> rfl
@[simp] theorem setSV_waiting (b : Bool) (c : QCore) : (setSV b c).waiting = c.waiting := by unfold setSV; split <;> rfl
@[simp] theorem setSV_hold (b : Bool) (c : QCore) : (setSV b c).hold = c.hold := by unfold setSV; split <;> rfl
@[simp] theorem setSV_stall (b : Bool) (c : QCore) : (setSV b c).stall = c.stall := by unfold setSV; split <;> rfl
@[simp] theorem setSV_wbuf (b : Bool) (c : QCore) : (setSV b c).wbuf = c.wbuf := by unfold setSV; split <;> rfl
@[simp] theorem setSV_bufWait (b : Bool) (c : QCore) : (setSV b c).bufWait = c.bufWait := by unfold setSV; split <;> rfl
@[simp] theorem setSV_haltReq (b : Bool) (c : QCore) : (setSV b c).haltReq = c.haltReq := by unfold setSV; split <;> rfl
@[simp] theorem setSV_submit (b : Bool) (c : QCore) : (setSV b c).submit = c.submit := by unfold setSV; split <;> rfl

@[simp] theorem withPost_st (c0 c : QCore) (an mm : Nat) (pm : Bool) : (withPost c0 c an mm pm).st = c.st := by unfold withPost; split <;> rfl
@[simp] theorem withPost_cause (c0 c : QCore) (an mm : Nat) (pm : Bool) : (withPost c0 c an mm pm).cause = c.cause := by unfold withPost; split <;> rfl
@[simp] theorem withPost_pc (c0 c : QCore) (an mm : Nat) (pm : Bool) : (withPost c0 c an mm pm).pc = c.pc := by unfold withPost; split <;> rfl
@[simp] theorem withPost_lastPc (c0 c : QCore) (an mm : Nat) (pm : Bool) : (withPost c0 c an mm pm).lastPc = c.lastPc := by unfold withPost; split <;> rfl
@[simp] theorem withPost_d (c0 c : QCore) (an mm : Nat) (pm : Bool) : (withPost c0 c an mm pm).d = c.d := by unfold withPost; split <;> rfl
@[simp] theorem withPost_m (c0 c : QCore) (an mm : Nat) (pm : Bool) : (withPost c0 c an mm pm).m = c.m := by unfold withPost; split <;> rfl
@[simp] theorem withPost_ac (c0 c : QCore) (an mm : Nat) (pm : Bool) : (withPost c0 c an mm pm).ac = c.ac := by unfold withPost; split <;> rfl
@[simp] theorem withPost_acm (c0 c : QCore) (an mm : Nat) (pm : Bool) : (withPost c0 c an mm pm).acm = c.acm := by unfold withPost; split <;> rfl
@[simp] theorem withPost_acBusy (c0 c : QCore) (an mm : Nat) (pm : Bool) : (withPost c0 c an mm pm).acBusy = c.acBusy := by unfold withPost; split <;> rfl
@[simp] theorem withPost_lc (c0 c : QCore) (an mm : Nat) (pm : Bool) : (withPost c0 c an mm pm).lc = c.lc := by unfold withPost; split <;> rfl
@[simp] theorem withPost_ls (c0 c : QCore) (an mm : Nat) (pm : Bool) : (withPost c0 c an mm pm).ls = c.ls := by unfold withPost; split <;> rfl
@[simp] theorem withPost_le (c0 c : QCore) (an mm : Nat) (pm : Bool) : (withPost c0 c an mm pm).le = c.le := by unfold withPost; split <;> rfl
@[simp] theorem withPost_sr (c0 c : QCore) (an mm : Nat) (pm : Bool) : (withPost c0 c an mm pm).sr = c.sr := by unfold withPost; split <;> rfl
@[simp] theorem withPost_iv (c0 c : QCore) (an mm : Nat) (pm : Bool) : (withPost c0 c an mm pm).iv = c.iv := by unfold withPost; split <;> rfl
@[simp] theorem withPost_ipend (c0 c : QCore) (an mm : Nat) (pm : Bool) : (withPost c0 c an mm pm).ipend = c.ipend := by unfold withPost; split <;> rfl
@[simp] theorem withPost_imask (c0 c : QCore) (an mm : Nat) (pm : Bool) : (withPost c0 c an mm pm).imask = c.imask := by unfold withPost; split <;> rfl
@[simp] theorem withPost_epc (c0 c : QCore) (an mm : Nat) (pm : Bool) : (withPost c0 c an mm pm).epc = c.epc := by unfold withPost; split <;> rfl
@[simp] theorem withPost_est (c0 c : QCore) (an mm : Nat) (pm : Bool) : (withPost c0 c an mm pm).est = c.est := by unfold withPost; split <;> rfl
@[simp] theorem withPost_timer (c0 c : QCore) (an mm : Nat) (pm : Bool) : (withPost c0 c an mm pm).timer = c.timer := by unfold withPost; split <;> rfl
@[simp] theorem withPost_pm (c0 c : QCore) (an mm : Nat) (pm : Bool) : (withPost c0 c an mm pm).pm = c.pm := by unfold withPost; split <;> rfl
@[simp] theorem withPost_pmBad (c0 c : QCore) (an mm : Nat) (pm : Bool) : (withPost c0 c an mm pm).pmBad = c.pmBad := by unfold withPost; split <;> rfl
@[simp] theorem withPost_prog (c0 c : QCore) (an mm : Nat) (pm : Bool) : (withPost c0 c an mm pm).prog = c.prog := by unfold withPost; split <;> rfl
@[simp] theorem withPost_land (c0 c : QCore) (an mm : Nat) (pm : Bool) : (withPost c0 c an mm pm).land = c.land := by unfold withPost; split <;> rfl
@[simp] theorem withPost_delay (c0 c : QCore) (an mm : Nat) (pm : Bool) : (withPost c0 c an mm pm).delay = c.delay := by unfold withPost; split <;> rfl
@[simp] theorem withPost_inRep (c0 c : QCore) (an mm : Nat) (pm : Bool) : (withPost c0 c an mm pm).inRep = c.inRep := by unfold withPost; split <;> rfl
@[simp] theorem withPost_repTail (c0 c : QCore) (an mm : Nat) (pm : Bool) : (withPost c0 c an mm pm).repTail = c.repTail := by unfold withPost; split <;> rfl
@[simp] theorem withPost_waiting (c0 c : QCore) (an mm : Nat) (pm : Bool) : (withPost c0 c an mm pm).waiting = c.waiting := by unfold withPost; split <;> rfl
@[simp] theorem withPost_hold (c0 c : QCore) (an mm : Nat) (pm : Bool) : (withPost c0 c an mm pm).hold = c.hold := by unfold withPost; split <;> rfl
@[simp] theorem withPost_stall (c0 c : QCore) (an mm : Nat) (pm : Bool) : (withPost c0 c an mm pm).stall = c.stall := by unfold withPost; split <;> rfl
@[simp] theorem withPost_wbuf (c0 c : QCore) (an mm : Nat) (pm : Bool) : (withPost c0 c an mm pm).wbuf = c.wbuf := by unfold withPost; split <;> rfl
@[simp] theorem withPost_bufWait (c0 c : QCore) (an mm : Nat) (pm : Bool) : (withPost c0 c an mm pm).bufWait = c.bufWait := by unfold withPost; split <;> rfl
@[simp] theorem withPost_haltReq (c0 c : QCore) (an mm : Nat) (pm : Bool) : (withPost c0 c an mm pm).haltReq = c.haltReq := by unfold withPost; split <;> rfl
@[simp] theorem withPost_submit (c0 c : QCore) (an mm : Nat) (pm : Bool) : (withPost c0 c an mm pm).submit = c.submit := by unfold withPost; split <;> rfl

/-- R245: the Y slot writes only D, A and M registers, the status register and IV. -/
theorem yRegs_eq (s : State) (k : Nat) (c0 : QCore) (y : YOp) (c : QCore) :
    ∃ d a m sr iv, yRegs s k c0 y c = { c with d := d, a := a, m := m, sr := sr, iv := iv } := by
  have hi : ∀ (c : QCore) (n : Nat) (w : Word), ∃ d a m sr iv, c.inReg n w = { c with d := d, a := a, m := m, sr := sr, iv := iv } := by
    intro c n w
    unfold QCore.inReg
    (repeat' split) <;> exact ⟨_, _, _, _, _, rfl⟩
  have hp : ∀ (c : QCore) (an mm : Nat) (pm : Bool), ∃ a, withPost c0 c an mm pm = { c with a := a } := by
    intro c an mm pm
    unfold withPost
    split <;> exact ⟨_, rfl⟩
  have hv : ∀ (b : Bool) (c : QCore), ∃ sr, setSV b c = { c with sr := sr } := by
    intro b c
    unfold setSV
    split <;> exact ⟨_, rfl⟩
  cases y
  case mov dst src => exact hi ..
  case ld r an mm pm => obtain ⟨a, h⟩ := hp c an mm pm; exact ⟨_, a, _, _, _, h⟩
  case st r an mm pm => obtain ⟨a, h⟩ := hp c an mm pm; exact ⟨_, a, _, _, _, h⟩
  case stac ac an mm pm =>
    obtain ⟨a, h⟩ := hp c an mm pm
    obtain ⟨sr, h'⟩ := hv (acMove c0.sr.toNat (nth 0 c0.acm ac)).2 (withPost c0 c an mm pm)
    exact ⟨_, a, _, sr, _, h'.trans (by rw [h])⟩
  case stacs ac a => obtain ⟨sr, h⟩ := hv (acMove c0.sr.toNat (nth 0 c0.acm ac)).2 c; exact ⟨_, _, _, sr, _, h⟩
  case mvac d ac =>
    obtain ⟨sr, h⟩ := hv (acMove c0.sr.toNat (nth 0 c0.acm ac)).2 { c with d := upd c.d d (acMove c0.sr.toNat (nth 0 c0.acm ac)).1 }
    exact ⟨_, _, _, sr, _, h⟩
  all_goals exact ⟨_, _, _, _, _, rfl⟩

/-! The fields that the Y slot leaves. -/

@[simp] theorem yRegs_st (s : State) (k : Nat) (c0 : QCore) (y : YOp) (c : QCore) : (yRegs s k c0 y c).st = c.st := by obtain ⟨_, _, _, _, _, h⟩ := yRegs_eq s k c0 y c; rw [h]
@[simp] theorem yRegs_cause (s : State) (k : Nat) (c0 : QCore) (y : YOp) (c : QCore) : (yRegs s k c0 y c).cause = c.cause := by obtain ⟨_, _, _, _, _, h⟩ := yRegs_eq s k c0 y c; rw [h]
@[simp] theorem yRegs_pc (s : State) (k : Nat) (c0 : QCore) (y : YOp) (c : QCore) : (yRegs s k c0 y c).pc = c.pc := by obtain ⟨_, _, _, _, _, h⟩ := yRegs_eq s k c0 y c; rw [h]
@[simp] theorem yRegs_lastPc (s : State) (k : Nat) (c0 : QCore) (y : YOp) (c : QCore) : (yRegs s k c0 y c).lastPc = c.lastPc := by obtain ⟨_, _, _, _, _, h⟩ := yRegs_eq s k c0 y c; rw [h]
@[simp] theorem yRegs_ac (s : State) (k : Nat) (c0 : QCore) (y : YOp) (c : QCore) : (yRegs s k c0 y c).ac = c.ac := by obtain ⟨_, _, _, _, _, h⟩ := yRegs_eq s k c0 y c; rw [h]
@[simp] theorem yRegs_acm (s : State) (k : Nat) (c0 : QCore) (y : YOp) (c : QCore) : (yRegs s k c0 y c).acm = c.acm := by obtain ⟨_, _, _, _, _, h⟩ := yRegs_eq s k c0 y c; rw [h]
@[simp] theorem yRegs_acBusy (s : State) (k : Nat) (c0 : QCore) (y : YOp) (c : QCore) : (yRegs s k c0 y c).acBusy = c.acBusy := by obtain ⟨_, _, _, _, _, h⟩ := yRegs_eq s k c0 y c; rw [h]
@[simp] theorem yRegs_lc (s : State) (k : Nat) (c0 : QCore) (y : YOp) (c : QCore) : (yRegs s k c0 y c).lc = c.lc := by obtain ⟨_, _, _, _, _, h⟩ := yRegs_eq s k c0 y c; rw [h]
@[simp] theorem yRegs_ls (s : State) (k : Nat) (c0 : QCore) (y : YOp) (c : QCore) : (yRegs s k c0 y c).ls = c.ls := by obtain ⟨_, _, _, _, _, h⟩ := yRegs_eq s k c0 y c; rw [h]
@[simp] theorem yRegs_le (s : State) (k : Nat) (c0 : QCore) (y : YOp) (c : QCore) : (yRegs s k c0 y c).le = c.le := by obtain ⟨_, _, _, _, _, h⟩ := yRegs_eq s k c0 y c; rw [h]
@[simp] theorem yRegs_ipend (s : State) (k : Nat) (c0 : QCore) (y : YOp) (c : QCore) : (yRegs s k c0 y c).ipend = c.ipend := by obtain ⟨_, _, _, _, _, h⟩ := yRegs_eq s k c0 y c; rw [h]
@[simp] theorem yRegs_imask (s : State) (k : Nat) (c0 : QCore) (y : YOp) (c : QCore) : (yRegs s k c0 y c).imask = c.imask := by obtain ⟨_, _, _, _, _, h⟩ := yRegs_eq s k c0 y c; rw [h]
@[simp] theorem yRegs_epc (s : State) (k : Nat) (c0 : QCore) (y : YOp) (c : QCore) : (yRegs s k c0 y c).epc = c.epc := by obtain ⟨_, _, _, _, _, h⟩ := yRegs_eq s k c0 y c; rw [h]
@[simp] theorem yRegs_est (s : State) (k : Nat) (c0 : QCore) (y : YOp) (c : QCore) : (yRegs s k c0 y c).est = c.est := by obtain ⟨_, _, _, _, _, h⟩ := yRegs_eq s k c0 y c; rw [h]
@[simp] theorem yRegs_timer (s : State) (k : Nat) (c0 : QCore) (y : YOp) (c : QCore) : (yRegs s k c0 y c).timer = c.timer := by obtain ⟨_, _, _, _, _, h⟩ := yRegs_eq s k c0 y c; rw [h]
@[simp] theorem yRegs_pm (s : State) (k : Nat) (c0 : QCore) (y : YOp) (c : QCore) : (yRegs s k c0 y c).pm = c.pm := by obtain ⟨_, _, _, _, _, h⟩ := yRegs_eq s k c0 y c; rw [h]
@[simp] theorem yRegs_pmBad (s : State) (k : Nat) (c0 : QCore) (y : YOp) (c : QCore) : (yRegs s k c0 y c).pmBad = c.pmBad := by obtain ⟨_, _, _, _, _, h⟩ := yRegs_eq s k c0 y c; rw [h]
@[simp] theorem yRegs_prog (s : State) (k : Nat) (c0 : QCore) (y : YOp) (c : QCore) : (yRegs s k c0 y c).prog = c.prog := by obtain ⟨_, _, _, _, _, h⟩ := yRegs_eq s k c0 y c; rw [h]
@[simp] theorem yRegs_land (s : State) (k : Nat) (c0 : QCore) (y : YOp) (c : QCore) : (yRegs s k c0 y c).land = c.land := by obtain ⟨_, _, _, _, _, h⟩ := yRegs_eq s k c0 y c; rw [h]
@[simp] theorem yRegs_delay (s : State) (k : Nat) (c0 : QCore) (y : YOp) (c : QCore) : (yRegs s k c0 y c).delay = c.delay := by obtain ⟨_, _, _, _, _, h⟩ := yRegs_eq s k c0 y c; rw [h]
@[simp] theorem yRegs_inRep (s : State) (k : Nat) (c0 : QCore) (y : YOp) (c : QCore) : (yRegs s k c0 y c).inRep = c.inRep := by obtain ⟨_, _, _, _, _, h⟩ := yRegs_eq s k c0 y c; rw [h]
@[simp] theorem yRegs_repTail (s : State) (k : Nat) (c0 : QCore) (y : YOp) (c : QCore) : (yRegs s k c0 y c).repTail = c.repTail := by obtain ⟨_, _, _, _, _, h⟩ := yRegs_eq s k c0 y c; rw [h]
@[simp] theorem yRegs_waiting (s : State) (k : Nat) (c0 : QCore) (y : YOp) (c : QCore) : (yRegs s k c0 y c).waiting = c.waiting := by obtain ⟨_, _, _, _, _, h⟩ := yRegs_eq s k c0 y c; rw [h]
@[simp] theorem yRegs_hold (s : State) (k : Nat) (c0 : QCore) (y : YOp) (c : QCore) : (yRegs s k c0 y c).hold = c.hold := by obtain ⟨_, _, _, _, _, h⟩ := yRegs_eq s k c0 y c; rw [h]
@[simp] theorem yRegs_stall (s : State) (k : Nat) (c0 : QCore) (y : YOp) (c : QCore) : (yRegs s k c0 y c).stall = c.stall := by obtain ⟨_, _, _, _, _, h⟩ := yRegs_eq s k c0 y c; rw [h]
@[simp] theorem yRegs_wbuf (s : State) (k : Nat) (c0 : QCore) (y : YOp) (c : QCore) : (yRegs s k c0 y c).wbuf = c.wbuf := by obtain ⟨_, _, _, _, _, h⟩ := yRegs_eq s k c0 y c; rw [h]
@[simp] theorem yRegs_bufWait (s : State) (k : Nat) (c0 : QCore) (y : YOp) (c : QCore) : (yRegs s k c0 y c).bufWait = c.bufWait := by obtain ⟨_, _, _, _, _, h⟩ := yRegs_eq s k c0 y c; rw [h]
@[simp] theorem yRegs_haltReq (s : State) (k : Nat) (c0 : QCore) (y : YOp) (c : QCore) : (yRegs s k c0 y c).haltReq = c.haltReq := by obtain ⟨_, _, _, _, _, h⟩ := yRegs_eq s k c0 y c; rw [h]
@[simp] theorem yRegs_submit (s : State) (k : Nat) (c0 : QCore) (y : YOp) (c : QCore) : (yRegs s k c0 y c).submit = c.submit := by obtain ⟨_, _, _, _, _, h⟩ := yRegs_eq s k c0 y c; rw [h]

/-! What the bundle sees and the loads that have landed. -/

/-! BRK and a breakpoint only request a halt. -/

@[simp] theorem bundleHalt_st (s : State) (k : Nat) (y : YOp) (c0 c : QCore) : (bundleHalt s k y c0 c).st = c.st := by unfold bundleHalt; split <;> rfl
@[simp] theorem bundleHalt_cause (s : State) (k : Nat) (y : YOp) (c0 c : QCore) : (bundleHalt s k y c0 c).cause = c.cause := by unfold bundleHalt; split <;> rfl
@[simp] theorem bundleHalt_pc (s : State) (k : Nat) (y : YOp) (c0 c : QCore) : (bundleHalt s k y c0 c).pc = c.pc := by unfold bundleHalt; split <;> rfl
@[simp] theorem bundleHalt_lastPc (s : State) (k : Nat) (y : YOp) (c0 c : QCore) : (bundleHalt s k y c0 c).lastPc = c.lastPc := by unfold bundleHalt; split <;> rfl
@[simp] theorem bundleHalt_d (s : State) (k : Nat) (y : YOp) (c0 c : QCore) : (bundleHalt s k y c0 c).d = c.d := by unfold bundleHalt; split <;> rfl
@[simp] theorem bundleHalt_a (s : State) (k : Nat) (y : YOp) (c0 c : QCore) : (bundleHalt s k y c0 c).a = c.a := by unfold bundleHalt; split <;> rfl
@[simp] theorem bundleHalt_m (s : State) (k : Nat) (y : YOp) (c0 c : QCore) : (bundleHalt s k y c0 c).m = c.m := by unfold bundleHalt; split <;> rfl
@[simp] theorem bundleHalt_ac (s : State) (k : Nat) (y : YOp) (c0 c : QCore) : (bundleHalt s k y c0 c).ac = c.ac := by unfold bundleHalt; split <;> rfl
@[simp] theorem bundleHalt_acm (s : State) (k : Nat) (y : YOp) (c0 c : QCore) : (bundleHalt s k y c0 c).acm = c.acm := by unfold bundleHalt; split <;> rfl
@[simp] theorem bundleHalt_acBusy (s : State) (k : Nat) (y : YOp) (c0 c : QCore) : (bundleHalt s k y c0 c).acBusy = c.acBusy := by unfold bundleHalt; split <;> rfl
@[simp] theorem bundleHalt_lc (s : State) (k : Nat) (y : YOp) (c0 c : QCore) : (bundleHalt s k y c0 c).lc = c.lc := by unfold bundleHalt; split <;> rfl
@[simp] theorem bundleHalt_ls (s : State) (k : Nat) (y : YOp) (c0 c : QCore) : (bundleHalt s k y c0 c).ls = c.ls := by unfold bundleHalt; split <;> rfl
@[simp] theorem bundleHalt_le (s : State) (k : Nat) (y : YOp) (c0 c : QCore) : (bundleHalt s k y c0 c).le = c.le := by unfold bundleHalt; split <;> rfl
@[simp] theorem bundleHalt_sr (s : State) (k : Nat) (y : YOp) (c0 c : QCore) : (bundleHalt s k y c0 c).sr = c.sr := by unfold bundleHalt; split <;> rfl
@[simp] theorem bundleHalt_iv (s : State) (k : Nat) (y : YOp) (c0 c : QCore) : (bundleHalt s k y c0 c).iv = c.iv := by unfold bundleHalt; split <;> rfl
@[simp] theorem bundleHalt_ipend (s : State) (k : Nat) (y : YOp) (c0 c : QCore) : (bundleHalt s k y c0 c).ipend = c.ipend := by unfold bundleHalt; split <;> rfl
@[simp] theorem bundleHalt_imask (s : State) (k : Nat) (y : YOp) (c0 c : QCore) : (bundleHalt s k y c0 c).imask = c.imask := by unfold bundleHalt; split <;> rfl
@[simp] theorem bundleHalt_epc (s : State) (k : Nat) (y : YOp) (c0 c : QCore) : (bundleHalt s k y c0 c).epc = c.epc := by unfold bundleHalt; split <;> rfl
@[simp] theorem bundleHalt_est (s : State) (k : Nat) (y : YOp) (c0 c : QCore) : (bundleHalt s k y c0 c).est = c.est := by unfold bundleHalt; split <;> rfl
@[simp] theorem bundleHalt_timer (s : State) (k : Nat) (y : YOp) (c0 c : QCore) : (bundleHalt s k y c0 c).timer = c.timer := by unfold bundleHalt; split <;> rfl
@[simp] theorem bundleHalt_pm (s : State) (k : Nat) (y : YOp) (c0 c : QCore) : (bundleHalt s k y c0 c).pm = c.pm := by unfold bundleHalt; split <;> rfl
@[simp] theorem bundleHalt_pmBad (s : State) (k : Nat) (y : YOp) (c0 c : QCore) : (bundleHalt s k y c0 c).pmBad = c.pmBad := by unfold bundleHalt; split <;> rfl
@[simp] theorem bundleHalt_prog (s : State) (k : Nat) (y : YOp) (c0 c : QCore) : (bundleHalt s k y c0 c).prog = c.prog := by unfold bundleHalt; split <;> rfl
@[simp] theorem bundleHalt_land (s : State) (k : Nat) (y : YOp) (c0 c : QCore) : (bundleHalt s k y c0 c).land = c.land := by unfold bundleHalt; split <;> rfl
@[simp] theorem bundleHalt_delay (s : State) (k : Nat) (y : YOp) (c0 c : QCore) : (bundleHalt s k y c0 c).delay = c.delay := by unfold bundleHalt; split <;> rfl
@[simp] theorem bundleHalt_inRep (s : State) (k : Nat) (y : YOp) (c0 c : QCore) : (bundleHalt s k y c0 c).inRep = c.inRep := by unfold bundleHalt; split <;> rfl
@[simp] theorem bundleHalt_repTail (s : State) (k : Nat) (y : YOp) (c0 c : QCore) : (bundleHalt s k y c0 c).repTail = c.repTail := by unfold bundleHalt; split <;> rfl
@[simp] theorem bundleHalt_waiting (s : State) (k : Nat) (y : YOp) (c0 c : QCore) : (bundleHalt s k y c0 c).waiting = c.waiting := by unfold bundleHalt; split <;> rfl
@[simp] theorem bundleHalt_hold (s : State) (k : Nat) (y : YOp) (c0 c : QCore) : (bundleHalt s k y c0 c).hold = c.hold := by unfold bundleHalt; split <;> rfl
@[simp] theorem bundleHalt_stall (s : State) (k : Nat) (y : YOp) (c0 c : QCore) : (bundleHalt s k y c0 c).stall = c.stall := by unfold bundleHalt; split <;> rfl
@[simp] theorem bundleHalt_wbuf (s : State) (k : Nat) (y : YOp) (c0 c : QCore) : (bundleHalt s k y c0 c).wbuf = c.wbuf := by unfold bundleHalt; split <;> rfl
@[simp] theorem bundleHalt_bufWait (s : State) (k : Nat) (y : YOp) (c0 c : QCore) : (bundleHalt s k y c0 c).bufWait = c.bufWait := by unfold bundleHalt; split <;> rfl
@[simp] theorem bundleHalt_submit (s : State) (k : Nat) (y : YOp) (c0 c : QCore) : (bundleHalt s k y c0 c).submit = c.submit := by unfold bundleHalt; split <;> rfl

/-! WRAC writes only an accumulator. -/

@[simp] theorem wracLand_st (c0 : QCore) (x : XRes) (y : YOp) (c : QCore) : (wracLand c0 x y c).st = c.st := by unfold wracLand; (repeat' split) <;> rfl
@[simp] theorem wracLand_cause (c0 : QCore) (x : XRes) (y : YOp) (c : QCore) : (wracLand c0 x y c).cause = c.cause := by unfold wracLand; (repeat' split) <;> rfl
@[simp] theorem wracLand_pc (c0 : QCore) (x : XRes) (y : YOp) (c : QCore) : (wracLand c0 x y c).pc = c.pc := by unfold wracLand; (repeat' split) <;> rfl
@[simp] theorem wracLand_lastPc (c0 : QCore) (x : XRes) (y : YOp) (c : QCore) : (wracLand c0 x y c).lastPc = c.lastPc := by unfold wracLand; (repeat' split) <;> rfl
@[simp] theorem wracLand_d (c0 : QCore) (x : XRes) (y : YOp) (c : QCore) : (wracLand c0 x y c).d = c.d := by unfold wracLand; (repeat' split) <;> rfl
@[simp] theorem wracLand_a (c0 : QCore) (x : XRes) (y : YOp) (c : QCore) : (wracLand c0 x y c).a = c.a := by unfold wracLand; (repeat' split) <;> rfl
@[simp] theorem wracLand_m (c0 : QCore) (x : XRes) (y : YOp) (c : QCore) : (wracLand c0 x y c).m = c.m := by unfold wracLand; (repeat' split) <;> rfl
@[simp] theorem wracLand_acm (c0 : QCore) (x : XRes) (y : YOp) (c : QCore) : (wracLand c0 x y c).acm = c.acm := by unfold wracLand; (repeat' split) <;> rfl
@[simp] theorem wracLand_acBusy (c0 : QCore) (x : XRes) (y : YOp) (c : QCore) : (wracLand c0 x y c).acBusy = c.acBusy := by unfold wracLand; (repeat' split) <;> rfl
@[simp] theorem wracLand_lc (c0 : QCore) (x : XRes) (y : YOp) (c : QCore) : (wracLand c0 x y c).lc = c.lc := by unfold wracLand; (repeat' split) <;> rfl
@[simp] theorem wracLand_ls (c0 : QCore) (x : XRes) (y : YOp) (c : QCore) : (wracLand c0 x y c).ls = c.ls := by unfold wracLand; (repeat' split) <;> rfl
@[simp] theorem wracLand_le (c0 : QCore) (x : XRes) (y : YOp) (c : QCore) : (wracLand c0 x y c).le = c.le := by unfold wracLand; (repeat' split) <;> rfl
@[simp] theorem wracLand_sr (c0 : QCore) (x : XRes) (y : YOp) (c : QCore) : (wracLand c0 x y c).sr = c.sr := by unfold wracLand; (repeat' split) <;> rfl
@[simp] theorem wracLand_iv (c0 : QCore) (x : XRes) (y : YOp) (c : QCore) : (wracLand c0 x y c).iv = c.iv := by unfold wracLand; (repeat' split) <;> rfl
@[simp] theorem wracLand_ipend (c0 : QCore) (x : XRes) (y : YOp) (c : QCore) : (wracLand c0 x y c).ipend = c.ipend := by unfold wracLand; (repeat' split) <;> rfl
@[simp] theorem wracLand_imask (c0 : QCore) (x : XRes) (y : YOp) (c : QCore) : (wracLand c0 x y c).imask = c.imask := by unfold wracLand; (repeat' split) <;> rfl
@[simp] theorem wracLand_epc (c0 : QCore) (x : XRes) (y : YOp) (c : QCore) : (wracLand c0 x y c).epc = c.epc := by unfold wracLand; (repeat' split) <;> rfl
@[simp] theorem wracLand_est (c0 : QCore) (x : XRes) (y : YOp) (c : QCore) : (wracLand c0 x y c).est = c.est := by unfold wracLand; (repeat' split) <;> rfl
@[simp] theorem wracLand_timer (c0 : QCore) (x : XRes) (y : YOp) (c : QCore) : (wracLand c0 x y c).timer = c.timer := by unfold wracLand; (repeat' split) <;> rfl
@[simp] theorem wracLand_pm (c0 : QCore) (x : XRes) (y : YOp) (c : QCore) : (wracLand c0 x y c).pm = c.pm := by unfold wracLand; (repeat' split) <;> rfl
@[simp] theorem wracLand_pmBad (c0 : QCore) (x : XRes) (y : YOp) (c : QCore) : (wracLand c0 x y c).pmBad = c.pmBad := by unfold wracLand; (repeat' split) <;> rfl
@[simp] theorem wracLand_prog (c0 : QCore) (x : XRes) (y : YOp) (c : QCore) : (wracLand c0 x y c).prog = c.prog := by unfold wracLand; (repeat' split) <;> rfl
@[simp] theorem wracLand_land (c0 : QCore) (x : XRes) (y : YOp) (c : QCore) : (wracLand c0 x y c).land = c.land := by unfold wracLand; (repeat' split) <;> rfl
@[simp] theorem wracLand_delay (c0 : QCore) (x : XRes) (y : YOp) (c : QCore) : (wracLand c0 x y c).delay = c.delay := by unfold wracLand; (repeat' split) <;> rfl
@[simp] theorem wracLand_inRep (c0 : QCore) (x : XRes) (y : YOp) (c : QCore) : (wracLand c0 x y c).inRep = c.inRep := by unfold wracLand; (repeat' split) <;> rfl
@[simp] theorem wracLand_repTail (c0 : QCore) (x : XRes) (y : YOp) (c : QCore) : (wracLand c0 x y c).repTail = c.repTail := by unfold wracLand; (repeat' split) <;> rfl
@[simp] theorem wracLand_waiting (c0 : QCore) (x : XRes) (y : YOp) (c : QCore) : (wracLand c0 x y c).waiting = c.waiting := by unfold wracLand; (repeat' split) <;> rfl
@[simp] theorem wracLand_hold (c0 : QCore) (x : XRes) (y : YOp) (c : QCore) : (wracLand c0 x y c).hold = c.hold := by unfold wracLand; (repeat' split) <;> rfl
@[simp] theorem wracLand_stall (c0 : QCore) (x : XRes) (y : YOp) (c : QCore) : (wracLand c0 x y c).stall = c.stall := by unfold wracLand; (repeat' split) <;> rfl
@[simp] theorem wracLand_wbuf (c0 : QCore) (x : XRes) (y : YOp) (c : QCore) : (wracLand c0 x y c).wbuf = c.wbuf := by unfold wracLand; (repeat' split) <;> rfl
@[simp] theorem wracLand_bufWait (c0 : QCore) (x : XRes) (y : YOp) (c : QCore) : (wracLand c0 x y c).bufWait = c.bufWait := by unfold wracLand; (repeat' split) <;> rfl
@[simp] theorem wracLand_haltReq (c0 : QCore) (x : XRes) (y : YOp) (c : QCore) : (wracLand c0 x y c).haltReq = c.haltReq := by unfold wracLand; (repeat' split) <;> rfl
@[simp] theorem wracLand_submit (c0 : QCore) (x : XRes) (y : YOp) (c : QCore) : (wracLand c0 x y c).submit = c.submit := by unfold wracLand; (repeat' split) <;> rfl

/-! A control operation writes only the sequencing registers. -/

@[simp] theorem yControl_st (c0 : QCore) (y : YOp) (c : QCore) : (yControl c0 y c).st = c.st := by unfold yControl; cases y <;> dsimp only <;> (repeat' split) <;> rfl
@[simp] theorem yControl_cause (c0 : QCore) (y : YOp) (c : QCore) : (yControl c0 y c).cause = c.cause := by unfold yControl; cases y <;> dsimp only <;> (repeat' split) <;> rfl
@[simp] theorem yControl_lastPc (c0 : QCore) (y : YOp) (c : QCore) : (yControl c0 y c).lastPc = c.lastPc := by unfold yControl; cases y <;> dsimp only <;> (repeat' split) <;> rfl
@[simp] theorem yControl_d (c0 : QCore) (y : YOp) (c : QCore) : (yControl c0 y c).d = c.d := by unfold yControl; cases y <;> dsimp only <;> (repeat' split) <;> rfl
@[simp] theorem yControl_a (c0 : QCore) (y : YOp) (c : QCore) : (yControl c0 y c).a = c.a := by unfold yControl; cases y <;> dsimp only <;> (repeat' split) <;> rfl
@[simp] theorem yControl_m (c0 : QCore) (y : YOp) (c : QCore) : (yControl c0 y c).m = c.m := by unfold yControl; cases y <;> dsimp only <;> (repeat' split) <;> rfl
@[simp] theorem yControl_ac (c0 : QCore) (y : YOp) (c : QCore) : (yControl c0 y c).ac = c.ac := by unfold yControl; cases y <;> dsimp only <;> (repeat' split) <;> rfl
@[simp] theorem yControl_acm (c0 : QCore) (y : YOp) (c : QCore) : (yControl c0 y c).acm = c.acm := by unfold yControl; cases y <;> dsimp only <;> (repeat' split) <;> rfl
@[simp] theorem yControl_acBusy (c0 : QCore) (y : YOp) (c : QCore) : (yControl c0 y c).acBusy = c.acBusy := by unfold yControl; cases y <;> dsimp only <;> (repeat' split) <;> rfl
@[simp] theorem yControl_sr (c0 : QCore) (y : YOp) (c : QCore) : (yControl c0 y c).sr = c.sr := by unfold yControl; cases y <;> dsimp only <;> (repeat' split) <;> rfl
@[simp] theorem yControl_iv (c0 : QCore) (y : YOp) (c : QCore) : (yControl c0 y c).iv = c.iv := by unfold yControl; cases y <;> dsimp only <;> (repeat' split) <;> rfl
@[simp] theorem yControl_ipend (c0 : QCore) (y : YOp) (c : QCore) : (yControl c0 y c).ipend = c.ipend := by unfold yControl; cases y <;> dsimp only <;> (repeat' split) <;> rfl
@[simp] theorem yControl_imask (c0 : QCore) (y : YOp) (c : QCore) : (yControl c0 y c).imask = c.imask := by unfold yControl; cases y <;> dsimp only <;> (repeat' split) <;> rfl
@[simp] theorem yControl_epc (c0 : QCore) (y : YOp) (c : QCore) : (yControl c0 y c).epc = c.epc := by unfold yControl; cases y <;> dsimp only <;> (repeat' split) <;> rfl
@[simp] theorem yControl_est (c0 : QCore) (y : YOp) (c : QCore) : (yControl c0 y c).est = c.est := by unfold yControl; cases y <;> dsimp only <;> (repeat' split) <;> rfl
@[simp] theorem yControl_timer (c0 : QCore) (y : YOp) (c : QCore) : (yControl c0 y c).timer = c.timer := by unfold yControl; cases y <;> dsimp only <;> (repeat' split) <;> rfl
@[simp] theorem yControl_pm (c0 : QCore) (y : YOp) (c : QCore) : (yControl c0 y c).pm = c.pm := by unfold yControl; cases y <;> dsimp only <;> (repeat' split) <;> rfl
@[simp] theorem yControl_pmBad (c0 : QCore) (y : YOp) (c : QCore) : (yControl c0 y c).pmBad = c.pmBad := by unfold yControl; cases y <;> dsimp only <;> (repeat' split) <;> rfl
@[simp] theorem yControl_prog (c0 : QCore) (y : YOp) (c : QCore) : (yControl c0 y c).prog = c.prog := by unfold yControl; cases y <;> dsimp only <;> (repeat' split) <;> rfl
@[simp] theorem yControl_land (c0 : QCore) (y : YOp) (c : QCore) : (yControl c0 y c).land = c.land := by unfold yControl; cases y <;> dsimp only <;> (repeat' split) <;> rfl
@[simp] theorem yControl_hold (c0 : QCore) (y : YOp) (c : QCore) : (yControl c0 y c).hold = c.hold := by unfold yControl; cases y <;> dsimp only <;> (repeat' split) <;> rfl
@[simp] theorem yControl_stall (c0 : QCore) (y : YOp) (c : QCore) : (yControl c0 y c).stall = c.stall := by unfold yControl; cases y <;> dsimp only <;> (repeat' split) <;> rfl
@[simp] theorem yControl_wbuf (c0 : QCore) (y : YOp) (c : QCore) : (yControl c0 y c).wbuf = c.wbuf := by unfold yControl; cases y <;> dsimp only <;> (repeat' split) <;> rfl
@[simp] theorem yControl_bufWait (c0 : QCore) (y : YOp) (c : QCore) : (yControl c0 y c).bufWait = c.bufWait := by unfold yControl; cases y <;> dsimp only <;> (repeat' split) <;> rfl
@[simp] theorem yControl_haltReq (c0 : QCore) (y : YOp) (c : QCore) : (yControl c0 y c).haltReq = c.haltReq := by unfold yControl; cases y <;> dsimp only <;> (repeat' split) <;> rfl
@[simp] theorem yControl_submit (c0 : QCore) (y : YOp) (c : QCore) : (yControl c0 y c).submit = c.submit := by unfold yControl; cases y <;> dsimp only <;> (repeat' split) <;> rfl

/-! The step to the next bundle writes only the sequencing registers, and ST at the end of an RTI. -/

@[simp] theorem advance_st (c0 c : QCore) : (advance c0 c).st = c.st := by unfold advance; (repeat' split) <;> rfl
@[simp] theorem advance_cause (c0 c : QCore) : (advance c0 c).cause = c.cause := by unfold advance; (repeat' split) <;> rfl
@[simp] theorem advance_lastPc (c0 c : QCore) : (advance c0 c).lastPc = c.lastPc := by unfold advance; (repeat' split) <;> rfl
@[simp] theorem advance_d (c0 c : QCore) : (advance c0 c).d = c.d := by unfold advance; (repeat' split) <;> rfl
@[simp] theorem advance_a (c0 c : QCore) : (advance c0 c).a = c.a := by unfold advance; (repeat' split) <;> rfl
@[simp] theorem advance_m (c0 c : QCore) : (advance c0 c).m = c.m := by unfold advance; (repeat' split) <;> rfl
@[simp] theorem advance_ac (c0 c : QCore) : (advance c0 c).ac = c.ac := by unfold advance; (repeat' split) <;> rfl
@[simp] theorem advance_acm (c0 c : QCore) : (advance c0 c).acm = c.acm := by unfold advance; (repeat' split) <;> rfl
@[simp] theorem advance_acBusy (c0 c : QCore) : (advance c0 c).acBusy = c.acBusy := by unfold advance; (repeat' split) <;> rfl
@[simp] theorem advance_ls (c0 c : QCore) : (advance c0 c).ls = c.ls := by unfold advance; (repeat' split) <;> rfl
@[simp] theorem advance_le (c0 c : QCore) : (advance c0 c).le = c.le := by unfold advance; (repeat' split) <;> rfl
@[simp] theorem advance_iv (c0 c : QCore) : (advance c0 c).iv = c.iv := by unfold advance; (repeat' split) <;> rfl
@[simp] theorem advance_ipend (c0 c : QCore) : (advance c0 c).ipend = c.ipend := by unfold advance; (repeat' split) <;> rfl
@[simp] theorem advance_imask (c0 c : QCore) : (advance c0 c).imask = c.imask := by unfold advance; (repeat' split) <;> rfl
@[simp] theorem advance_epc (c0 c : QCore) : (advance c0 c).epc = c.epc := by unfold advance; (repeat' split) <;> rfl
@[simp] theorem advance_est (c0 c : QCore) : (advance c0 c).est = c.est := by unfold advance; (repeat' split) <;> rfl
@[simp] theorem advance_timer (c0 c : QCore) : (advance c0 c).timer = c.timer := by unfold advance; (repeat' split) <;> rfl
@[simp] theorem advance_pm (c0 c : QCore) : (advance c0 c).pm = c.pm := by unfold advance; (repeat' split) <;> rfl
@[simp] theorem advance_pmBad (c0 c : QCore) : (advance c0 c).pmBad = c.pmBad := by unfold advance; (repeat' split) <;> rfl
@[simp] theorem advance_prog (c0 c : QCore) : (advance c0 c).prog = c.prog := by unfold advance; (repeat' split) <;> rfl
@[simp] theorem advance_land (c0 c : QCore) : (advance c0 c).land = c.land := by unfold advance; (repeat' split) <;> rfl
@[simp] theorem advance_waiting (c0 c : QCore) : (advance c0 c).waiting = c.waiting := by unfold advance; (repeat' split) <;> rfl
@[simp] theorem advance_stall (c0 c : QCore) : (advance c0 c).stall = c.stall := by unfold advance; (repeat' split) <;> rfl
@[simp] theorem advance_wbuf (c0 c : QCore) : (advance c0 c).wbuf = c.wbuf := by unfold advance; (repeat' split) <;> rfl
@[simp] theorem advance_bufWait (c0 c : QCore) : (advance c0 c).bufWait = c.bufWait := by unfold advance; (repeat' split) <;> rfl
@[simp] theorem advance_haltReq (c0 c : QCore) : (advance c0 c).haltReq = c.haltReq := by unfold advance; (repeat' split) <;> rfl
@[simp] theorem advance_submit (c0 c : QCore) : (advance c0 c).submit = c.submit := by unfold advance; (repeat' split) <;> rfl

/-- R223: away from the end of an RTI the status register stands. -/
theorem advance_sr (c0 c : QCore) (h : ∀ d, c0.delay = some d → d.status = none) : (advance c0 c).sr = c.sr := by
  unfold advance
  split
  · rename_i d hd
    split
    · simp only [h d hd]
    · rfl
  · (repeat' split) <;> rfl

/-- R223, R248: after a delay slot that is not the last, one fewer is left; after the last, the branch is taken. -/
theorem advance_delay (c0 c : QCore) {d : Delay} (hd : c0.delay = some d) :
    (advance c0 c).delay = if d.left = 1 then none else some { d with left := d.left - 1 } := by
  unfold advance
  simp only [hd]
  split
  · cases d.status <;> rfl
  · rfl

/-- The X slot's results land on a D register, the status register and accumulators. -/
theorem XRes.land_eq (x : XRes) (c : QCore) : x.land c =
    { c with d := (match x.dW with | some p => upd c.d p.1 p.2 | Option.none => c.d)
             sr := toW (if x.av then setF (x.fl.apply c.sr.toNat) 5 5 1 else x.fl.apply c.sr.toNat)
             ac := x.acW.foldl (fun l p => upd l p.1 p.2) c.ac } := by
  unfold XRes.land
  cases x.dW <;> rfl

/-- The core after the registers of a bundle are written. -/
theorem afterRegs_core (s : State) (k : Nat) (x : XOp) (y : YOp) :
    (afterRegs s k x y).core k = bundleHalt s k y (seen s k) (bundleRegs s k x y (seen s k)) := by
  unfold afterRegs
  exact State.core_setCore_self ..

/-- A bundle that runs leads to the state after it. -/
theorem issue_runs {s : State} {k : Nat} {x : XOp} {y : YOp} (h : Runs s k x y) : issue k x y s = afterBundle s k x y := by
  obtain ⟨h1, h2, h3, h4, h5⟩ := h
  have h3 : bufferFull (s.core k).released y = false := h3
  simp only [issue, h1, h2, h3, beq_self_eq_true, Bool.and_self, Bool.false_and, ↓reduceIte, Bool.false_eq_true]
  unfold issueBundle afterBundle afterRegs
  show (if (seen s k).pmBad.contains (seen s k).pc = true then _ else if faultCause (seen s k) y ≠ 0 then _ else _) = _
  rw [h4, h5]
  simp only [ne_eq, not_true_eq_false, ↓reduceIte, Bool.false_eq_true]
  rfl

end Sys2Proof.Machine
end

