-- ==== Sys2Proof/Tests/Slice0.lean ====
section
/-! SUPPORT. Tests of single commands against the spec's words and examples, the WellFormed smoke test, and a witness for the hypotheses
of every statement. -/

namespace Sys2Proof.Tests

set_option Elab.async false
open Sys2Proof Sys2Proof.Machine

/-- The module with firmware running, the PCIe link up and both DRAM controllers READY. -/
def fw : State :=
  let s := { State.reset with hif := { State.reset.hif with stage := 7, linkUp := true } }
  (s.fset (Reg.DDR_STATUS 0) 31 29 2).fset (Reg.DDR_STATUS 1) 31 29 2

/-- The same in render, in interval 100. -/
def live : State := { fw with sched := { fw.sched with rendering := true, bn := 100, bnMedia := 100, bnPtp := 100, bnDram := 100, bnAon := 100 } }

/-- Core 0 runs the bundle (x, y) at pc 0, with some registers set. -/
def qs (x : XOp) (y : YOp) : State := fw.setCore 0 { QCore.reset with
  st := .running, pm := Tab.put (fun _ => (0 : Bundle)) [] 0 (encodeBundle x y)
  d := [5, 7, 0x80000000, 1] ++ List.replicate 12 0, a := [0x10, 0x500000, 0x708000] ++ List.replicate 5 0, m := 4 :: List.replicate 7 0 }

/-- One bundle for each command of the Quill set, with both values of a form where the forms differ. -/
def bundles : List (XOp × YOp) :=
  ([.nop, .mac 1 2 3 2 0 1 1 2, .mac 1 2 3 0 0 0 3 0, .mac 0 0 0 3 1 1 0 2, .mac 0 0 0 0 0 0 0 0, .alu .add 15 0 1, .alu .sub 0 1 2, .alu .adds 0 2 2,
    .alu .subs 0 2 1, .alu .and 0 1 2, .alu .or 0 1 2, .alu .xor 0 1 2, .alu .min 0 1 2, .alu .max 0 1 2, .alu .asr 0 1 2, .alu .lsl 0 1 2, .alu .lsr 0 1 2,
    .cmp 0 1, .neg 0 2, .abs 0 2, .not 0 1, .addi 0 1 0x3FFFF, .cmpi 0 5, .asri 0 2 31, .lsli 0 1 31, .lsri 0 1 0, .aclr 3, .acmov 0 1, .acadd 0 1,
    .acsub 0 1, .acsh 0 31, .acsh 0 32, .acld 0 2, .acneg 0] : List XOp).map (fun x => (x, .nop))
  ++ ([.ld 0 0 0 true, .ld 31 1 0 false, .st 0 0 0 true, .st 16 1 0 false, .st 0 2 0 false, .stac 0 0 0 true, .lds 0 0xFFF, .lds 0 0x1000, .sts 0 0xFFF,
    .sts 0 0x1007, .stacs 0 0, .mvac 0 0, .mov 0 1, .mov 0 16, .mov 0 31, .mov 0 35, .mov 23 0, .mov 24 15, .mov 36 0, .ldi 0 0x8000, .ldih 0 0xFFFF,
    .rdac 0 0 0, .rdac 0 0 2, .lia 0 0xFFFFFF, .lim 0 0x7FFFFF, .wrac 0 0 0, .adda 0 0, .addai 0 0x7FFFFF, .fold 0, .setb 31 true, .setb 0 false,
    .sscl 8, .sscl 9, .sscl 24, .sscl 23, .br 4095, .bcc 0 5, .bcc 1 5, .call 9, .bra 0, .rti, .loop 3 0, .loop 0 0, .repi 0 5, .repi 4096 5, .repd 0 5,
    .wait, .brk] : List YOp).map (fun y => (.nop, y))

/-- Every bundle of the list runs, with no RTI outstanding: the hypotheses of the statements about X-slot and Y-slot operations. -/
theorem witness_bundles_run : ∀ p ∈ bundles, Runs (qs p.1 p.2) 0 p.1 p.2 ∧ (seen (qs p.1 p.2) 0).delay = none := by
  unfold Runs; decide +kernel

/-- No delay slot outstanding means no status to restore. -/
theorem noRestore_of_none {s : State} {k : Nat} (h : (seen s k).delay = none) : NoRestore s k := by
  intro d hd; rw [h] at hd; cases hd

/-- Core 0 of a module that runs NOP bundles, changed. -/
def qm (f : QCore → QCore) : State := (qs .nop .nop).setCore 0 (f ((qs .nop .nop).core 0))

theorem witness_AccumulatorResults : (0 : Int) ≤ (31 : BitVec 6).toInt ∧ (32 : BitVec 6).toInt < 0 ∧ (1 < 4 ∧ 3 < 4 ∧ (1 : Nat) ≠ 0) := by decide

theorem witness_AccumulatorMoveAndStatusResults :
    bitOf (seen (qs .nop (.mvac 0 0)) 0).sr.toNat 8 = true ∧ bitOf (seen (qm (fun c => { c with sr := 0 })) 0).sr.toNat 8 = false
    ∧ (-8 ≤ (24 : BitVec 5).toInt ∧ (8 : BitVec 5).toInt ≤ 8) ∧ 8 < (9 : BitVec 5).toInt ∧ (23 : BitVec 5).toInt < -8
    ∧ ((xEval (seen (qs .nop (.wrac 0 0 0)) 0) .nop).acW.any (fun w => w.1 == 0) || (seen (qs .nop (.wrac 0 0 0)) 0).acBusy.contains 0) = false := by
  decide +kernel

theorem witness_LoadsAndStoresReachTheirPlace :
    let on := afterRegs (qs .nop (.st 0 0 0 true)) 0 .nop (.st 0 0 0 true)
    let off := afterRegs ((qs .nop (.st 0 0 0 true)).fset (Reg.MEMC_BANK_PWR 0) 31 30 2) 0 .nop (.st 0 0 0 true)
    on.bankOn 0 = true ∧ on.mem.unwritten 0 (bankBase 0 + 64) = false ∧ on.mem.bad.contains (bankBase 0 + 64) = false ∧ off.bankOn 0 = false
    ∧ (0x708000 ≤ 0x708007 ∧ 0x708007 < 0x708008) ∧ stallRegion 0x500000 = true := by decide +kernel

theorem witness_BranchesTakeTwoDelaySlots :
    condHolds (seen (qs .nop (.bcc 1 5)) 0).sr.toNat 1 = true ∧ condHolds (seen (qs .nop (.bcc 0 5)) 0).sr.toNat 0 = false := by decide +kernel

theorem witness_LoopsRepeatsWaitAndBreak : ((qs .nop .brk).core 0).haltReq = 0 ∧ (qs .nop .brk).quillDebug 0 = true := by decide +kernel

theorem witness_SequencingAfterABundle :
    ∀ s ∈ [qm (fun c => { c with delay := some ⟨2, some 9, none⟩ }), qm (fun c => { c with delay := some ⟨1, some 9, some 0x100⟩ }),
      qm (fun c => { c with inRep := true, le := 3, lc := 2 }), qm (fun c => { c with inRep := true, le := 0, lc := 2 }),
      qm (fun c => { c with inRep := true, le := 0, lc := 1 }), qs .nop .nop],
      Runs s 0 .nop .nop ∧ isControl .nop = false := by unfold Runs; decide +kernel

theorem witness_StalledLoadsAndPostedStores :
    ((qm (fun c => { c with stall := some (0, 0x500000) })).core 0).wbuf = []
    ∧ ((qm (fun c => { c with wbuf := [(0x500000, 1)] })).core 0).wbuf = (0x500000, 1) :: []
    ∧ (qm (fun c => { c with stall := some (0, 0x500000) })).coreAborting 0 = false ∧ ((qs .nop .nop).core 0).stall = none
    ∧ ({ qs .nop .nop with hif := { fw.hif with aborting := [0] } } : State).coreAborting 0 = true := by decide +kernel

theorem witness_InterruptsPendAndAreTaken :
    fw.coreOn = true ∧ fw.sched.cycle ≤ 16
    ∧ (let s := qm (fun c => { c with timer := 0x80000020 })
       s.coreOn = true ∧ s.hasCore 0 = true ∧ bitOf (s.core 0).timer.toNat 31 = true ∧ s.sched.cycle ≤ getF (s.core 0).timer.toNat 18 0)
    ∧ fw.served (Reg.QCORE_DOORBELL 63) = true
    ∧ (let s := qm (fun c => { c with sr := 0x80000100, ipend := 13, imask := 12 })
       (s.core 0).st = .running ∧ (s.core 0).atPoint = true ∧ bitOf (s.core 0).sr.toNat 31 = true
       ∧ bitOf ((BitVec.ofNat 8 (s.core 0).ipend &&& BitVec.ofNat 8 (s.core 0).imask).toNat) 2 = true
       ∧ (∀ j, j < 2 → bitOf ((BitVec.ofNat 8 (s.core 0).ipend &&& BitVec.ofNat 8 (s.core 0).imask).toNat) j = false)
       ∧ s.coreAborting 0 = false)
    ∧ ((qm (fun c => { c with bufWait := true })).core 0).bufWait = true := by decide +kernel

theorem witness_CoreControlMovesTheStates :
    fw.served (Reg.QCORE_CTL 0) = true ∧ (fw.core 0).st = .idle ∧ ((qm (fun c => { c with st := .fault, cause := 5 })).core 0).st = .fault
    ∧ (let s := qm (fun c => { c with st := .halted, cause := 4 })
       (s.core 0).st = .halted ∧ (s.core 0).cause ≠ 2 ∧ s.quillDebug 0 = true ∧ (s.core 0).stall = none ∧ decodeBundle (s.core 0).bundle = some (.nop, .nop)
       ∧ (let z := s.setCore 0 (s.core 0).settle
          (s.core 0).pmBad.contains (s.core 0).pc = false ∧ faultCause (seen z 0) .nop = 0 ∧ yMem (seen z 0) .nop = none))
    ∧ ((qs .nop .nop).core 0).haltReq = 0
    ∧ (let s := qm (fun c => { c with haltReq := 1 })
       s.hasCore 0 = true ∧ (s.core 0).st = .running ∧ (s.core 0).atPoint = true ∧ s.coreAborting 0 = false ∧ (s.core 0).haltReq ≠ 0)
    ∧ (let s := qm (fun c => { c with pm := [(0, 0xFC000000)] })
       canIssue s 0 = true ∧ decodeBundle (s.core 0).bundle = none ∧ (s.core 0).pmBad.contains (s.core 0).pc = false
       ∧ (let t := s.setCore 0 { s.core 0 with pmBad := [0] }
          canIssue t 0 = true ∧ decodeBundle (t.core 0).bundle = none ∧ (t.core 0).pmBad.contains (t.core 0).pc = true))
    ∧ ((qm (fun c => { c with st := .halted, cause := 2 })).core 0).cause = 2 := by decide +kernel

/-- Core 0 issues the bundle (NOP, y), which faults with `cause`. -/
def Faults (f : QCore → QCore) (y : YOp) (cause : Nat) : Prop :=
  let s := (qs .nop y).setCore 0 (f ((qs .nop y).core 0))
  canIssue s 0 = true ∧ decodeBundle (s.core 0).bundle = some (.nop, y) ∧ bufferFull (seen s 0) y = false
    ∧ (seen s 0).pmBad.contains (seen s 0).pc = false ∧ faultCause (seen s 0) y = cause

/-- A branch in a delay slot, a control operation inside REP, a body of 33 bundles, a count of 4,097 and unmapped words. -/
theorem witness_core_faults :
    Faults (fun c => { c with delay := some ⟨2, some 9, none⟩ }) (.br 9) 6 ∧ Faults (fun c => { c with inRep := true, le := 3, lc := 2 }) (.br 9) 6
    ∧ Faults id (.repi 2 33) 6 ∧ Faults id (.repd 0 33) 6 ∧ Faults (fun c => { c with d := 4097 :: c.d.drop 1 }) (.repd 0 32) 7
    ∧ Faults (fun c => { c with d := 4096 :: c.d.drop 1 }) (.repd 0 32) 0
    ∧ (∀ a ∈ ([0x10000, 0xFFFFF, 0x680000, 0x6FFFFF, 0x700400, 0x707FFF, 0x708008, 0x7FFFFF] : List Nat),
        Faults (fun c => { c with a := BitVec.ofNat _ a :: c.a.drop 1 }) (.ld 0 0 0 false) 8)
    ∧ (∀ a ∈ ([0xFFFF, 0x100000, 0x67FFFF, 0x700000, 0x7003FF, 0x708000, 0x708007, 0x800000] : List Nat),
        Faults (fun c => { c with a := BitVec.ofNat _ a :: c.a.drop 1 }) (.ld 0 0 0 false) 0) := by
  unfold Faults; decide +kernel

theorem witness_EventsAreRecordedAndRouted :
    fw.coreOn = true ∧ bitOf (fw.rd (Reg.EVT_ROUTE 0x1D)) 22 = false
    ∧ (let s := fw.bset (Reg.EVT_ROUTE 3) 23 false
       bitOf (s.rd (Reg.EVT_ROUTE 3)) 23 = false ∧ bitOf (s.rd (Reg.EVT_ROUTE 3)) 22 = false)
    ∧ (let s := fw.bset (Reg.EVT_ROUTE 3) 23 true
       bitOf (s.rd (Reg.EVT_ROUTE 3)) 23 = true ∧ (recordEvent 3 0 s).qEnabled 18 = false)
    ∧ (let s := (fw.bset (Reg.EVT_ROUTE 3) 23 true).wr (Reg.QUEUE_CFG 18) 0x80104A40
       (recordEvent 3 0 s).qEnabled 18 = true ∧ (recordEvent 3 0 s).rd (Reg.QUEUE_WM 18) = 0
       ∧ ((recordEvent 3 0 s).queue 18).items.length + 2 ≤ (recordEvent 3 0 s).qDepth 18) := by decide +kernel

theorem witness_CounterStepsAndHoldover :
    (let s := { fw.bset Reg.TIME_PPS_CTL 31 true with time := { fw.time with ptp := 999999999 * 2 ^ 32 } }
     s.pending = [] ∧ s.coreOn = true ∧ s.queues = [] ∧ s.time.ppsDue = false ∧ s.bget Reg.TIME_PPS_CTL 31 = true
     ∧ (((s.time.ptp : Int) + 5 * (8 * 2 ^ 32 + sgn 32 (s.rd Reg.TIME_FREQ))) % (ptpMod : Int)).toNat / 2 ^ 32 / 10 ^ 9 = 1)
    ∧ (let s := fw
     s.served Reg.TIME_OFS_HI = true ∧ s.bget Reg.TIME_CTL 0 = false ∧ 16 * s.rd Reg.TIME_STEP_THR < (sgn 64 (0x7F * 2 ^ 32 + s.heldWord Reg.TIME_OFS_LO)).natAbs
     ∧ (sgn 64 (0 * 2 ^ 32 + s.heldWord Reg.TIME_OFS_LO)).natAbs ≤ 16 * s.rd Reg.TIME_STEP_THR)
    ∧ (fw.bset Reg.TIME_CTL 0 true).bget Reg.TIME_CTL 0 = true
    ∧ fw.served Reg.TIME_NOW_SEC_HI = true ∧ fw.heldWord Reg.TIME_NOW_NS % 2 ^ 30 ≤ 999999999
    ∧ 999999999 < ({ fw with held := [(Reg.TIME_NOW_NS, 1000000000)] } : State).heldWord Reg.TIME_NOW_NS % 2 ^ 30
    ∧ fw.served Reg.TIME_FREQ = true ∧ fw.time.servo ≠ 2 ∧ fw.served Reg.TIME_GM_ID_HI = true ∧ fw.served Reg.TIME_CTL = true
    ∧ (let s := { fw.wr Reg.TIME_SYNC_TIMEOUT 1 with time := { fw.time with servo := 1 }, sched := { fw.sched with up := 1000000 } }
       s.time.servo = 1 ∧ s.fget Reg.TIME_SYNC_TIMEOUT 15 0 ≠ 0 ∧ s.time.ofsAge + s.fget Reg.TIME_SYNC_TIMEOUT 15 0 * 1000000 ≤ s.sched.up) := by decide +kernel

theorem witness_PinsAndTimestamps :
    fw.time.ppsDue = false ∧ fw.time.pps = false ∧ fw.bget Reg.TIME_PPS_CTL 30 = false
    ∧ (let s := { (fw.bset Reg.TIME_PPS_CTL 31 true).fset Reg.TIME_PPS_CTL 9 0 1 with
         time := { fw.time with ptp := 999999999 * 2 ^ 32, ppsDue := true, pps := true, ppsAt := 5 }, sched := { fw.sched with up := 1000005 } }
       s.bget Reg.TIME_PPS_CTL 31 = true ∧ s.time.ppsDue = true ∧ s.time.pps = true ∧ s.time.ppsAt + s.fget Reg.TIME_PPS_CTL 9 0 * 1000000 ≤ s.sched.up)
    ∧ (let s := fw.bset Reg.TIME_PPS_CTL 30 true
       s.bget Reg.TIME_PPS_CTL 30 = true ∧ s.bget Reg.TIME_PPSIN_SUB 31 = false)
    ∧ (let s := (fw.bset Reg.TIME_PPS_CTL 30 true).bset Reg.TIME_PPSIN_SUB 31 true
       s.bget Reg.TIME_PPS_CTL 30 = true ∧ s.bget Reg.TIME_PPSIN_SUB 31 = true)
    ∧ fw.served Reg.TIME_PPSIN_SUB = true ∧ fw.served (Reg.TIME_TXTS_ID 15) = true ∧ Tab.get (fun _ => []) fw.time.txts 15 = []
    ∧ Tab.get (fun _ => []) ({ fw with time := { fw.time with txts := [(15, [(3, 40)])] } } : State).time.txts 15 = [(3, 40)] := by decide +kernel

theorem witness_MediaClockRunsAndLocks :
    fw.served Reg.CLK_MEDIA_CTL = true ∧ fw.sched.rendering = false ∧ fw.bget Reg.CLK_MEDIA_CTL 0 = false ∧ live.sched.rendering = true
    ∧ (let s := (fw.bset Reg.CLK_MEDIA_CTL 0 true).bset Reg.CLK_MEDIA_STATUS 31 false
       let t := { s with time := { s.time with lockRun := 96000 } }
       t.mediaRun = true ∧ t.bget Reg.CLK_MEDIA_STATUS 31 = false ∧ t.fs ≤ t.time.lockRun
       ∧ s.mediaRun = true ∧ s.time.mst ≠ (s.sched.bnMedia + 1) * s.blockLen ∧ s.time.lockRun < s.fs ∧ (∀ p, p < 32 → tdmEdge s.time.mst s p = s)
       ∧ s.queues = [] ∧ s.time.first = false
       ∧ (let u := { s with time := { s.time with first := true, mst := 32 } }
          let late := { u with time := { u.time with ptp := 10 ^ 9 * 2 ^ 32 } }
          u.time.first = true ∧ 0 < ((u.time.mst : Int) * 16000000000 / u.fs + u.time.oReq) * 2 ^ 28 - u.time.ptp
          ∧ ((late.time.mst : Int) * 16000000000 / late.fs + late.time.oReq) * 2 ^ 28 - late.time.ptp ≤ 0))
    ∧ (let s := (fw.bset Reg.CLK_MEDIA_CTL 0 true).bset Reg.CLK_MEDIA_STATUS 31 true
       let t := { s with time := { s.time with e := 16001 } }
       t.mediaRun = true ∧ t.bget Reg.CLK_MEDIA_STATUS 31 = true ∧ 16000 < t.time.e.natAbs ∧ s.time.e.natAbs ≤ 16000)
    ∧ fw.time.wclkLost = false ∧ (fw.bset Reg.CLK_MEDIA_STATUS 29 true).bget Reg.CLK_MEDIA_STATUS 29 = true := by decide +kernel

theorem witness_RegisterAccessFollowsItsCode :
    (∃ r is, descOf Reg.TIME_STEP_THR = some (r, is) ∧ specialWrite .host r (nth 0 is 0) (nth 0 is 1) Reg.TIME_STEP_THR 5 fw = none
      ∧ r.fields.any (opensShadow fw r.base Reg.TIME_STEP_THR 5) = false)
    ∧ (∃ r is, descOf Reg.PWR_CLK = some (r, is) ∧ specialWrite .host r (nth 0 is 0) (nth 0 is 1) Reg.PWR_CLK 1 fw = none
      ∧ r.fields.any (opensShadow fw r.base Reg.PWR_CLK 1) = true)
    ∧ (∃ r is, descOf Reg.HIF_CMD_CNT = some (r, is) ∧ specialRead .host r.base (nth 0 is 0) fw = none ∧ fw.latched .host Reg.HIF_CMD_CNT = none
      ∧ pairRows.contains r.base = false ∧ octetRows.contains r.base = false ∧ hasRC Reg.HIF_CMD_CNT = true ∧ r.base ≠ Reg.QUEUE_PEAK 0)
    ∧ (∃ r is, descOf Reg.GLB_BN_LO = some (r, is) ∧ specialRead .host r.base (nth 0 is 0) fw = none
      ∧ pairRows.contains r.base = true ∧ octetRows.contains r.base = false ∧ hasRC Reg.GLB_BN_LO = false)
    ∧ (fw.latch .host (Reg.GLB_BN_LO + 4) 7).latched .host (Reg.GLB_BN_LO + 4) = some 7
    ∧ fw.served Reg.TIME_STEP_THR = true ∧ fw.served Reg.HIF_BAD_ACCESS_CNT = true := by
  refine ⟨⟨_, _, rfl, ?_⟩, ⟨_, _, rfl, ?_⟩, ⟨_, _, rfl, ?_⟩, ⟨_, _, rfl, ?_⟩, ?_⟩ <;> decide +kernel

/-- Object 3 is LIVE. -/
def withObj (st : ObjSt) (s : State) : State := s.setObj 3 { Obj.reset with st := st, relF := 60, relN := 8 }

theorem witness_MutePartitionAndSnapshotRegisters :
    fw.served Reg.OUT_CTL = true ∧ fw.served Reg.NIB_PARTITION = true ∧ (∃ p ∈ (withObj .live fw).scene.objs, p.2.st ≠ .free)
    ∧ (∀ p ∈ fw.scene.objs, p.2.st = .free) ∧ fw.served Reg.STAT_SNAP = true ∧ fw.served Reg.STAT_SHD_DATA = true := by decide +kernel

/-- A pending commit 5 for boundary 101, armed by all. -/
def due101 : Commit := { newCommit .el9610 5 101 [] [] false 0 with armed := allParts }

/-- The module in render with that commit pending. -/
def pend : State := live.setCommits [due101]

theorem witness_SealsJoinAndArm :
    live.served Reg.GLB_COMMIT_EPOCH_HI = true
    ∧ (let t := (fun s : State => (s.wr Reg.GLB_COMMIT_EPOCH_HI 0).rd64 Reg.GLB_COMMIT_EPOCH_LO)
       let s := live.wr Reg.GLB_COMMIT_EPOCH_LO 102
       s.bn + 2 ≤ t s ∧ t s ≤ s.bn + 16777216 ∧ joinable (t s) s.sched.commits = none ∧ s.sched.rendering = true ∧ t (live.wr Reg.GLB_COMMIT_EPOCH_LO 101) < 102)
    ∧ joinable 101 pend.sched.commits = some due101
    ∧ fw.sched.rendering = false ∧ fw.served Reg.GLB_COMMIT_ABANDON = true ∧ withholding fw &&& 2 ^ 11 = 0
    ∧ withholding (fw.fset (Reg.DDR_STATUS 0) 31 29 1) &&& 2 ^ 9 ≠ 0 ∧ withholding (fw.bset (Reg.DDR_STATUS 0) 26 true) &&& 2 ^ 9 ≠ 0
    ∧ bitOf (presentParts fw.variant) 11 = true ∧ bitOf (presentParts .el9630) 11 = false ∧ (Item.partition true).key ≠ none := by decide +kernel

theorem witness_VerdictGoesOrDefers :
    live.sched.rendering = true ∧ live.sched.verdictDone = false ∧ followsPeer live = false
    ∧ pend.sched.commits.filter (fun c => c.target == pend.bn + 1 && !c.peer) = [due101]
    ∧ lower allParts (armedBy pend due101) = 0 ∧ pend.sched.quietAt ≠ some 101
    ∧ (let s := pend.fset (Reg.DDR_STATUS 0) 31 29 1
       lower allParts (armedBy s due101) ≠ 0) ∧ due101.defers < 7 := by decide +kernel

/-- The media clock runs, nothing is left to do of the interval, and the next boundary is at hand. -/
def idle : State :=
  let s := fw.bset Reg.CLK_MEDIA_CTL 0 true
  { s with time := { s.time with mst := 32 }, strm := { s.strm with done := true }, cond := { s.cond with handed := true } }

theorem idle_noPort (p : Nat) : tdmOn idle p = false := by
  by_cases h : p < 32
  · have : ∀ p, p < 32 → tdmOn idle p = false := by decide +kernel
    exact this p h
  · have e : capTdm idle.variant = 32 := by decide +kernel
    simp [tdmOn, e, h]

theorem idle_noWork : NoWork idle := by
  constructor <;> first | (intro p; rfl) | decide +kernel

/-- A commit with GO due at boundary 1. -/
def go1 : Commit := { newCommit .el9610 5 1 [.partition true] [] false 0 with armed := allParts, verdict := some true }

/-- The interval before it, in render, with its work done. -/
def rendered : State := { idle with
  sched := { idle.sched with rendering := true, copyDone := true, ruleDone := true, mergeDone := true, quillClosed := true, nibClosed := true,
                             outClosed := true, verdictDone := true, commits := [go1] }
  scene := { idle.scene with sumDone := 8 }, cond := { idle.cond with done := true, judged := true } }

theorem witness_boundary_in_render : RenderedModule rendered ∧ rendered.mediaRun = true
    ∧ rendered.time.mst = (rendered.sched.bnMedia + 1) * rendered.blockLen ∧ rendered.sched.commits = [go1] ∧ go1.peer = false
    ∧ go1.target = rendered.sched.bnMedia + 1 ∧ go1.verdict = some true ∧ takesOf 1 go1 ≠ [] ∧ ∀ k ∈ takesOf 1 go1, 1 < k.bn :=
  ⟨{ toNoWork := { idle_noWork with }, renders := rfl, copied := rfl, ruled := rfl, merged := rfl, quills := rfl, nibs := rfl, summed := rfl,
     outs := rfl, judged := rfl, chain := rfl, levels := rfl, noPort := idle_noPort }, by decide +kernel⟩

theorem witness_BoundaryCountsAndReleasesEnd :
    (IdleModule idle ∧ Tab.find { idle with hif := { idle.hif with msixSent := [(3, 255)] } }.hif.msixSent 3 = some 255)
    ∧ (idle.mediaRun = true ∧ idle.time.mst = (idle.sched.bnMedia + 1) * idle.blockLen)
    ∧ fw.mediaRun = false
    ∧ (let s := withObj .releasing live
       (s.obj 3).st = .releasing ∧ (s.obj 3).relF + (s.obj 3).relN + 1 ≤ s.bn)
    ∧ (let s := { live with scene := { live.scene with mutes := [(50, 98), (97, 100)] } }
       2 ≤ s.bn ∧ 98 + 2 ≤ s.bn ∧ s.bn < 100 + 2) :=
  ⟨⟨⟨idle_noWork, by decide +kernel, by decide +kernel⟩, by decide +kernel⟩, by decide +kernel⟩

theorem witness_AppliedItemsTakeEffectByStage :
    (let s := live.setCommits [{ due101 with verdict := some true }]
     s.sched.commits.filter (fun d => d.target == 101 && !d.peer) = [{ due101 with verdict := some true }])
    ∧ ((withObj .armed live).obj 3).st = .armed ∧ ((withObj .live live).obj 3).st = .live ∧ false = live.scene.wideN ∧ true ≠ live.scene.wideN := by
  decide +kernel

theorem witness_WindowsAndBankPower :
    fw.served (Reg.MEMC_WIN_LEN 63 3) = true ∧ hasWindows 63 = true ∧ bankWords 63 < 65535 + 2 ∧ 65535 + 1 ≤ bankWords 63
    ∧ live.served (Reg.MEMC_BANK_PWR 64) = true ∧ bankBarred live 64 = true ∧ bankBarred live 192 = true ∧ bankBarred live 300 = false
    ∧ fw.fget Reg.PWR_STATUS 31 30 = 0 ∧ fw.fget (Reg.MEMC_BANK_PWR 5) 31 30 ≠ 2
    ∧ bankPresent fw.variant 287 = true ∧ (fw.bset (Reg.MEMC_BANK_PWR 5) 29 true).bget (Reg.MEMC_BANK_PWR 5) 29 = true
    ∧ (fw.fget (Reg.MEMC_BANK_PWR 5) 31 30 = 0 ∧ fw.bget (Reg.MEMC_BANK_PWR 5) 29 = false)
    ∧ (let s := { fw.bset (Reg.MEMC_BANK_PWR 5) 29 true with pwr := { fw.pwr with moving := [(5, 2)] } }
       Tab.find s.pwr.moving 5 = some 2 ∧ s.bankTarget 5 = 2 ∧ s.fget (Reg.MEMC_BANK_PWR 5) 31 30 ≠ 2)
    ∧ Tab.find fw.pwr.moving 5 = none ∧ fw.bankTarget 5 ≠ 2 := by decide +kernel

theorem witness_AtomicsAndPartialWrites :
    bankOf 0x100000004 = some (0, 1) ∧ bankOf 0x101000000 = some (64, 0) ∧ bankOf 0x107D00000 = some (286, 0)
    ∧ (∀ a ∈ [0x100000004, 0x101000000, 0x107D00000], a % 4 = 0 ∧ inSram a = true ∧ 0x100000000 ≤ a)
    ∧ (∀ i ∈ [0, 64, 286], bankPresent fw.variant i = true) ∧ hasWindows 0 = true ∧ hasWindows 64 = false
    ∧ fw.bankOn 0 = true ∧ fw.mem.unwritten 0 0x100000004 = false ∧ fw.mem.bad.contains 0x100000004 = false
    ∧ (fw.fset (Reg.MEMC_BANK_PWR 0) 31 30 2).bankOn 0 = false
    ∧ portWrites .read = false ∧ portWrites (.write 1) = true ∧ portAtomic (.write 1) = false ∧ portAtomic (.swap 1) = true
    ∧ Master.isScribe (.scribe 0) = true ∧ bankOf (bankBase 272) = some (272, 0) ∧ bankPresent fw.variant 272 = true ∧ hasWindows 272 = true
    ∧ fw.bankOn 272 = true ∧ fw.mem.unwritten 272 (bankBase 272) = false ∧ fw.hif.d3 = false
    ∧ 0x100000004 = 0x100000000 + 4 ∧ ({ fw with hif := { fw.hif with d3 := true } } : State).hif.d3 = true := by decide +kernel

theorem witness_IngressOfABlock :
    live.sched.rendering = true ∧ 1 ≤ live.bn ∧ live.cond.done = false ∧ live.sched.copyDone = false ∧ ringSealed live = false ∧ live.sched.cycle ≤ 7999
    ∧ ringSealed { live with cond := { live.cond with done := true } } = true ∧ ({ live with sched := { live.sched with copyDone := true } } : State).sched.copyDone = true
    ∧ (let s := { live with cond := { live.cond with prev := [(Reg.COND_DEC_CTL 3, 0x80000000), (Reg.COND_DET_CTL 3, 0x80000000)], from' := 99 } }
       bitOf (condPrev s (Reg.COND_DEC_CTL 3)) 31 = true ∧ s.cond.from' ≤ s.bn - 1 ∧ bitOf (condPrev s (Reg.COND_DET_CTL 3)) 31 = true
       ∧ bitOf (condPrev s (Reg.COND_DET_CTL 4)) 31 = false)
    ∧ (let s := ((live.wr (Reg.TDM_CTL 0) 0xA0000002).wr (Reg.TDM_RX_MASK 0) 1).setGrp 0 { RsGroup.reset with base := some (2 ^ 33) }
       tdmOn s 0 = true ∧ tdmMode s 0 = 2 ∧ (s.grp (2 * 0 + b2n false)).done = false ∧ rsChannels s 0 false = [(0, 0)]
       ∧ bitOf (condPrev s (Reg.COND_RS_CTL 0)) 31 = true ∧ (s.grp (2 * 0 + b2n false)).base = some (2 ^ 33) ∧ baseOk (2 ^ 33) = true
       ∧ baseOk (let u := s.bset (Reg.COND_RS_CTL 0) 31 false; u.rd (Reg.COND_RS_RATIO_LO 0) + 2 ^ 32 * u.rd (Reg.COND_RS_RATIO_HI 0)) = true)
    ∧ tdmOn live 31 = false ∧ live.cond.judged = false
    ∧ (let s := { withObj .live live with cond := { live.cond with done := true } }
       s.sched.copyDone = false ∧ ringSealed s = true ∧ s.sched.cycle ≤ 7999
       ∧ (s.scene.objs.filter (fun q => q.2.alive && q.2.kind != 4)).map (fun q => q.1) = [3]) := by decide +kernel

theorem witness_RulingPassAndRecords :
    live.sched.rendering = true ∧ live.sched.ruleDone = false ∧ 64 ≤ live.slot 359999 299999
    ∧ (let s := { live with sched := { live.sched with ruleDone := true } }
       s.sched.ruleDone = true ∧ s.sched.mergeDone = false ∧ nibRests s = false ∧ nibRests { s with sched := { s.sched with nibClosed := true } } = true
       ∧ s.sched.cycle ≤ s.slot 375999 315999 ∧ s.scene.held = none ∧ s.qEnabled 16 = false)
    ∧ (let s := { live with sched := { live.sched with ruleDone := true }, scene := { live.scene with held := some (3, 0, 100, 0) } }
       s.scene.held = some (3, 0, 100, 0) ∧ s.sched.mergeDone = false ∧ s.qEnabled 16 = false ∧ (s.obj 3).alive = false) := by decide +kernel

theorem witness_NibGroupsAndSumTree :
    live.sched.nibClosed = false ∧ 63 < capTiles live.variant ∧ tileDone live 63 = 0 ∧ 256 ≤ live.slot 335999 299999
    ∧ (let s := { live with scene := { live.scene with tileDone := [(0, 7)] } }
       tileDone s 0 = 7 ∧ tileDone s 0 < 8)
    ∧ (let s := { live with scene := { live.scene with tileDone := (List.range 64).map (fun t => (t, 8)), sumDone := 7 } }
       (∀ j, j < capTiles s.variant → tileDone s j = 8) ∧ s.scene.sumDone = 7 ∧ s.sched.cycle ≤ s.slot 343999 305999)
    ∧ partMuted live = false ∧ partMuted { live with scene := { live.scene with mutes := [(98, 99)] } } = true
    ∧ (let s := (live.bset (Reg.NIB_TILE_CTL 0) 8 true).bset (Reg.NIB_TILE_BIST_STATUS 0) 31 true
       let s := { s with scene := { s.scene with tileDone := [(0, 8)] } }
       s.bget (Reg.NIB_TILE_CTL 0) 8 = true ∧ (Tab.get (fun _ => 0) s.scene.bistN 0 + 1) % 4096 ≠ 0
       ∧ s.sched.nibClosed = false ∧ s.sched.cycle ≤ s.slot 335999 299999 ∧ 0 < capTiles s.variant ∧ tileLeft s 0 ≤ 31
       ∧ ({ s with scene := { s.scene with bistBlock := [0] } } : State).scene.bistBlock.contains 0 = true) := by decide +kernel

/-- A bank with no window maps every word to itself. -/
theorem winMap_of_no_window {s : State} {i : Nat} (h : ∀ j, j < 16 → s.rd (Reg.MEMC_WIN_LEN i j) = 0) (w : Nat) : winMap s i w = w := by
  have : ∀ k, winFind s i w k = none := by
    intro k
    induction k with
    | zero => rfl
    | succ k ih => simp [winFind, winHit, h (15 - k) (by omega), ih]
  simp [winMap, this]

/-- The state in which the ceiling of output `out` is taken. -/
def outState (out : Nat) (u : State) : State :=
  let B := u.blockLen
  let j := u.bn - 2
  let o := u.outSt out
  let spk := u.spkO out
  let raw := (List.range B).map (fun i => fdiv (nth 0 (Tab.get (fun _ => []) u.scene.ys out) i * rampPos o.gainPrev (spk.field 6 17 0) i B) 65536)
  let x1 := raw.map (satS 24)
  let x2 := ringBlock out (j * B) (spk.field 5 17 0) x1 B
        (ringWrite out (j * B) x1 (u.count Reg.OUT_GAIN_SAT_CNT ((List.zip raw x1).filter (fun p => p.1 != p.2)).length))
  (rccBlock out j (spk.field 4 23 16) o.profPrev o.x2prev x2.1 x2.2).2

theorem witness_output_words :
    (let w := outState 5 live
     (live.spkO 5).field 5 17 0 = (live.outSt 5).bulkPrev ∧ w.blockLen = live.blockLen ∧ w.bankOn 287 = true ∧ (∀ k, winMap w 287 k = k)
     ∧ bankPresent w.variant 287 = true)
    ∧ (let v := ringWrite 5 (98 * 32) (List.replicate 32 0) live
       let q := if hasRcc v 5 then storeSpectrum 5 98 (spectrum v (live.outSt 5).x2prev (List.replicate 32 0)) v else v
       q.blockLen = 32 ∧ q.bankOn 287 = true ∧ (∀ k, winMap q 287 k = k) ∧ bankPresent q.variant 287 = true) := by
  refine ⟨⟨?_, ?_, ?_, winMap_of_no_window ?_, ?_⟩, ?_, ?_, winMap_of_no_window ?_, ?_⟩ <;> decide +kernel

theorem witness_OutputGroupsAndDeadlines :
    live.sched.outClosed = false ∧ live.sched.cycle ≤ live.slot 391999 324999 ∧ (let s := { live with scene := { live.scene with sumDone := 8 }, out := { live.out with done := 7 } }
      s.out.done = 7 ∧ 7 < s.scene.sumDone) ∧ 0 ≤ live.slot 391999 324999
    ∧ live.sched.quillClosed = false ∧ unsubmitted live = []
    ∧ unsubmitted (live.setObj 3 { Obj.reset with st := .live, words := [0, 0x40000000, 0, 0, 0, 0] }) ≠ [] := by decide +kernel

/-- The module in render with the first command queue and its completions enabled. -/
def cmd : State := ((live.wr (Reg.QUEUE_CFG 0) 0x80404041).wr (Reg.QUEUE_CFG 8) 0x80404140).wr (Reg.QUEUE_BASE 8) 64

/-- The same with render halted. -/
def cmdIdle : State := { cmd with sched := { cmd.sched with rendering := false } }

/-- The words of a command with TAG 7 stand in the first command queue. -/
def put (op : Nat) (args : List Word) (s : State) : State :=
  storeEntries 0 0 (commandWords op 7 args) (s.setQueue 0 ⟨0, commandWords op 7 args, false, [], none⟩)

/-- The state that such a command finds. -/
def atCmd (op : Nat) (args : List Word) (s : State) : State := atCommand op 0 7 args (put op args s)

/-- CmdReady of such a command, as data. -/
def ready (op : Nat) (args : List Word) (s : State) : Bool :=
  let s := put op args s
  eligible 0 (maxRes op) s && atFront op 0 7 args s && inTurn 0 s && nargsOf op args == some args.length && bitsOk op args
    && (!changesRender op || (s.twin.st != 2 && s.twin.st != 4))

theorem ready_iff {op : Nat} {args : List Word} {s : State} (h : ready op args s = true) : CmdReady op 0 7 args (put op args s) := by
  simp only [ready, Bool.and_eq_true, beq_iff_eq] at h
  exact ⟨h.1.1.1.1.1, h.1.1.1.1.2, h.1.1.1.2, h.1.1.2, h.1.2, fun hc => by simpa [hc] using h.2⟩

/-- EPOCH 102 in words 1 and 2, after the index. -/
def spawnArgs : List Word := [3, 102, 0, 0, 0, 0x10000, 0x4000000, 0x10000, 0, 0, 0, 0, 0, 0, 0, 0, 0, 0, 0]

theorem witness_ObjectCommands :
    ready 0x10 spawnArgs cmd = true
    ∧ (let u := atCmd 0x10 spawnArgs cmd
       (u.obj 3).st = .free ∧ partPending u = false ∧ EpochOk (epochOf spawnArgs) u)
    ∧ objStatus cmd.variant ((List.range 6).map (fun i => nth 0 spawnArgs (3 + i) &&& objMask i)) = []
    ∧ ((atCmd 0x10 spawnArgs (withObj .live cmd)).obj 3).st ≠ .free
    ∧ ready 0x13 [2048] cmd = true ∧ 2 * capObjs cmd.variant ≤ arg [2048] 0
    ∧ ready 0x13 [1024] cmd = true ∧ objCount cmd ≤ arg [1024] 0 ∧ arg [2047] 0 < 2 * capObjs cmd.variant ∧ arg [1023] 0 < objCount cmd
    ∧ ready 0x11 [3, 102, 0, 4, 0x10000] (withObj .live cmd) = true
    ∧ (let s := withObj .live cmd
       let s := s.setObj 3 { s.obj 3 with words := [0, 0, 0x10000, 0x4000000, 0x10000, 0] }
       objStatus s.variant (layOver (setPairs [3, 102, 0, 4, 0x10000]) (recordAt 3 102 (atCmd 0x11 [3, 102, 0, 4, 0x10000] s))) = [])
    ∧ ready 0x12 [3, 102, 0] (withObj .live cmd) = true
    ∧ ((atCmd 0x12 [3, 102, 0] (withObj .armed cmd)).obj 3).st ≠ .live := by unfold EpochOk; decide +kernel

/-- A segment of object 3 from sample 5 to sample 9. -/
def trajArgs : List Word := [3, 0, 0, 0, 0, 0, 0, 0, 0, 0, 0, 0, 0, 5, 0, 9, 0]

theorem witness_TrajectoryAndModuleCommands :
    ready 0x14 trajArgs (withObj .live cmd) = true ∧ (segOf trajArgs).tStart < (segOf trajArgs).tEnd
    ∧ (segOf trajArgs).tEnd < (segOf trajArgs).tStart + 2 ^ 40
    ∧ (let u := atCmd 0x14 trajArgs (withObj .live cmd)
       (u.obj 3).st ≠ .free ∧ (segsSeen 3 u).length < 4 ∧ (segsSeen 3 u).getLast? = none ∧ holdsItems u = false)
    ∧ ((atCmd 0x14 trajArgs cmd).obj 3).st = .free
    ∧ (segOf [3, 0, 0, 0, 0, 0, 0, 0, 0, 0, 0, 0, 0, 9, 0, 9, 0]).tEnd ≤ (segOf [3, 0, 0, 0, 0, 0, 0, 0, 0, 0, 0, 0, 0, 9, 0, 9, 0]).tStart
    ∧ ready 0x15 [3] (withObj .live cmd) = true
    ∧ holdsItems { (cmd.bset Reg.TWIN_CTL 31 true) with twin := { cmd.twin with peerSt := 2, lanes := 3 } } = true
    ∧ ready 0x1E [0, 102, 0, 1] cmd = true ∧ (∀ p ∈ (atCmd 0x1E [0, 102, 0, 1] cmd).scene.objs, p.2.st = .free)
    ∧ (∃ p ∈ (atCmd 0x1E [0, 102, 0, 1] (withObj .live cmd)).scene.objs, p.2.st ≠ .free)
    ∧ ready 0x04 [0, 102, 0, 1] cmd = true ∧ EpochOk 102 (atCmd 0x04 [0, 102, 0, 1] cmd)
    ∧ (let s := { cmd.bset Reg.TWIN_CTL 31 true with twin := { cmd.twin with peerSt := 2, lanes := 1 } }
       let u := atCmd 0x24 [0, 102, 0] s
       ready 0x24 [0, 102, 0] s = true ∧ hasTwin u = true ∧ transmits u = true ∧ peerStands u = true ∧ EpochOk 102 u
       ∧ peerStands (atCmd 0x24 [0, 102, 0] { s with twin := { s.twin with lanes := 0 } }) = false)
    ∧ (let s := { withObj .live (cmd.bset Reg.TWIN_CTL 31 true) with twin := { cmd.twin with peerSt := 2, lanes := 1 } }
       ready 0x15 [3] s = true ∧ ((atCmd 0x15 [3] s).obj 3).st ≠ .free ∧ holdsItems (atCmd 0x15 [3] s) = true)
    ∧ (let s := { cmd with variant := .el9630 }
       ready 0x24 [0, 102, 0] s = true ∧ hasTwin s = false) := by unfold EpochOk; decide +kernel

/-- Eight words of a speaker record after the epoch. -/
def spkArgs : List Word := [1023, 102, 0, 0, 0, 0, 0, 0, 196608, 0, 0]

theorem witness_SpeakerZoneMaskAndTableCommands :
    ready 0x18 spkArgs cmd = true ∧ getF (nth 0 spkArgs 8 &&& spkMask 5).toNat 17 0 ≤ 196608 ∧ arg spkArgs 0 < capOuts cmd.variant
    ∧ ((atCmd 0x18 spkArgs cmd).slotSt 0).st ≠ 1 ∧ ready 0x19 [1024] cmd = true ∧ capOuts cmd.variant ≤ 1024
    ∧ ready 0x1A [63, 102, 0, 15360, 1, 0, 0] cmd = true ∧ sgn 16 15360 ≤ 15360 ∧ -10240 ≤ sgn 16 (65536 - 10240)
    ∧ ready 0x1B [63] cmd = true ∧ ready 0x1B [64] cmd = true ∧ ready 0x1C ([63, 102, 0] ++ List.replicate 32 0) cmd = true
    ∧ (let args : List Word := [2047, 102, 0, 1, 0x100000, 1]
       let f := fetch (addrOf args 4) 48 (atCmd 0x1D args cmd)
       ready 0x1D args cmd = true ∧ f.ok = true ∧ f.bad = 0 ∧ ∀ p ∈ chop 12 1 f.words, vbapAbsent cmd.variant p = false)
    ∧ (let args : List Word := [1023, 102, 0, 1, 0x100000, 1]
       let s := { cmd with mem := cmd.mem.wrWord 0x100100004 0x80 }
       let f := fetch (addrOf args 4) 8 (atCmd 0x20 args s)
       ready 0x20 args s = true ∧ f.ok = true ∧ f.bad = 0 ∧ ∀ p ∈ chop 2 1 f.words, routeStatus s.variant p = [])
    ∧ (let args : List Word := [960, 102, 0, 64, 0x100000, 1]
       let f := fetch (addrOf args 4) 512 (atCmd 0x20 args cmd)
       ready 0x20 args cmd = true ∧ f.ok = true ∧ f.bad = 0 ∧ (∃ p ∈ chop 2 64 f.words, Status.range ∈ routeStatus cmd.variant p)
       ∧ ∀ p ∈ chop 2 64 f.words, Status.absent ∉ routeStatus cmd.variant p)
    ∧ ready 0x20 [0, 102, 0, 65, 0x100000, 1] cmd = true := by decide +kernel

/-- Queue `q` enabled with DEPTH 16 and the given PRODUCER and CONSUMER, holding `es`. -/
def withQ (q prod cons : Nat) (es : List QEntry) (s : State) : State :=
  let s := (s.wr (Reg.QUEUE_CFG q) (2 ^ 31 + 16 * 2 ^ 16 + cons * 2 ^ 8 + prod)).setQueue q ⟨0, es, false, [], none⟩
  storeEntries q 0 es s

theorem witness_QueuesPushPopAndFlush :
    (let s := withQ 0 0x41 0x40 [⟨5, false, false⟩] fw
     s.served (Reg.QUEUE_PUSH_HI 0) = true ∧ producerOk (s.fget (Reg.QUEUE_CFG 0) 7 0) (Master.qcode .host) = true ∧ dualClock 0 = false
     ∧ holdsItems s = false ∧ s.qEnabled 0 = true ∧ s.rd (Reg.QUEUE_WM 0) = 0 ∧ (s.queue 0).items.length + 2 ≤ s.qDepth 0
     ∧ producerOk (s.fget (Reg.QUEUE_CFG 0) 7 0) (Master.qcode (.scribe 0)) = false
     ∧ s.served (Reg.QUEUE_POP_LO 0) = true ∧ s.fget (Reg.QUEUE_CFG 0) 15 8 = Master.qcode (.scribe 0) ∧ s.fget (Reg.QUEUE_CFG 0) 15 8 ≠ Master.qcode .host
     ∧ slotView (slotAt 0 0 s) s = ⟨5, false, false⟩ ∧ s.bankOn (slotBank (slotAt 0 0 s)) = true ∧ s.served (Reg.QUEUE_FLUSH 0) = true ∧ hostBarred (.scribe 0) 0 = false
     ∧ hostBarred .host 0 = true ∧ s.served (Reg.QUEUE_CFG 0) = true ∧ s.served (Reg.QUEUE_WM 0) = true)
    ∧ (let s := withQ 255 0x41 0x40 (List.replicate 15 ⟨5, false, false⟩) fw
       s.qDepth 255 < (s.queue 255).items.length + 2 ∧ (s.queue 255).items.getLast? = some ⟨5, false, false⟩)
    ∧ (let s := withQ 255 0x41 0x40 (List.replicate 15 ⟨5, false, false⟩ ++ [gapEntry 1]) fw
       s.qDepth 255 < (s.queue 255).items.length + 2 ∧ (s.queue 255).items.getLast? = some (gapEntry 1))
    ∧ (let s := { fw with qHold := [(16, 0)] }
       producerOk (s.fget (Reg.QUEUE_CFG 16) 7 0) (Master.qcode .host) = true ∧ holdsItems s = false
       ∧ (BitVec.ofNat 60 ((Tab.get (fun _ => (0 : Word)) s.qHold 16).toNat + (0x01000000 % 2 ^ 28) * 2 ^ 32)).toNat / 2 ^ 56 = 1 ∧ Tab.find s.pairs 0 = none)
    ∧ (dualClock 21 = true ∧ producerOk (fw.fget (Reg.QUEUE_CFG 21) 7 0) (Master.qcode (.scribe 0)) = true ∧ (fw.queue 21).transit = [])
    ∧ fw.qEnabled 0 = false
    ∧ (16 ≤ getF 0x90000000 28 16 ∧ getF 0x90000000 28 16 ≤ 4096 ∧ fw.rd (Reg.QUEUE_BASE 0) + getF 0x90000000 28 16 ≤ 98304)
    ∧ (∀ j, j < 256 → fw.qEnabled j = false) ∧ ¬ (16 ≤ getF 0x800F0000 28 16) := by decide +kernel

/-- A queue at one word below its watermark, armed or not; the pop below it; a word whose check fails; queue 16 with half a pair. -/
theorem witness_watermark_parity_and_pairs :
    (let s := (withQ 0 0x41 0x40 [⟨5, false, false⟩] fw).wr (Reg.QUEUE_WM 0) 2
     let t := s.setQueue 0 { s.queue 0 with armed := true, popped := some false }
     s.qEnabled 0 = true ∧ 0 < s.rd (Reg.QUEUE_WM 0) ∧ (s.queue 0).items.length + 2 ≤ s.qDepth 0 ∧ s.rd (Reg.QUEUE_WM 0) ≤ (s.queue 0).items.length + 1
     ∧ (t.queue 0).armed = true ∧ (t.queue 0).popped.getD (t.queue 0).armed = false ∧ (s.queue 0).armed = false
     ∧ (s.queue 0).items.length = ([] : List QEntry).length + 1 ∧ slotView (slotAt 0 0 s) s = ⟨5, false, false⟩
     ∧ (let u := { s with mem := s.mem.setBad (slotWords (slotAt 0 0 s) s).1 true, sched := { s.sched with parityBlock := true } }
        u.bankOn (slotBank (slotAt 0 0 u)) = true ∧ (slotView (slotAt 0 0 u) u).bad = true))
    ∧ (fw.wr (Reg.QUEUE_CFG 3) 0x80100540).fget (Reg.QUEUE_CFG 3) 15 8 < 64
    ∧ (let s := { withQ 16 0x41 0x40 [] fw with pairs := [(0, 0x100000000000001)], qHold := [(16, 0)] }
       s.served (Reg.QUEUE_PUSH_HI 16) = true ∧ producerOk (s.fget (Reg.QUEUE_CFG 16) 7 0) (Master.qcode .host) = true ∧ holdsItems s = false
       ∧ s.qEnabled 16 = true ∧ s.rd (Reg.QUEUE_WM 16) = 0 ∧ Tab.find s.pairs (Master.key .host) = some (0x100000000000001)
       ∧ (s.queue 16).items.length + 3 ≤ s.qDepth 16 ∧ (BitVec.ofNat 60 ((0x02000000 : Nat) % 2 ^ 28 * 2 ^ 32)).toNat / 2 ^ 56 ≠ 1
       ∧ Tab.find { s with pairs := [] }.pairs (Master.key .host) = none)
    ∧ (let s := { withQ 16 0x41 0x40 (List.replicate 14 ⟨5, false, false⟩) fw with pairs := [(0, 0x100000000000001)] }
       s.qDepth 16 < (s.queue 16).items.length + 3 ∧ (s.queue 16).items.getLast? = some ⟨5, false, false⟩) := by decide +kernel

theorem witness_ProgramMemoryAndAnchorSeal :
    fw.served (Reg.QCORE_PM_HI 0) = true ∧ (fw.core 0).st ≠ .running ∧ fw.level = 2 ∧ ((qs .nop .nop).core 0).st = .running
    ∧ fw.served (Reg.QCORE_PM_LO 63) = true ∧ fw.quillDebug 63 = true ∧ fw.time.anchorDue = false ∧ EpochOk (live.bn + 2) live
    ∧ (let s := live.setCommits ((List.range 8).map (fun i => newCommit .el9610 i (200 + i) [] [] false 0))
       s.sched.rendering = true ∧ ¬ EpochOk (s.bn + 2) s) := by unfold EpochOk; decide +kernel

theorem witness_ModuleCommandsAndStrayWords :
    ready 0x00 [] cmd = true ∧ ready 0x01 [1] cmdIdle = true ∧ (atCmd 0x01 [1] cmdIdle).mediaRun = false
    ∧ ready 0x02 [] cmdIdle = true ∧ canStart (atCmd 0x02 [] (cmdIdle.bset Reg.CLK_MEDIA_STATUS 31 true)) = true ∧ canStart cmd = false
    ∧ ready 0x03 [7] cmd = true ∧ ready 0x03 [1] cmd = true ∧ pwrState (atCmd 0x03 [1] cmd) + 1 = 1
    ∧ (let u := atCmd 0x03 [1] (cmd.fset Reg.PWR_STATUS 31 30 1)
       pwrBusy u = false ∧ pwrState u = 1)
    ∧ eligible 0 1 fw = false ∧ eligible 0 1 cmd = true ∧ cmd.hif.skipping.contains 0 = false ∧ cmd.qView 0 = []
    ∧ (∀ e ∈ ([⟨3, true, false⟩, ⟨5, false, false⟩, ⟨headerWord 0x7F 0 9, false, false⟩, ⟨headerWord 0x05 1 9, false, false⟩] : List QEntry),
        (withQ 0 0x41 0x40 [e] cmd).qView 0 = [e])
    ∧ (let s := withQ 0 0x41 0x40 [⟨5, false, false⟩] cmd
       ({ s with mem := s.mem.setBad (slotWords (slotAt 0 0 s) s).1 true } : State).qView 0 = [⟨5, false, true⟩])
    ∧ (∀ es ∈ ([[⟨3, true, false⟩], [⟨5, false, false⟩], [⟨headerWord 0x7F 0 9, false, false⟩], [⟨headerWord 0x05 1 9, false, false⟩, ⟨3, true, false⟩],
          [⟨headerWord 0x05 1 9, false, false⟩, ⟨headerWord 0 0 9, false, false⟩]] : List (List QEntry)),
        let s := withQ 0 0x41 0x40 es cmd
        s.qView 0 = es ∧ eligible 0 (frontRoom es) s = true ∧ inTurn 0 s = true)
    ∧ (let s := { cmd with hif := { cmd.hif with skipping := [0] } }
       eligible 0 (frontRoom (s.qView 0)) s = true ∧ inTurn 0 s = true ∧ s.hif.skipping.contains 0 = true)
    ∧ (let s := withQ 1 0x41 0x40 [⟨5, false, false⟩] (withQ 0 0x41 0x40 [⟨5, false, false⟩] ((cmd.wr (Reg.QUEUE_CFG 9) 0x80404140).wr (Reg.QUEUE_BASE 9) 192))
       eligible 1 (frontRoom (s.qView 1)) s = true ∧ (inTurn 0 s != inTurn 1 s) = true)
    ∧ isHeader ⟨headerWord 0x7F 0 9, false, false⟩ = true ∧ nargsOf (getF (headerWord 0x7F 0 9).toNat 55 48) [] = none
    ∧ ([] : List QEntry).length < getF (headerWord 0x05 1 9).toNat 47 42
    ∧ getF (headerWord 0x00 0 (2 ^ 40)).toNat 41 32 ≠ 0 := by decide +kernel

theorem witness_RoomCorrectionSlots :
    capRcc cmd.variant ≠ 0 ∧ ready 0x22 [255] cmd = true ∧ ready 0x22 [256] cmd = true
    ∧ (let u := atCmd 0x22 [255] cmd
       slotNamed 255 u = false ∧ (u.slotSt 255).st ≠ 1 ∧ holdsItems u = false)
    ∧ ((atCmd 0x22 [255] (setSlot 255 ⟨1, 1, false⟩ cmd)).slotSt 255).st = 1
    ∧ capRcc ({ cmd with variant := .el9630 } : State).variant = 0 ∧ ready 0x21 [0, 0, 8] { cmd with variant := .el9630 } = true
    ∧ ready 0x21 [0, 4, 8] cmd = true ∧ addrOf [0, 4, 8] 1 % 64 ≠ 0
    ∧ fw.out.loads.head? = none := by decide +kernel

/-- An image of one partition at 32 GiB, where DRAM begins, and RCC_LOAD of it into slot 5. -/
def withImage : State := { cmd with mem := cmd.mem.wrWord 0x800000000 1 }

/-- The module as that command finds it. -/
def atImage : State := atCmd 0x21 [5, 0, 8] withImage

/-- What the command reads: the header, then the exponents. -/
def imgHead : List (Word × Bool) × State := readMarked 16 0x800000000 atImage

def imgExps : List (Word × Bool) × State := readMarked ((imgParts (nth (0, true) imgHead.1 0).1 + 3) / 4) 0x800000040 imgHead.2

theorem witness_RoomCorrectionLoad :
    ready 0x21 [5, 0, 8] withImage = true ∧ spanDram withImage.variant 0x800000000 64 = true
    ∧ (imgHead.1 ++ imgExps.1).all (fun w => w.2 == false) = true ∧ imgParts (nth (0, true) imgHead.1 0).1 = 1 ∧ 1 ≤ partsMax atImage.is48
    ∧ getF (nth (0, true) imgHead.1 0).1.toNat 17 16 = b2n atImage.is48 ∧ (imgHead.1.drop 1).all (fun w => w.1 == 0) = true
    ∧ imgExpBad 1 imgExps.1 = false ∧ spanDram withImage.variant 0x800000000 (imgLen atImage.is48 1) = true
    ∧ slotNamed 5 atImage = false ∧ (atImage.slotSt 5).st = 0 := by decide +kernel

theorem witness_AbortsAndDma :
    ready 0x05 [0x111] cmd = true ∧ abortCode 0x111 = false ∧ ready 0x05 [0x3F] cmd = true ∧ abortCode 0x3F = true ∧ abortPresent cmd.variant 0x3F = true
    ∧ abortPresent .el9620 0x3F = false ∧ abortIdle 0x3F (atCmd 0x05 [0x3F] cmd) = false ∧ abortIdle 0x300 (atCmd 0x05 [0x300] cmd) = true
    ∧ fw.served Reg.HIF_ABORT = true ∧ fw.hif.abortBusy = false ∧ ({ fw with hif := { fw.hif with aborting := [5], abortBusy := true } } : State).hif.abortBusy = true
    ∧ ready 0x09 [0, 8, 0x1000, 8, 64] cmd = true ∧ sourceOk cmd.variant 0x800000000 64 = true ∧ destOk cmd.variant 0x800001000 64 = true
    ∧ destOk cmd.variant 0x107E00000 4 = false ∧ (0x800000000 < hostBit) ∧ hostReach (atCmd 0x09 [0, 8, 0x1000, 8, 64] cmd) = false
    ∧ sourceOk cmd.variant hostBit 64 = true
    ∧ (let s := { fw with hif := { fw.hif with dma := [(3, ⟨3, 7, 0x800000000, 0x800001000, 64, 16⟩)] } }
       s.hif.dma.find? (fun p => p.1 == 3) = some (3, ⟨3, 7, 0x800000000, 0x800001000, 64, 16⟩) ∧ ∀ p ∈ s.hif.dma, p.1 ≠ 2) := by decide +kernel

/-- A Folio header with the words of R499, and its payload. -/
def folio (type flags svn slot load : Nat) (payload : List Byte) : List Byte :=
  leBytes 4 0x464F4C31 ++ leBytes 2 1 ++ leBytes 2 type ++ leBytes 4 flags ++ leBytes 4 svn ++ leBytes 4 slot ++ leBytes 4 payload.length ++ leBytes 8 load
    ++ List.replicate 288 0 ++ payload

/-- Steps 1, 2, 4 and 7 of R501 can be met or failed; the outcome of step 3 is the signature's, which no rule lets the model compute. -/
theorem witness_FoliosAndMram :
    folioFormat [] = false ∧ folioFormat (folio 2 0 0 0 0x107100000 [1, 2, 3, 4]) = true ∧ folioEnc (folio 2 0 0 0 0x107100000 [1]) = false
    ∧ folioKey fw.sec (folio 2 0 0 3 0x107100000 [1]) = true ∧ folioKey fw.sec (folio 2 0 0 4 0x107100000 [1]) = false
    ∧ folioRoll { fw.sec with svnBits := 2 ^ 64 - 1 } (folio 1 0 63 0 0x107000000 [1]) = false ∧ folioRoll fw.sec (folio 1 0 0 0 0x107000000 [1]) = true
    ∧ folioEnc (folio 2 1 0 0 0x107100000 [1]) = true ∧ fw.sec.imgKey = none
    ∧ ready 0x06 [2, 8] cmd = true ∧ sourceOk cmd.variant (addrOf [2, 8] 0) 320 = false ∧ ready 0x06 [0, 8] cmd = true
    ∧ (fetch 0x800000000 320 (atCmd 0x06 [0, 8] cmd)).ok = true ∧ folioBarred (folio 1 0 0 0 0x107000000 [1]) cmd = true
    ∧ folioAbsent .el9620 (folio 3 0 0 0 (0x108000000 + 63 * 0x8000) [1]) = true ∧ folioAbsent .el9610 (folio 3 0 0 0 (0x108000000 + 63 * 0x8000) [1]) = false
    ∧ folioBarred (folio 2 0 0 0 0x107100000 [1]) cmd = false
    ∧ ready 0x07 [0x10000, 0, 8, 4] cmd = true ∧ imageBank 0 ≤ 0x10000 ∧ 0x10000 + 4 ≤ imageBank 2 ∧ 4 < imageBank 0
    ∧ (let w := fetch 0x800000000 4 (atCmd 0x07 [0x10000, 0, 8, 4] cmd)
       w.ok = true ∧ w.bad = 0)
    ∧ (let u := atCmd 0x07 [0x10000, 0, 8, 4] (cmd.fset Reg.HIF_BOOT 25 24 0)
       runBank u < 2 ∧ 0x10000 < imageBank (runBank u) + 0x1F00000 ∧ imageBank (runBank u) < 0x10000 + 4)
    ∧ ready 0x08 [0, 8] cmd = true ∧ (fetch 0x800000000 64 (atCmd 0x08 [0, 8] cmd)).ok = true ∧ dirOk [] = false
    ∧ dirOk (leBytes 4 0x44495231 ++ leBytes 4 0 ++ leBytes 4 1 ++ leBytes 4 1 ++ leBytes 4 0x1F10000 ++ leBytes 4 1024 ++ leBytes 4 1 ++ leBytes 4 0) = true := by
  decide +kernel

theorem witness_LinkAndBootStages :
    (∀ k ∈ [0, 1, 2, 3, 4, 5, 6, 7, 8], ({ fw with hif := { fw.hif with stage := k } } : State).hif.stage = k)
    ∧ (let s := { fw with hif := { fw.hif with linkUp := false } }
       s.hif.linkUp = false ∧ s.hif.stage ≠ 0)
    ∧ (let s := { fw with hif := { fw.hif with linkUp := false, stage := 1, bootSrc := true } }
       s.hif.linkUp = false ∧ s.hif.stage = 1 ∧ s.hif.bootSrc = true)
    ∧ (let s := { fw with hif := { fw.hif with stage := 6 }, pwr := { fw.pwr with planDue := false } }
       s.pwr.planDue = false ∧ s.hif.dirUsed = none ∧ { s with pwr := { s.pwr with planDue := true } }.pwr.planDue = true)
    ∧ fw.hif.linkUp = true ∧ (3 : Word).toNat % 4 = 3
    ∧ fw.served Reg.HIF_DRAM_WIN = true ∧ (∀ p ∈ fw.hif.dma, p.2.src < hostBit) ∧ dirValid [] = false ∧ fw.bget Reg.HIF_BOOT 26 = false := by decide +kernel

theorem witness_MessagesAndTrace :
    (let s := { (fw.bset (Reg.HIF_MSIX_CTRL 63) 0 false).bset Reg.HIF_STATUS 0 true with
       hif := { fw.hif with msixPend := 0x8000000000000000, msixEn := true, msixSent := [(63, 9)] } }
     s.hif.linkUp = true ∧ s.bget Reg.HIF_STATUS 0 = true ∧ s.hif.d3 = false ∧ s.hif.msixEn = true ∧ s.fget Reg.EVT_MOD 7 0 ≤ 9 ∧ bitOf s.hif.msixPend.toNat 63 = true ∧ s.bget (Reg.HIF_MSIX_CTRL 63) 0 = false ∧ s.hif.funcMask = false
     ∧ Tab.find s.hif.msixSent 63 = some 9 ∧ hostReach s = true ∧ hostReach fw = false)
    ∧ traceOn fw = false
    ∧ (let s := fw.wr Reg.DBG_TRACE_CTL 0x80000008
       traceOn s = true ∧ s.stat.traceBuf = [] ∧ s.bget Reg.DBG_TRACE_CTL 3 = true ∧ s.bget Reg.DBG_TRACE_CTL 0 = false ∧ s.stat.traceLost = 0
       ∧ (let t := { s with stat := { s.stat with traceBuf := [[0x20], [0x21]] } }
          traceOn t = true ∧ t.stat.traceBuf = [0x20] :: [[0x21]] ∧ t.stat.traceLost = 0)) := by decide +kernel

theorem witness_FeedsAndReset :
    (let s := { fw with pwr := { fw.pwr with off := true } }
     s.pwr.off = true ∧ s.pwr.powering = false)
    ∧ ({ fw with pwr := { fw.pwr with powering := true } } : State).pwr.powering = true ∧ fw.pwr.powering = false
    ∧ (let s := { fw with pwr := { fw.pwr with brownAt := some 0 }, sched := { fw.sched with up := 1000000 } }
       s.pwr.brownAt = some 0 ∧ 0 + 1000000 ≤ s.sched.up ∧ s.sec.burn = none)
    ∧ fw.pwr.off = false ∧ fw.pwr.brownAt = none ∧ 3 ≤ feedState ((fw.fset (Reg.PWR_FEED 0) 31 29 3).fset (Reg.PWR_FEED 1) 31 29 4) 1
    ∧ fw.sec.burn = none ∧ feedState fw 1 ≤ 2 ∧ (fw.fset (Reg.PWR_FEED 1) 15 0 12000).fget (Reg.PWR_FEED 1) 15 0 ≠ 0 ∧ pwrState fw ≠ 2
    ∧ (3 ≤ feedClass 10800 13200 8999 ∧ feedClass 10800 13200 9000 = 1 ∧ feedClass 10800 13200 14000 = 2 ∧ feedClass 10800 13200 14001 = 4) := by decide +kernel

theorem witness_PowerStates :
    fw.served Reg.PWR_CTL = true ∧ pwrBusy fw = false ∧ pwrState fw = 0 ∧ fuseBusy fw = false ∧ transmits fw = true ∧ fw.twin.peerSt ≠ 2
    ∧ pwrBusy (fw.bset Reg.PWR_STATUS 29 true) = true ∧ fuseBusy { fw with sec := { fw.sec with burn := some (10, []) } } = true
    ∧ pwrState (fw.fset Reg.PWR_STATUS 31 30 1) = 1 ∧ pwrState (fw.fset Reg.PWR_STATUS 31 30 2) = 2
    ∧ (let s := { live with sched := { live.sched with quietAt := some 100 } }
       s.sched.quietAt = some 100 ∧ 100 ≤ s.bn)
    ∧ (let s := { live.bset Reg.CLK_MEDIA_CTL 0 true with sched := { live.sched with quietAt := some 101 } }
       s.bn < 101 ∧ s.mediaRun = true)
    ∧ (let s := (fw.bset Reg.PWR_WAKE_EN 0 true).fset Reg.PWR_STATUS 31 30 2
       s.bget Reg.PWR_WAKE_EN 0 = true ∧ s.pwr.off = false ∧ pwrState s = 2 ∧ s.pwr.tripHit = false)
    ∧ (let s := { (fw.bset Reg.PWR_WAKE_EN 1 true).wr Reg.PWR_WAKE_TIMER 1 with sched := { fw.sched with up := 1000000000 } }
       s.rd Reg.PWR_WAKE_TIMER ≠ 0 ∧ s.pwr.standbyAt + s.rd Reg.PWR_WAKE_TIMER * 1000000000 ≤ s.sched.up)
    ∧ bankPresent fw.variant 271 = true ∧ fw.fget (Reg.MEMC_BANK_PWR 271) 31 30 ≠ 2 ∧ fw.bget (Reg.MEMC_BANK_PWR 271) 29 = false := by decide +kernel

theorem witness_SensorsVoltageAndHours :
    sensCount 2 ≤ 24 ∧ 0 < sensCount 0 ∧ fw.pwr.off = false ∧ pwrState fw ≠ 2 ∧ fw.coreOn = true
    ∧ hottest { fw with pwr := { fw.pwr with sens := [(128, 29440)] } } = 29440 ∧ hottest { fw with pwr := { fw.pwr with sens := [(128, 29439)] } } < 29440
    ∧ sgn 16 (fw.fget Reg.PWR_THERM 15 0) ≤ 29439 ∧ fw.served Reg.PWR_AVS = true ∧ fw.sched.rendering = false
    ∧ (let s := live.fset Reg.PWR_AVS 20 16 10
       s.sched.rendering = true ∧ getF (9 : Word).toNat 4 0 < s.fget Reg.PWR_AVS 20 16)
    ∧ (let s := { fw with sched := { fw.sched with up := 3600000000000 } }
       s.pwr.hourAt + 3600000000000 ≤ s.sched.up) ∧ fw.booted = true ∧ canaryFails fw = false
    ∧ (let s := { (fw.fset Reg.PWR_AVS 28 24 20) with pwr := { fw.pwr with sens := [(64, 19)] } }
       canaryFails s = true ∧ worstSlack s = some 19)
    ∧ fw.sched.up < fw.pwr.avsAt + 10000 ∧ ¬ (({ fw with sched := { fw.sched with up := 10000 } } : State).sched.up < fw.pwr.avsAt + 10000)
    ∧ fw.pwr.planDue = true ∧ ({ fw with pwr := { fw.pwr with planDue := false } } : State).pwr.planDue = false
    ∧ (let s := { fw with pwr := { fw.pwr with sens := [(64, 30)], fresh := [1] } }
       Tab.find s.pwr.sens 64 = some 30 ∧ 0 ∉ s.pwr.fresh ∧ 1 ∈ s.pwr.fresh)
    ∧ (List.range 16).all (fun i => ({ fw with pwr := { fw.pwr with canaryRead := List.range 16 } } : State).pwr.canaryRead.contains i) = true
    ∧ ddrServed fw 0 = true ∧ carriesRender live 18 = false ∧ carriesRender { live with twin := { live.twin with lanes := 1 } } 16 = true := by decide +kernel

theorem witness_FusesAndSvnCommit :
    fw.served Reg.SEC_CTL = true ∧ fw.served Reg.SEC_FUSE_CTL = true ∧ fw.sec.burn = none ∧ fw.sec.svnRun ≤ fw.sec.svn
    ∧ (let s := { fw with sec := { fw.sec with lc := 2, svnRun := 3 } }
       s.sec.svn < s.sec.svnRun ∧ s.sec.lc ≠ 0)
    ∧ (let x := fw.sec
       x.lc ≤ 1 ∧ x.hash 1 = none ∧ x.imgKey = none ∧ fw.sched.rendering = false ∧ bitOf 0x80000001 31 = true ∧ getF 0x8000000D 4 0 = 13)
    ∧ ({ fw with sec := { fw.sec with burn := some (13, []), killHeld := true }, pwr := { fw.pwr with heldReq := 2 } } : State).sec.burn = some (13, [])
    ∧ fw.sec.session = false ∧ fw.pwr.heldReq = 0 ∧ ({ fw with sec := { fw.sec with session := true } } : State).sec.session = true := by
  decide +kernel

/-- A response can pass: the digest is that of its key, and the signature's outcome is the hypothesis. -/
theorem witness_debug_passes (h : ecdsaOk ((authBytes fw).take 97) (sha384 (([0x44, 0x42, 0x47, 0x31] : List Byte)
      ++ leBytes 8 fw.sec.uid.toNat ++ wordBytes fw.sec.verifying)) (slice (authBytes fw) 128 96) = true) :
    let s := { fw with sec := { fw.sec with lc := 1, phase := 2, hashes := [none, none, none, none, some (sha384 ((authBytes fw).take 97))] } }
    s.sec.phase = 2 ∧ s.sec.kill = false ∧ s.sec.lc = 1 ∧ s.sec.fails < 3 ∧ s.sec.hash 4 = some (sha384 ((authBytes s).take 97))
    ∧ ecdsaOk ((authBytes s).take 97) (sha384 (([0x44, 0x42, 0x47, 0x31] : List Byte) ++ leBytes 8 s.sec.uid.toNat
        ++ wordBytes s.sec.verifying)) (slice (authBytes s) 128 96) = true ∧ s.sec.verifyAge ≤ 10000000000 :=
  ⟨rfl, rfl, rfl, by decide, rfl, h, by decide⟩

theorem witness_DebugAccessAndTap :
    fw.served Reg.DBG_CTL = true ∧ fw.sec.fails < 3 ∧ ({ fw with sec := { fw.sec with phase := 1, nonceAt := some 5 } } : State).sec.nonceAt = some 5
    ∧ fw.served Reg.SEC_TWIN_KEY_CTL = true ∧ fw.coreOn = true ∧ fw.level = 2 ∧ fw.sched.rendering = false
    ∧ ({ fw with sec := { fw.sec with lc := 2, kill := true } } : State).level = 0 ∧ ({ fw with sec := { fw.sec with lc := 1 } } : State).level = 1
    ∧ (bankOf 0x107DFFFFC).isSome = true ∧ 0x800000000 < hostBit := by decide +kernel

/-- A frame of 60 bytes to the broadcast address with an EtherType of 0x1234, and its FCS. -/
def frame60 : List Byte := List.replicate 6 0xFF ++ List.replicate 6 0x02 ++ [0x12, 0x34] ++ List.replicate 46 0

/-- Media port 15 enabled with its link up. -/
def netOn : State := (fw.bset (netReg 15 0) 0 true).bset (netReg 15 4) 31 true

theorem witness_ReceivedFramesAreJudged :
    netPresent netOn 15 = true ∧ netEnabled netOn 15 = true ∧ netLinkUp netOn 15 = true ∧ netEnabled fw 15 = false
    ∧ 64 ≤ (frame60 ++ leBytes 4 (crc32 frame60)).length ∧ (frame60 ++ leBytes 4 (crc32 frame60)).length ≤ netMaxLen netOn 15
    ∧ (frame60 ++ leBytes 4 (crc32 frame60)).drop 60 = leBytes 4 (crc32 ((frame60 ++ leBytes 4 (crc32 frame60)).take 60))
    ∧ isPtp frame60 = false ∧ streamOf netOn 15 frame60 = none ∧ beNat (slice frame60 12 2) ≠ 0x8808 ∧ passesFilter netOn 15 frame60 = true
    ∧ passesFilter netOn 15 (List.replicate 60 0x02) = false
    ∧ (let f := List.replicate 12 (2 : Byte) ++ [0x88, 0x08, 0, 1, 0, 9] ++ List.replicate 42 0
       beNat (slice f 12 2) = 0x8808 ∧ beNat (slice f 14 2) = 1)
    ∧ netOn.bget (netReg 15 4) 26 = false ∧ ringOwned netOn 15 false 0 = false
    ∧ (let s := ((netOn.wr (ringReg 15 false 0 8) 8).wr (ringReg 15 false 0 0x14) 1).wr (ringReg 15 false 0 0xC) 2048
       ringOwned s 15 false 0 = true ∧ frame60.length ≤ s.rd (ringReg 15 false 0 0xC)) := by decide +kernel

/-- The same port with a stream frame waiting in class 3. -/
def netBusy : State := netOn.setNet 15 { netOn.netSt 15 with cls := [[], [], [], [(0, frame60)]] }

theorem witness_TransmitLinkAndManagement :
    (netOn.netSt 15).halted = false ∧ (netOn.netSt 15).wire = none ∧ ringOwned netOn 15 true 0 = false ∧ ringOwned netOn 15 true 1 = false
    ∧ (netOn.netSt 15).pauseQ = 0 ∧ readyClass netOn 15 = none ∧ readyClass (netBusy.setNet 15 { netBusy.netSt 15 with
        credit := (List.range 4).map (creditNow netBusy 15), creditAt := netBusy.sched.up }) 15 = some 3
    ∧ 15 < capMedia netOn.variant
    ∧ (let f : TxFrame := ⟨wireFrame (frame60 ++ frame60 ++ frame60), 1, false, 0, 0⟩
       let s := netBusy.fset (netReg 15 4) 29 28 2
       let s := s.setNet 15 { s.netSt 15 with wire := some f }
       let t := s.setNet 15 { s.netSt 15 with credit := (List.range 4).map (creditNow s 15), creditAt := s.sched.up }
       (s.netSt 15).wire = some f ∧ s.fget (netReg 15 4) 29 28 = 2 ∧ f.express = false ∧ f.src < 2 ∧ f.sent + 60 + 64 ≤ f.bytes.length
       ∧ (expressReady 15 t).1 = true ∧ (s.netSt 15).pauseQ = 0 ∧ netPresent s 15 = true ∧ netEnabled s 15 = true ∧ (s.netSt 15).halted = false
       ∧ netLinkUp s 15 = true ∧ ringOwned s 15 true 0 = false ∧ ringOwned s 15 true 1 = false ∧ readyClass t 15 = some 3
       ∧ nth [] (s.netSt 15).cls 3 = [(0, frame60)])
    ∧ netPresent ({ netOn with variant := .el9630 } : State) 15 = false ∧ netOn.fget (netReg 15 0) 17 16 < 2
    ∧ (netOn.fset (netReg 15 4) 29 28 1).fget (netReg 15 4) 29 28 = 1
    ∧ (let s := ((netOn.wr (ringReg 15 true 1 8) 8).wr (ringReg 15 true 1 0x14) 1)
       ringOwned (endFrame 15 (settleCredit 15 s)) 15 true 1 = true ∧ ringOwned (endFrame 15 (settleCredit 15 s)) 15 true 0 = false)
    ∧ netOn.served (ringReg 15 true 1 0x14) = true ∧ netLinkUp fw 15 ≠ true ∧ fw.booted = true
    ∧ (let s := (netOn.setNet 15 { netOn.netSt 15 with pauseQ := 5 }).fset (netReg 15 0x20) 15 0 1
       (s.netSt 15).pauseQ ≠ 0 ∧ s.fget (netReg 15 0x20) 15 0 ≠ 0 ∧ s.sched.up < (s.netSt 15).heldFrom + s.fget (netReg 15 0x20) 15 0 * 1000000
       ∧ (s.sched.up - (s.netSt 15).pauseAt) * netRate s 15 < (s.netSt 15).pauseQ * 512 * 1000000
       ∧ (let l := { s with sched := { s.sched with up := 1000000 } }
          (l.netSt 15).heldFrom + l.fget (netReg 15 0x20) 15 0 * 1000000 ≤ l.sched.up ∧ (l.netSt 15).holdEnd ≤ l.sched.up
          ∧ (l.netSt 15).pauseQ * 512 * 1000000 ≤ (l.sched.up - (l.netSt 15).pauseAt) * netRate l 15))
    ∧ fw.sched.up < ({ netOn.netSt 15 with holdEnd := 5 } : NetSt).holdEnd
    ∧ 9 * netRate netOn 15 < 10 * (upd ((List.range 4).map (slopeOf netOn 15)) 3 (0xFFFFFF % 2 ^ 24)).foldl (· + ·) 0
    ∧ 10 * (upd ((List.range 4).map (slopeOf netOn 15)) 3 0).foldl (· + ·) 0 ≤ 9 * netRate netOn 15
    ∧ fw.served Reg.MGMT_MDIO = true ∧ fw.bget Reg.MGMT_MDIO 31 = false
    ∧ ((fw.bset Reg.MGMT_MDIO 31 true).bset Reg.MGMT_MDIO 30 true).bget Reg.MGMT_MDIO 30 = true := by decide +kernel

theorem witness_StreamsAreFinalisedAndSent :
    fw.strm.done = false ∧ fw.strm.open' = [] ∧ liveRx fw = []
    ∧ (let s := live.bset (Reg.STRM_RX_STATUS 1023) 31 true
       liveRx s = [1023] ∧ rxGroup s 1023 = 0 ∧ s.coreOn = true)
    ∧ (let s := (live.bset (Reg.STRM_RX_STATUS 5) 29 true).setSrx 5 { live.srx 5 with lastPri := some 84 }
       (s.srx 5).lastPri = some 84 ∧ 84 + 16 ≤ s.bn ∧ s.bget (Reg.STRM_RX_STATUS 5) 29 = true)
    ∧ ((fw.setSrx 5 { fw.srx 5 with clearing := true }).srx 5).clearing = true ∧ (fw.srx 5).clearing = false
    ∧ (let s := ((fw.bset (Reg.STRM_TX_STATUS 7) 31 true).fset (Reg.STRM_TX_PKT 7) 24 16 1).setStx 7 { fw.stx 7 with frames := [[1]] }
       txLive s 7 = true ∧ 0 < s.fget (Reg.STRM_TX_PKT 7) 24 16 ∧ s.fget (Reg.STRM_TX_PKT 7) 24 16 ≤ (s.stx 7).frames.length
       ∧ transmits s = true ∧ transmits { s with twin := { s.twin with st := 2 } } = false)
    ∧ netEnabled netOn 15 = true ∧ netLinkUp netOn 15 = true ∧ (netOn.netSt 15).halted = false
    ∧ frame60.length + 4 ≤ netMaxLen netOn 15 ∧ netMaxLen netOn 15 < 1600 := by decide +kernel

/-- A TDM port with TDM_CTL at `c` and STATE at `st`. -/
def tdmPort (p c st : Nat) (s : State) : State := (s.wr (Reg.TDM_CTL p) c).fset (Reg.TDM_STATUS p) 31 30 st

theorem witness_TdmPortsMoveFrames :
    fw.served (Reg.TDM_CTL 31) = true ∧ fw.bget (Reg.TDM_CTL 31) 31 = false ∧ tdmOk (fw.wr (Reg.TDM_CTL 31) (0x40000000 &&& 0x7FC3003F)) 31 = false
    ∧ tdmOk (fw.wr (Reg.TDM_CTL 31) 0x48020008) 31 = true
    ∧ (let s := tdmPort 31 0xC8020008 2 fw
       tdmOn s 31 = true ∧ tdmState s 31 = 2 ∧ tdmMode s 31 = 0 ∧ tdmMaster s 31 = true ∧ (s.tdm 31).start ≤ s.time.mst ∧ (s.tdm 31).resume ≤ s.time.mst)
    ∧ (let s := tdmPort 0 0x98020008 2 fw
       tdmOn s 0 = true ∧ tdmMode s 0 = 1 ∧ (s.tdm 0).rxM ≠ some s.time.mst)
    ∧ tdmMode (tdmPort 0 0xA8020008 2 fw) 0 = 2 ∧ tdmState (tdmPort 0 0x88020008 3 fw) 0 = 3
    ∧ (let s := tdmPort 0 0x88020008 1 fw
       let t := s.setTdm 0 { s.tdm 0 with good := 15, gateOk := true }
       tdmMaster s 0 = false ∧ (s.tdm 0).nextM = none ∧ (s.tdm 0).good < 15 ∧ 15 ≤ (t.tdm 0).good ∧ (t.tdm 0).gateOk = true ∧ (t.tdm 0).nextM = none)
    ∧ live.sched.verdictDone = false ∧ live.cond.handed = false ∧ fw.twin.floating = false ∧ (fw.tdm 0).pendTx = none
    ∧ (let s := (tdmPort 0 0x88020008 2 fw).bset (Reg.TDM_STATUS 0) 27 true
       s.bget (Reg.TDM_STATUS 0) 27 = true ∧ tdmState s 0 = 2 ∧ tdmMode s 0 = 0 ∧ tdmMaster s 0 = false
       ∧ (let a := tdmPort 0 0x88020008 1 s
          tdmState a 0 = 1 ∧ a.bget (Reg.TDM_STATUS 0) 28 = false ∧ (a.bset (Reg.TDM_STATUS 0) 28 true).bget (Reg.TDM_STATUS 0) 28 = true))
    ∧ tdmMode (tdmPort 0 0xA8020008 3 fw) 0 = 2 ∧ tdmState (tdmPort 0 0xA8020008 3 fw) 0 = 3 ∧ tdmMode (tdmPort 0 0x88020008 3 fw) 0 = 0
    ∧ frameOpen (100 * live.blockLen) live = true ∧ frameOpen (98 * live.blockLen) live = false
    ∧ ppmApart (96000 * 65536) (fw.fs * 65536) (fw.fget (Reg.TDM_SYNC_TOL 0) 15 0) = false
    ∧ ppmApart (48000 * 65536) (fw.fs * 65536) (fw.fget (Reg.TDM_SYNC_TOL 0) 15 0) = true := by decide +kernel

/-- A request of a whole unit at port RT0. -/
def unitReq (wr : Bool) (a : Nat) : DramArr := ⟨0, wr, a, List.replicate 16 (15, 7), 0⟩

/-- A read or a write of the unit at an address waits in the queues of DDR0. -/
def entry (n port : Nat) (wr : Bool) (a : Nat) : DramReq := ⟨n, port, wr, a, List.replicate 16 ⟨15, 7, false⟩, 0, 0, 0, false⟩

/-- DDR0 with these queues. -/
def dramQ (rq wq : List DramReq) (s : State) : State := s.setDdr 0 { s.ddrSt 0 with rq := rq, wq := wq }

theorem witness_DramWordsAndRefresh :
    inDram fw.variant 0xFFFFFFFC0 = true ∧ inDram fw.variant 0x1000000000 = false ∧ ddrOf fw.variant 0xFFFFFFFC0 = 1 ∧ ddrOf fw.variant 0x800000000 = 0
    ∧ 2 ≤ ddrState fw 0 ∧ ddrPaused fw 0 = false ∧ ddrState State.reset 0 < 2
    ∧ (let k := fw.ddrSt 0
       k.rq = [] ∧ k.wq = [] ∧ k.wait = [] ∧ k.wb = [] ∧ k.ceWords = [] ∧ k.ueWords = [] ∧ k.drain = false ∧ k.panic = [] ∧ ([k.nextSeq]).contains k.nextSeq = true)
    ∧ (nth (0, 0) (unitReq true 0x800000000).words 15).1 ≠ 0 ∧ (unitReq false 0x800000000).wr = false ∧ fw.mem.bad = []
    ∧ ({ fw.mem with bad := [0x80000003C] } : Mem).bad.contains (0x800000000 + 4 * 15) = true
    ∧ fw.bget (Reg.DDR_STATUS 0) 28 = true ∧ ddrState fw 0 ≠ 3 ∧ (fw.bset (Reg.DDR_STATUS 0) 28 false).bget (Reg.DDR_STATUS 0) 28 = false
    ∧ (let s := dramQ [entry 4 0 false 0x800000000] [entry 5 0 true 0x800000100] fw
       choose s 0 [4, 5] = some (entry 4 0 false 0x800000000) ∧ choose s 0 [5] = some (entry 5 0 true 0x800000100) ∧ choose s 0 [] = none
       ∧ candidates s 0 [4, 5] (s.ddrSt 0).rq = [entry 4 0 false 0x800000000] ∧ (s.ddrSt 0).drain = false ∧ outranked s 0 [4, 5] 6 = true
       ∧ (let u := s.setDdr 0 { s.ddrSt 0 with drain := true }
          choose u 0 [4, 5] = some (entry 5 0 true 0x800000100) ∧ candidates u 0 [4, 5] (u.ddrSt 0).wq ≠ [] ∧ (u.ddrSt 0).wq.length < 64
          ∧ (∀ x ∈ candidates u 0 [4, 5] (u.ddrSt 0).rq, classOf u 0 x ≠ 1)
          ∧ (let p := u.setDdr 0 { u.ddrSt 0 with panic := [0] }
             choose p 0 [4, 5] = some (entry 4 0 false 0x800000000) ∧ classOf p 0 (entry 4 0 false 0x800000000) = 1))) := by decide +kernel

/-- The low-priority units, the ports and the refreshes of the same statement. -/
theorem witness_DramPortsAndRefresh :
    (let s := (fw.bset (Reg.DDR_CTL 0) 16 true).setDdr 0 { fw.ddrSt 0 with wb := [0x800000040] }
     s.bget (Reg.DDR_CTL 0) 16 = true ∧ (s.bset (Reg.DDR_CTL 0) 16 false).bget (Reg.DDR_CTL 0) 16 = false ∧ outranked s 0 [] 6 = false
     ∧ (s.ddrSt 0).wb = [0x800000040])
    ∧ present fw.variant (Reg.DDR_CTL 1) = true ∧ present .el9630 (Reg.DDR_CTL 1) = false ∧ panicCond fw 0 0 = false
    ∧ (let s := dramQ [entry 4 0 false 0x800000000] [] (fw.fset (Reg.DDR_RT_CFG 0 0) 7 0 1)
       panicCond s 0 0 = true ∧ 0 ∉ (s.ddrSt 0).panic)
    ∧ (let s := { dramQ [entry 4 3 false 0x800000000] [] fw with sched := { fw.sched with up := 100000 } }
       (s.ddrSt 0).rq = [entry 4 3 false 0x800000000] ∧ (s.ddrSt 0).wq = [] ∧ (s.ddrSt 0).wait = [] ∧ urgency s 0 (entry 4 3 false 0x800000000) = 2)
    ∧ refDue fw 0 = true ∧ refDue (fw.setDdr 0 { fw.ddrSt 0 with refAt := some 0 }) 0 = false
    ∧ 1 < activeRanks fw.variant ∧ 0 < owed (setOwed 0 1 15 fw) 0 1 ∧ fw.fget (Reg.DDR_REF 0) 2 0 < owed (setOwed 0 1 15 fw) 0 1 ∧ owed fw 0 0 = 0
    ∧ refMay (setOwed 0 1 15 fw) 0 1 [] = true ∧ refForced (setOwed 0 1 1 fw) 0 1 = false ∧ refMay (setOwed 0 1 1 fw) 0 1 [] = true
    ∧ refMay (setOwed 0 0 1 (dramQ [entry 4 0 false 0x800000000] [] fw)) 0 0 [4] = false
    ∧ fw.bget (Reg.DDR_STATUS 0) 27 = false ∧ 21760 < (packTemp fw 0 21761).toInt ∧ (packTemp fw 0 21247).toInt < 21248
    ∧ (∀ i, i < 4 → Tab.find fw.pwr.sens (144 + 4 * 0 + i) = none)
    ∧ (fw.bset (Reg.DDR_STATUS 0) 27 true).bget (Reg.DDR_STATUS 0) 27 = true := by decide +kernel

theorem witness_DramTrainingRetirementAndTests :
    fw.served (Reg.DDR_CTL 0) = true ∧ 2 ≤ activeRanks fw.variant ∧ fw.bget (Reg.DDR_STATUS 0) 28 = true ∧ fw.fget (Reg.DDR_STATUS 0) 1 0 = 2
    ∧ (fw.setDdr 0 { fw.ddrSt 0 with applyAt := some 0 }).bn = 0 ∧ (fw.ddrSt 0).applyAt = none
    ∧ (let s := (fw.fset (Reg.DDR_STATUS 0) 31 29 3).setDdr 0 { fw.ddrSt 0 with migRank := some 1 }
       let at' := unitAddr s.variant 0 1 (s.rd (Reg.DDR_MIG_PTR 0))
       (s.ddrSt 0).migRank = some 1 ∧ ddrState s 0 = 3 ∧ s.rd (Reg.DDR_MIG_PTR 0) < 134217728 ∧ ddrPaused s 0 = false
       ∧ outranked s 0 [] (if copyBehind s 0 then 3 else 6) = false ∧ s.mem.bad = [] ∧ (s.ddrSt (ddrOf s.variant at')).ceWords = []
       ∧ (s.ddrSt (ddrOf s.variant at')).ueWords = [] ∧ (s.ddrSt (ddrOf s.variant at')).ueBlock = false ∧ s.coreOn = true
       ∧ (s.wr (Reg.DDR_MIG_PTR 0) 134217728).rd (Reg.DDR_MIG_PTR 0) = 134217728
       ∧ outranked (dramQ [entry 4 0 false 0x800000000] [] s) 0 [4] (if copyBehind s 0 then 3 else 6) = true)
    ∧ fw.served (Reg.DDR_TEST_CTL 0) = true ∧ fw.fget (Reg.DDR_STATUS 0) 3 2 = 0 ∧ fw.fget (Reg.DDR_STATUS 0) 5 4 = 1 ∧ fw.fget (Reg.DDR_STATUS 0) 1 0 = 2
    ∧ (fw.ddrSt 0).testRunning = false := by decide +kernel

/-- The module with the link UP on both lanes and TWIN_CTL.EN, in a twin state. -/
def twin (st : Nat) (s : State) : State :=
  let s := s.bset Reg.TWIN_CTL 31 true
  { s with twin := { s.twin with st := st, lanes := 3, peerSt := 2 } }

theorem witness_LigatureFragmentsAndMessages :
    hasTwin fw = true ∧ (twin 1 fw).twin.lanes ≠ 0 ∧ fragOk [] = false ∧ fragOk (fragBytes 2 0 1 7 0 0 [9, 8, 7, 6, 5]) = true
    ∧ leNat (slice (fragBytes 2 0 1 7 0 0 [9, 8, 7, 6, 5]) 4 4) = (fw.twin.rxAck + 1) % 2 ^ 32 ∧ fw.twin.rxSack = []
    ∧ seqAfter (leNat (slice (fragBytes 2 0 0 7 0 0 [9]) 4 4)) fw.twin.rxAck = false ∧ fw.twin.rx = []
    ∧ wholeMsg [⟨5, 3, 1, 1, 1, []⟩, ⟨5, 3, 1, 0, 1, []⟩] ⟨5, 3, 1, 1, 1, []⟩ = true
    ∧ fw.twin.mseqSeen.contains 5 = false ∧ fw.twin.mseqHi ≤ 5 + 65536 ∧ ¬ (100000 ≤ 5 + 65536)
    ∧ ([⟨1, 0, 3, true, []⟩] : List TwFrag).find? (fun g => g.marked) = some ⟨1, 0, 3, true, []⟩ ∧ (0 ||| 2 ^ 1 : Nat) ≠ 0
    ∧ ({ live with cond := { live.cond with handed := true } } : State).cond.handed = true ∧ (verdictOf (leBytes 8 101 ++ List.replicate 8 0)).bn = live.bn + 1 := by
  decide +kernel

/-- A message whose MAC is right: its payload is the body and the MAC of its header and body. -/
theorem witness_message_good :
    let x : TwRx := ⟨5, 2, 3, 0, 0, msgMac fw 2 3 5 []⟩
    let s := { fw with twin := { fw.twin with rx := [x] } }
    s.twin.rx.find? (wholeMsg s.twin.rx) = some x ∧ 16 ≤ (msgPayload s.twin.rx x).length
    ∧ (msgPayload s.twin.rx x).drop ((msgPayload s.twin.rx x).length - 16) = msgMac s x.ty x.sub x.mseq [] := ⟨rfl, by decide, rfl⟩

theorem witness_TwinHeartbeatsAndPins :
    (let s := twin 2 live
     twinEn s = true ∧ s.sched.rendering = true ∧ s.twin.st ≠ 5 ∧ s.twin.hbDone = false ∧ s.sched.cycle ≤ 16 ∧ 1 ≤ s.bn ∧ s.twin.hbJudged ≠ s.bn
     ∧ s.twin.hbSeen.contains (s.bn - 1) = false ∧ s.twin.hbJudged + 1 ≠ s.bn
     ∧ (let u := { s with twin := { s.twin with hbMissed := 1, hbJudged := 99 } }
        u.twin.hbJudged + 1 = u.bn ∧ u.twin.hbMissed + 1 = 2 ∧ u.twin.lanes ≠ 0 ∧ u.twin.st = 2
        ∧ (let d := { u with twin := { u.twin with lanes := 0 } }
           d.twin.lanes = 0 ∧ d.twin.peerAlive = false ∧ ({ d with twin := { d.twin with peerAlive := true } } : State).twin.peerAlive = true))
     ∧ kicked { s with twin := { s.twin with kickAt := some 0, outDone := true } } = true ∧ kicked s = false)
    ∧ (let s := { twin 3 live with sched := { live.sched with up := 10 ^ 12 } }
       s.twin.waitAt + s.fget Reg.TWIN_TIMING 31 16 * 1000000 ≤ s.sched.up ∧ s.twin.syncAt + s.fget Reg.TWIN_TIMING 15 0 * 1000000000 ≤ s.sched.up
       ∧ s.twin.edgeAt + 600000 ≤ s.sched.up ∧ s.twin.aliveAt + 500000 ≤ s.sched.up)
    ∧ fw.fget Reg.PWR_STATUS 31 30 = 0 ∧ fw.twin.floating = false ∧ fw.hif.stage ≠ 0 ∧ hasTwin fw = true ∧ hasTwin { fw with variant := .el9630 } = false
    ∧ fw.served Reg.TWIN_CTL = true ∧ fw.bget Reg.TWIN_CTL 31 = false
    ∧ getF 0x80000400 10 8 = 4 ∧ getF 0x80000200 10 8 = 2 ∧ getF 0x80000100 10 8 = 1 ∧ getF 0x80000000 10 8 = 0 := by decide +kernel

theorem witness_TwinCommitsRecordsAndRepair :
    (let s := twin 1 live
     transmits s = true ∧ twinEn s = true ∧ s.twin.peerSt ≠ 5 ∧ withholding s = 0 ∧ releasable s.twin = [] ∧ s.twin.verdictSent ≠ s.bn + 1
     ∧ s.twin.recSent ≠ s.bn ∧ s.twin.heldItems = [] ∧ s.twin.unacked.length ≤ 4000 ∧ s.twin.repairs = []
     ∧ (let asked := { s with twin := { s.twin with repairs := [(99, 2047)] } }
        s.twin.repairSent + (leBytes 8 99 ++ repairEntry asked 99 2047).length + 16 ≤ 131072)
     ∧ ({ s with twin := { s.twin with repairIn := [(99, 2047, [])] } } : State).twin.repairIn = [(99, 2047, [])])
    ∧ (let s := { twin 4 live with twin := { (twin 4 live).twin with records := [(97, [1])], snaps := [(97, [1])], matched := 63 } }
       twinEn s = true ∧ s.twin.st = 4 ∧ s.twin.matched = 63 ∧ s.twin.lastApplied ≠ some (97 - 1)
       ∧ ({ s with twin := { s.twin with lastApplied := some 96 } } : State).twin.lastApplied = some (97 - 1) ∧ s.twin.records = [(97, [1])] ∧ Tab.find s.twin.snaps 97 = some [1] ∧ Tab.find s.twin.snaps 96 = none ∧ s.twin.due = [])
    ∧ sameSpan [1] [2] 0 0x80C0 = false ∧ 3 ≤ live.bn ∧ 2047 < 2 * capObjs live.variant
    ∧ live.bn * live.blockLen ≤ 99 * live.blockLen + winLen live.scene.wideR ∧ 99 + 1 ≤ live.bn ∧ ¬ (100 + 1 ≤ live.bn) := by decide +kernel

theorem witness_TwinRolesImagesAndHealth :
    transmits (twin 1 fw) = true ∧ twinEn (twin 3 fw) = true ∧ (twin 3 fw).twin.hello = false ∧ roleAlt fw = false
    ∧ (let s := { twin 3 fw with twin := { (twin 3 fw).twin with lanes := 0, hello := true } }
       s.twin.lanes = 0 ∧ s.twin.hello = true)
    ∧ 0x10000000 ≤ 0x10FFFFFF ∧ EpochOk (live.bn + 16) (twin 1 live) ∧ (fw.bset Reg.TWIN_CFG 30 true).bget Reg.TWIN_CFG 30 = true
    ∧ (let s := { (twin 2 fw).bset Reg.TWIN_CFG 30 true with twin := { (twin 2 fw).twin with hClean := 65535 } }
       s.twin.st = 2 ∧ s.fget Reg.TWIN_CFG 15 0 ≤ s.twin.hClean)
    ∧ (let s := { fw with sched := { fw.sched with up := 1000000000 } }
       s.twin.hAt + 1000000000 ≤ s.sched.up) := by unfold EpochOk; decide +kernel

/-- The pads, the rails, RESET_N and the trip of a feed: hypotheses of the statements on feeds and power. -/
theorem witness_pads_and_reset :
    (let s := { fw with variant := .el9630 }
     padPowered s (.mediaLane 15) = true ∧ padPresent s (.mediaLane 15) = false ∧ padPowered s .wclkOut = true ∧ padPresent s .wclkOut = true)
    ∧ extestOn { fw with sec := { fw.sec with ir := 3 } } = true ∧ fw.sec.ir ≠ 3 ∧ padPowered fw .twinSel = true
    ∧ (let s := { fw with pwr := { fw.pwr with off := true } }
       feedClass (s.fget Reg.PWR_FEED_THR 15 0) (s.fget Reg.PWR_FEED_THR 31 16) 12000 = 0
       ∧ ({ s with pwr := { s.pwr with powering := true, resetLow := true } } : State).pwr.resetLow = true)
    ∧ (let s := { fw with pwr := { fw.pwr with brownAt := some 5, bootHeld := some true }, sched := { fw.sched with up := 1000005 } }
       s.pwr.brownAt = some 5 ∧ s.sched.up ≤ 5 + 1000000 ∧ s.pwr.bootHeld = some true ∧ s.pwr.off = false
       ∧ ¬ (3 ≤ (feedStep (feedState s 0) (feedClass (s.fget Reg.PWR_FEED_THR 15 0) (s.fget Reg.PWR_FEED_THR 31 16) 12000) s.pwr.feedA).1))
    ∧ (let s := { fw with pwr := { fw.pwr with brownAt := some 5 }, sched := { fw.sched with up := 2000005 } }
       s.pwr.brownAt = some 5 ∧ 5 + 2000000 ≤ s.sched.up ∧ s.sec.burn = none)
    ∧ (∀ x ∈ [FeedSt.reset, { FeedSt.reset with trip := true }], x.calm + 1 < 10000) ∧ ({ FeedSt.reset with trip := true, calm := 9999 } : FeedSt).calm + 1 = 10000
    ∧ (let s := { fw with pwr := { fw.pwr with inReset := true, resetLow := true, brownAt := some 5 } }
       s.pwr.inReset = true ∧ s.pwr.brownAt = some 5 ∧ { s with pwr := { s.pwr with brownAt := none } }.pwr.brownAt = none)
    ∧ (fw.pwr.off = false ∧ pwrState fw ≠ 2 ∧ fw.pwr.inReset = false)
    ∧ (let s := (fw.bset Reg.PWR_WAKE_EN 2 true).fset Reg.PWR_STATUS 31 30 2
       let t := { s with pwr := { s.pwr with peerRose := true } }
       t.bget Reg.PWR_WAKE_EN 2 = true ∧ hasTwin t = true ∧ t.pwr.peerRose = true ∧ t.pwr.off = false ∧ pwrState t = 2 ∧ t.pwr.tripHit = false)
    ∧ (let s := { fw.fset Reg.PWR_STATUS 31 30 1 with pwr := { fw.pwr with want := 3, heldWake := 1 } }
       pwrState s = 1 ∧ s.pwr.want = 3 ∧ s.sec.burn = none ∧ { s with pwr := { s.pwr with heldWake := 0 } }.pwr.heldWake = 0)
    ∧ peerStands fw = false ∧ fw.scene.objs = [] := by decide +kernel

/-- The unread canaries, a burn cut short, the Scribe cores under SCRIBE_DM, and the keys. -/
theorem witness_canaries_burns_and_debug :
    (let s := { (fw.fset Reg.PWR_AVS 28 24 20) with pwr := { fw.pwr with sens := [(64, 19)], fresh := [0] } }
     canaryFails s = false ∧ canaryFails { s with pwr := { s.pwr with fresh := [] } } = true)
    ∧ (let s := { fw.bset Reg.PWR_CTL 9 true with pwr := { fw.pwr with canaryRead := List.range 16 } }
       s.bget Reg.PWR_CTL 9 = true ∧ (List.range 16).all (fun i => s.pwr.canaryRead.contains i) = true ∧ s.fget Reg.PWR_AVS 4 0 < 26)
    ∧ (let x := { fw.sec with svnBits := 5, svnRun := 3, burn := some (14, []) }
       x.svn = 1 ∧ bitOf x.svnBits 2 = true ∧ bitOf x.svnBits 1 = false ∧ x.svnRun ≤ 64 ∧ x.svn ≤ x.svnRun ∧ x.burn = some (14, []))
    ∧ (let s := { fw with sec := { fw.sec with dmActive := true, dmHalted := [3] } }
       s.pwr.off = false ∧ pwrState s ≠ 2 ∧ s.level = 2 ∧ 3 < 4 ∧ 3 ∈ s.sec.dmHalted)
    ∧ fw.bget Reg.TWIN_CTL 31 = false ∧ (fw.bset Reg.TWIN_CTL 31 true).bget Reg.TWIN_CTL 31 = true := by decide +kernel

/-- A first fragment and its continuations: the second counts 0 and carries the mCRC of what came before, or does not. -/
theorem witness_fragments :
    (let held : List Byte := List.replicate 60 1 ++ mCrc (List.replicate 60 1)
     let x : RxFrag := ⟨nth 0 smdCont 2, nth 0 fragCode 0, [9, 9, 9, 9]⟩
     nth 0 smdStart 2 ∈ smdStart ∧ (1 : Nat) ∉ smdStart ∧ x.smd = nth 0 smdCont 2 ∧ x.count = nth 0 fragCode (0 % 4)
     ∧ held.drop (held.length - 4) = mCrc (held.take (held.length - 4))
     ∧ ([] ++ x :: [] : List RxFrag) = [x] ∧ (List.replicate 64 (1 : Byte)).drop 60 ≠ mCrc (List.replicate 60 1)) := by decide +kernel

/-- The copy behind its rate, units below the pointer, the spare rank's refreshes, and tests on the spare and on an active rank. -/
theorem witness_copy_spare_and_tests :
    (let mig := (fw.fset (Reg.DDR_STATUS 0) 31 29 3).setDdr 0 { fw.ddrSt 0 with migRank := some 0 }
     let m := mig.wr (Reg.DDR_MIG_PTR 0) 1000
     fromSpare m 0 (unitAddr m.variant 0 0 5) = true ∧ fromSpare m 0 (unitAddr m.variant 0 0 2000) = false ∧ (m.ddrSt 0).migRank ≠ none
     ∧ ddrOf m.variant (unitAddr m.variant 0 0 5) = 0 ∧ inDram m.variant (unitAddr m.variant 0 0 5) = true ∧ copyWants fw 0 = false
     ∧ (let b := { m with sched := { m.sched with up := 10 ^ 15 } }
        copyWants b 0 = true ∧ classOf b 0 (entry 4 3 false 0x800000000) ≤ 3)
     ∧ (m.bset (Reg.DDR_STATUS 0) 28 false).fget (Reg.DDR_STATUS 0) 1 0 = 2)
    ∧ (let s := (dramQ [] [entry 5 0 true 0x800000040] fw)
       let t := s.setDdr 0 { s.ddrSt 0 with wb := [0x800000040, 0x800000080] }
       (t.ddrSt 0).wb = 0x800000040 :: [0x800000080] ∧ ∃ x ∈ (t.ddrSt 0).wq, x.unit = 0x800000040)
    ∧ (let s := fw.setDdr 0 { fw.ddrSt 0 with spareOwed := 3, refAt := some 0 }
       owed s 0 2 = 3 ∧ refMay s 0 2 [] = true ∧ refDue { s with sched := { s.sched with up := 3900 } } 0 = true)
    ∧ (let s := (fw.fset (Reg.DDR_TEST_CTL 0) 21 20 2).setDdr 0 { fw.ddrSt 0 with testRunning := true }
       (s.ddrSt 0).testRunning = true ∧ s.fget (Reg.DDR_TEST_CTL 0) 21 20 = s.fget (Reg.DDR_STATUS 0) 1 0 ∧ outranked s 0 [] 6 = false)
    ∧ (let s := ((fw.fset (Reg.DDR_STATUS 0) 31 29 1).wr (Reg.DDR_TEST_CTL 0) 1).setDdr 0 { fw.ddrSt 0 with testRunning := true }
       s.fget (Reg.DDR_STATUS 0) 3 2 = getF 1 21 20 ∧ getF 1 26 24 = 0 ∧ getF 1 15 0 * 16 = 16 ∧ (s.ddrSt 0).testRunning = true
       ∧ outranked s 0 [] 6 = false ∧ inDram s.variant (testAddr s 0 0) = true)
    ∧ (prbsBits 32 1).1 ≠ 0 := by decide +kernel

/-- A snapshot of a record's length for the interval. -/
theorem witness_record_made :
    let own : List Byte := List.replicate 62656 0
    Tab.find { twin 1 live with twin := { (twin 1 live).twin with snaps := [(100, own)] } }.twin.snaps live.bn = some own ∧ own.length = 62656 :=
  ⟨rfl, List.length_replicate⟩

/-- A record to make, one that is missing, HELLO with a lane UP, and a first miss of a module that already waits. -/
theorem witness_twin_more :
    (let t := { twin 1 live with sched := { live.sched with verdictDone := true } }
     peerFollows t = true ∧ t.sched.verdictDone = true ∧ t.twin.recMade ≠ t.bn ∧ t.twin.heldItems = [] ∧ t.twin.txq = [] ∧ t.twin.unacked.length ≤ 4000)
    ∧ (let s := { twin 1 live with twin := { (twin 1 live).twin with lanes := 0 } }
       transmits s = true ∧ peerFollows s = false)
    ∧ (let s := { twin 2 live with twin := { (twin 2 live).twin with standBn := 90, applied := [97, 95] } }
       twinEn s = true ∧ s.twin.standBn + 1 + 3 ≤ s.bn ∧ s.bn - 3 - 1 ∉ s.twin.applied
       ∧ (∀ k, k < 1 → s.bn - 3 - k ∈ s.twin.applied))
    ∧ (let s := { twin 3 fw with twin := { (twin 3 fw).twin with hello := true } }
       s.twin.lanes ≠ 0 ∧ s.twin.st = 3 ∧ s.twin.hello = true ∧ roleAlt s = false ∧ 0 = b2n (roleAlt s) ∧ 1 ≠ b2n (roleAlt s)
       ∧ roleAlt (s.bset Reg.TWIN_CFG 31 true) = true)
    ∧ (let t := (twin 1 fw).twin
       t.lanes ≠ 0 ∧ t.txq = [] ∧ t.unacked.length < 4096 ∧ t.txSince.getD 0 = 0)
    ∧ (let s := { twin 2 live with twin := { (twin 2 live).twin with lanes := 0, hbMissed := 1, hbJudged := 99, waiting := 1 } }
       s.twin.hbJudged + 1 = s.bn ∧ s.twin.waiting = 1 ∧ s.twin.peerAlive = false)
    ∧ (let s := { fw with twin := { fw.twin with peerEdges := 3 } }
       4 ≤ s.twin.peerEdges + 1 ∧ s.twin.peerAlive = false ∧ s.twin.due = []) := by decide +kernel

/-- A frame begun under its mask, a mask waiting, and a phase wrapped into the period. -/
theorem witness_frames_at_an_edge :
    (let s := tdmPort 0 0x88020008 2 live
     let t := s.setTdm 0 { s.tdm 0 with begun := [5], pendRx := some (3200, 7) }
     tdmOn t 0 = true ∧ (t.tdm 0).pendRx = some (3200, 7) ∧ (t.tdm 0).begun.head?.getD 0 = 5
     ∧ { t with time := { t.time with mst := 3199 } }.bn < (3231 + 1) / live.blockLen
     ∧ wrapPhase fw.fs 1 ≤ 0) := by decide +kernel

/-- Memory at reset has its canonical form, so some state meets the premise of the invariant. -/
theorem witness_StepKeepsInv : State.reset.mem.wf = true ∧ ({ fw with mem := fw.mem.wrByte 5 1 } : State).mem.wf = true := by decide +kernel

theorem witness_BundleRoundTrip : XOp.wf (.mac 3 15 15 3 15 15 3 3) = true ∧ YOp.wf (.repi 4096 4095) = true := by decide

/-! ## Ill-formed commands are refused -/

/-- One ill-formed command for each check of the X and Y fields, and of the core's number. -/
theorem test_wf_refuses_bundles : ∀ c ∈ ([
    .quillNop 0 (.aclr 0) .rti, .quillNop 64 .nop .nop, .mac 0 4 0 0 0 0 0 1 0 .nop, .mac 0 0 16 0 0 0 0 1 0 .nop, .mac 0 0 0 16 0 0 0 1 0 .nop,
    .mac 0 0 0 0 4 0 0 0 1 .nop, .mac 0 0 0 0 0 16 0 0 1 .nop, .mac 0 0 0 0 0 0 16 0 1 .nop, .mac 0 0 0 0 0 0 0 4 0 .nop, .mac 0 0 0 0 0 0 0 0 4 .nop,
    .mac 0 1 0 0 0 0 0 0 1 .nop, .mac 0 0 0 0 1 0 0 1 0 .nop, .mac 64 0 0 0 0 0 0 1 0 .nop, .add 0 16 0 0 .nop, .sub 0 0 16 0 .nop, .adds 0 0 0 16 .nop,
    .subs 0 0 0 0 (.bra 8), .and 64 0 0 0 .nop, .or 0 16 0 0 .nop, .xor 0 0 16 0 .nop, .min 0 0 0 16 .nop, .max 0 16 0 0 .nop, .asr 0 0 16 0 .nop,
    .lsl 0 0 0 16 .nop, .lsr 0 16 0 0 .nop, .cmp 0 16 0 .nop, .cmp 0 0 16 .nop, .neg 0 16 0 .nop, .abs 0 0 16 .nop, .not 0 16 0 .nop, .addi 0 16 0 0 .nop,
    .addi 0 0 16 0 .nop, .cmpi 0 16 0 .nop, .asri 0 0 0 32 .nop, .lsli 0 16 0 0 .nop, .lsri 0 0 16 0 .nop, .aclr 0 4 .nop, .acmov 0 4 0 .nop,
    .acadd 0 0 4 .nop, .acsub 0 4 0 .nop, .acsh 0 4 0 .nop, .acld 0 4 0 .nop, .acld 0 0 16 .nop, .acneg 0 4 .nop,
    .ld 0 32 0 0 false .nop, .ld 0 0 8 0 false .nop, .st 0 0 0 8 false .nop, .stac 0 4 0 0 false .nop, .lds 0 32 0 .nop, .sts 0 0 0x1008 .nop,
    .stacs 0 4 0 .nop, .mvac 0 16 0 .nop, .mvac 0 0 4 .nop, .mov 0 34 0 .nop, .mov 0 37 0 .nop, .mov 0 0 38 .nop, .ldi 0 16 0 .nop, .ldih 0 16 0 .nop,
    .rdac 0 0 0 3 .nop, .lia 0 8 0 .nop, .lim 0 8 0 .nop, .wrac 0 0 4 0 .nop, .adda 0 8 0 .nop, .adda 0 0 8 .nop, .addai 0 8 0 .nop, .fold 0 8 .nop,
    .setb 0 6 true .nop, .sscl 0 0 (.aclr 4), .br 0 4096 .nop, .bcc 0 16 0 .nop, .bcc 0 0 4096 .nop, .call 0 4096 .nop, .bra 0 8 .nop, .rti 64 .nop,
    .loop 0 16 0 .nop, .loop 0 0 4096 .nop, .repi 0 4097 0 .nop, .repi 0 0 4096 .nop, .repd 0 16 0 .nop, .wait 64 .nop, .brk 0 (.neg 16 0),
    .undefinedEncoding 64, .timerInterrupt 64, .qcoreDoorbell .host 64 0, .interruptEntry 64, .stallEnd 64 0, .postedStoreComplete 64, .start (.scribe 4) 0,
    .halt .host 64, .haltTaken 64, .step .host 64, .reset .host 64, .qcorePmHiWrite .host 64 0, .qcorePmLoRead (.scribe 9) 0] : List Instr),
    c.wf = false := by decide +kernel

/-- One ill-formed command for each other check: masters, offsets, addresses, instances, lengths. -/
theorem test_wf_refuses_commands : ∀ c ∈ ([
    .releaseFadeComplete 2048, .rulingDeadline 4097, .nibGroupRender 64 0 0, .nibGroupRender 0 8 0, .nibBistPass 0 32 true true, .nibDeadline [(64, 0)],
    .sumTreeReduce 8, .outputGroupProcess 8 0, .commitSeal (.scribe 4) 0, .commitAbandon (.scribe 4) 0, .armRaise 0 12, .shadowWrite .host 2 0,
    .registerWrite .host 16777216 0, .registerWrite (.scribe 4) 0 0, .rcRead .host 1, .latchingRead .host 3, .misalignedAccess .host 16777217 true,
    .nop 8 0 [], .objSpawn 0 0 (List.replicate 64 0), .twinHandover 8 0 [], .rccLoadComplete 256, .strayQueueWord 8, .hifAbortWrite (.scribe 4) 0,
    .abortComplete 65536, .dmaTransferComplete 8, .hifDramWinWrite (.scribe 4) 0, .hostBootDoorbell (.scribe 4) 0, .feedRise 2 0, .msixMessage 64,
    .snapRequest (.scribe 4) 0, .statShdDataRead (.scribe 4), .tracePacket 4, .memcWinLenWrite .host 288 0 0, .memcWinLenWrite .host 0 16 0,
    .memcBankPwrWrite .host 288 0, .bankPwrTransitionDone 288, .atomicAdd .host 0xFFFFFFFC 0 .idle, .atomicSwap .host 0x108000000 0 .swap .idle,
    .subWordWrite .host 0x100000002 0 0, .queuePush .host 256 0 false, .queuePop (.scribe 4) 0, .queueFlush .host 256 0, .queueEnableWrite .host 256 0,
    .queueWmWrite .host 256 0, .dualClockArrival 256 false, .timeTxtsIdRead .host 16, .ppsInEdge 129,
    .rxFrame 17 [] false true 0 0, .rxFrame 0 [] false true 1048576 0, .rxFrame 0 [] false true 0 129, .txFrameSelect 17 0, .txFrameSelect 0 1048576,
    .preempt 17 0 0, .preempt 0 60 1048576, .preemptVerify 17 true, .netLink 17 true true true, .ringTailWrite .host 2 0, .pauseTimerExpiry 17, .netPauseWd 17,
    .pauseHoldoffEnd 17, .netCbsSlopeWrite .host 0 4 0, .streamPathTimeout 1024 true, .spillRingClearDone 1024, .streamPacketHandoff 1024,
    .tdmEnableWrite .host 32 0, .tdmRxFrame 32 [] true 0, .tdmRxFrame 0 (List.replicate 33 0) true 0, .tdmTxFrame 32 false, .fsAbsent 32, .tdmRateGateEnd 32 0,
    .resamplerBlock 32 true, .dramRead 2 [] [] [], .dramRead 0 [⟨6, false, 0x800000000, List.replicate 16 (0, 0), 0⟩] [] [],
    .dramRead 0 [⟨0, false, 0x800000004, List.replicate 16 (0, 0), 0⟩] [] [], .dramWrite 0 [⟨0, true, 0x800000000, [], 0⟩] [] [] 0 false,
    .dramWrite 2 [] [] [] 0 false, .dramWrite 0 [] [] (List.replicate 17 0) 0 false, .correctedWriteBack 2 [], .panicRise 0 3,
    .userUrgencyRise 2 0, .refreshTick 2, .refab 0 3 [], .refab 2 0 [], .ddrTempReading 2 0, .ddrEnableWrite .host 2 0, .apply .host 2 0, .applyPause 2, .retire .host 2 0,
    .migrationCopy 2 [] [], .migrationComplete 2, .patrolScrubRead 0x800000004 [] [], .patrolScrubRead 0x7FFFFFFC0 [] [], .ddrTestStart .host 2 0, .ddrTestDone 2 0 0 0 0,
    .ligatureLaneChange 2 true, .repairRequest 0 [2048], .repairData 0 [(2048, [])], .hello 4 0 0, .hello 0 8 0,
    .feedCollapse 2, .wake 3 true, .sensorUpdate 4 0 0, .sensorUpdate 0 64 0, .secAuth 2 true 0, .bar2Write 0x20000000 0 .idle, .bar2Write 2 0 .idle,
    .bar2Write 0x20000000 0 .idle .read, .bar2Write 0 0 .idle (.load 4), .bar2Write 4 0 .idle (.cfgRead .id), .scribeDm (some (128, none)),
    .marginPlannerRun 0 0 [(2, 0, 0)], .dramRead 0 [] [] [] [(0x1000000000, 1)], .dramRead 0 [] [] [] [(0x800000000, 3)]] : List Instr),
    c.wf = false := by decide +kernel

/-- Frames and fragments of 65,536 bytes or more are no commands. -/
theorem test_wf_refuses_long_frames (bytes : List Byte) (h : bytes.length = 65536) :
    (Instr.rxFrame 0 bytes false true 0 0).wf = false ∧ (Instr.fragmentReceive bytes).wf = false := by simp [Instr.wf, h]

/-! ## Words written out from the encoding tables of R240, R241, R244, R245 -/

theorem test_decode_bundles :
    -- the biquad's bundles 0x049, 0x04F and 0x045, and the copy's LIA at 0x081
    decodeBundle 0x04A4600004800030 = some (.mac 0 8 0 0 0 0 3 0, .ld 10 2 1 true)
    ∧ decodeBundle 0x1CC00000490C0000 = some (.addi 4 3 0, .mvac 3 0)
    ∧ decodeBundle 0x7802005000000000 = some (.nop, .repi 32 0x50)
    ∧ decodeBundle 0x349927E000000000 = some (.nop, .lia 1 0x9927E0)
    -- ADD D1, D2, D3; CMP D0, D1; ACSH AC1, −1; ST AN = 1; STS D2 at 0x1000; MOV ST, D0; SETB IE; BCC LT; RTI
    ∧ decodeBundle 0x000000000848C000 = some (.alu .add 1 2 3, .nop)
    ∧ decodeBundle 0x0000000038004000 = some (.cmp 0 1, .nop)
    ∧ decodeBundle 0x0802000000000000 = some (.nop, .st 0 1 0 false)
    ∧ decodeBundle 0x1420100000000000 = some (.nop, .sts 2 0x1000)
    ∧ decodeBundle 0x2230000000000000 = some (.nop, .mov 35 0)
    ∧ decodeBundle 0x53F0000000000000 = some (.nop, .setb 31 true)
    ∧ decodeBundle 0x6480012300000000 = some (.nop, .bcc 2 0x123)
    ∧ decodeBundle 0x7000000000000000 = some (.nop, .rti) := by decide +kernel

/-- Opcodes 0x17 and 0x1F of the X slot and 0x22 of the Y slot are not defined, nor is an unused field that is not 0. -/
theorem test_decode_refuses :
    ([0x5C000000, 0x7C000000, 0x8800000000000000, 1, 0x848C001, 0x7000000000000001] : List Bundle).all (fun b => decodeBundle b == none) = true := by
  decide +kernel

/-! ## The spec's worked examples -/

theorem test_capabilities_el9630 :
    capWord .el9630 0 = 0x02041010 ∧ capWord .el9630 1 = 0x00100200 ∧ capWord .el9630 2 = 0x00080000 ∧ capWord .el9630 3 = 0x00009630 := by decide

theorem test_header_word : headerWord 0x12 3 7 = 0x8120C0000000007 := by decide

theorem test_tdm_ring_address :
    let s := (fw.fset (Reg.TDM_CTL 3) 5 0 16).wr (Reg.TDM_RX_RING 3) 0x04020000
    tdmAddr s 3 false 288000017 5 = 0x107880454 := by decide +kernel

theorem test_record_example :
    Rec.pack ⟨205824, 43690, false, true, 0⟩ = 0x0324002AAA90 ∧ recAddr 12 0 8492 = 0x10324C708 ∧ histAddr false 200 287999899 = 0x101641E6C := by decide

theorem test_coefficients_of_four_taps : (List.range 4).map (coefAt 4 128) = [-25699, 154546, 154546, -25699] := by decide +kernel

theorem test_segment_example :
    let g : Seg := ⟨⟨0, 0, 32768⟩, ⟨16384, 8192, 32768⟩, ⟨8192, 0, 0⟩, ⟨0, 4096, 0⟩, 0, 2000000000⟩
    segPos g 500000000 = ⟨4864, 896, 32768⟩ ∧ segPos g 1000000000 = ⟨10240, 3072, 32768⟩ := by decide +kernel

theorem test_accumulator_move :
    let ac := BitVec.ofInt 72 (-3 * 2 ^ 59)
    acMove 0x100 ac = (0xD0000000, false) ∧ acMove (0x100 + 29 * 2 ^ 16) ac = (0xFA000000, false) ∧ (acMove (0x100 + 2 * 2 ^ 16) ac) = (0x80000000, true)
    ∧ acMove (2 * 2 ^ 16) ac = (0x40000000, false) := by decide +kernel

theorem test_windows :
    [0x410, 0x450, 0x470, 0x4A0, 0x3B0].map (winHit 0x400 96 65536) = [some 0x410, some 0x450, some 0x410, some 0x440, some 0x410]
    ∧ [0x410, 0x450, 0x470, 0x4A0, 0x3B0].map (winHit 0x400 64 65536) = [some 0x410, some 0x410, some 0x430, none, none] := by decide

/-- Queue 35 at depth 16: of 18 words the last three stand as one GAP, and after five pops the next word is stored behind it. -/
theorem test_queue_gap :
    let go := fun (items : List QEntry) (i : Nat) => (pushItems 16 items [BitVec.ofNat 60 i]).1
    let full := (List.range 18).foldl go []
    full.length = 16 ∧ full.getLast? = some (gapEntry 3) ∧ (go (full.drop 5) 19).drop 10 = [gapEntry 3, ⟨19, false, false⟩] := by decide +kernel

theorem test_temperature_and_speed : Fx.spm 96000 5376 = 1171186015 := by decide +kernel

/-- The limiter of zone 3: a block that peaks 5.98 dB over the threshold gains 3 dB of reduction. -/
theorem test_limiter_example :
    let s := ((live.wr (Reg.OUT_LIM_THR 3) 0xF400).wr (Reg.OUT_LIM_ATTACK 3) 196608).setLim 3 ⟨65536, 60000, 58409, 4194304, false⟩
    let l := (limUpdate 0 s 3).limZone 3
    l.gr = 262144 ∧ (l.lgPrev, l.lgNew) = (58409, 41350) ∧ [0, 30, 31].map (fun i => rampPos l.lgPrev l.lgNew i 32) = [57875, 41855, 41350] := by decide +kernel

/-- Speaker 14 for object 90 under FOCUS. -/
theorem test_focus_example :
    let k : Spk := { Spk.reset with words := [0xFFFF8000, 0x2000, 0x9000, 0, 0x80000000] ++ List.replicate 3 0 }
    let x : Obj := { Obj.reset with words := [0, 0, 0, 0x04000000, 0, 12000] ++ List.replicate 10 0 }
    let r := facing true x ⟨49152, 122880, 16384⟩ k { Zone.reset with spm := 1171186015, dRef := 16384 }
    r.tau = 4691854 ∧ r.gl = 17899 ∧ r.active = true := by decide +kernel

theorem test_anchor_example : mstTime 96000 288000063 0 = 3000000656250 ∧ mstTime 96000 288000095 (-4000000000) = 2999750989583 := by decide +kernel

theorem test_dram_decode : ringAddr fw 611 288000113 = 0x8263A21C4 ∧ ddrOf .el9610 0x8263A21C4 = 1 ∧ rankOf .el9610 0x8263A21C4 = 0
    ∧ dramLoc .el9610 0x8263A21C4 = ⟨1, 1, 0, 2, 2, 1223, 128, 4⟩ := by decide +kernel

/-- R261: the owner adds 3 and a visitor adds 5 in one cycle: the owner goes first, and the two writes collide. -/
theorem test_bank_collision : bothPorts (10, false) (.add 3) (.add 5) = ((18, false), (10, false), (13, false))
    ∧ bothPorts (10, false) (.write 3) (.write 5) = ((3, false), (10, false), (10, false)) := by decide

theorem test_margin_example : planStep 38 8 6000 = 9 ∧ predict [(29000, 88800), (30000, 87900), (31000, 87000)] 147000 = 118888 := by decide +kernel

/-- The offsets of the absence table on an EL9630. -/
theorem test_absent_offsets :
    let s := { fw with variant := .el9630 }
    s.served 0x283004 = true ∧ ([0x2A5004, 0x94004, 0x10F804, 0x140C0C, 0x190004, 0x260000, 0x2C000C] : List Nat).all (fun a => !present .el9630 a) = true := by
  decide +kernel

end Sys2Proof.Tests
end

section
/-! Proofs about the accumulator operations of the X slot (R241, R242): what a bundle leaves of its core as `XLands` says it, and the
72-bit results of the accumulator operations and of MAC. -/

namespace Sys2Proof.Machine

/-! ## Every X-slot operation -/

/-- The command that names an X-slot operation issues its bundle. -/
theorem exec_xCmd (s : State) (k : Nat) (x : XOp) (y : YOp) : exec (xCmd k x y) s = .next (issue k x y s) := by
  cases x with
  | alu op => cases op <;> rfl
  | _ => rfl

/-- R252: a Y slot other than WRAC leaves the accumulators to the X slot. -/
theorem wracLand_of_not_wrac {y : YOp} (h : ∀ d ac p, y ≠ .wrac d ac p) (c0 : QCore) (r : XRes) (c : QCore) : wracLand c0 r y c = c := by
  unfold wracLand
  split
  · exact absurd rfl (h _ _ _)
  · rfl

/-- The registers after a bundle: the X slot's results on the Y slot's view, then a WRAC, then what the sequencer does. -/
theorem bundleRegs_seen (s : State) (k : Nat) (x : XOp) (y : YOp) :
    bundleRegs s k x y (seen s k)
      = advance (seen s k) (yControl (seen s k) y
          { wracLand (seen s k) (xEval (seen s k) x) y ((xEval (seen s k) x).land (yView s k y)) with
            acm := (seen s k).ac, acBusy := (xEval (seen s k) x).acW.map (fun w => w.1) }) := rfl

/-! What the X slot's results do to one register file, apart from the match on the D register written. -/

theorem XRes.land_d_of_none {x : XRes} (h : x.dW = Option.none) (c : QCore) : (x.land c).d = c.d := by
  simp only [XRes.land_eq, h]

theorem XRes.land_d_of_some {x : XRes} {p : Nat × Word} (h : x.dW = some p) (c : QCore) : (x.land c).d = upd c.d p.1 p.2 := by
  simp only [XRes.land_eq, h]

theorem afterRegs_d (s : State) (k : Nat) (x : XOp) (y : YOp) :
    ((afterRegs s k x y).core k).d = ((xEval (seen s k) x).land (yView s k y)).d := by
  simp only [afterRegs_core, bundleHalt_d, bundleRegs_seen, advance_d, yControl_d, wracLand_d]

theorem afterRegs_ac {y : YOp} (h : ∀ d ac p, y ≠ .wrac d ac p) (s : State) (k : Nat) (x : XOp) :
    ((afterRegs s k x y).core k).ac = (xEval (seen s k) x).acW.foldl (fun l p => upd l p.1 p.2) (yView s k y).ac := by
  simp only [afterRegs_core, bundleHalt_ac, bundleRegs_seen, advance_ac, yControl_ac, wracLand_of_not_wrac h, XRes.land_eq]

theorem afterRegs_acm (s : State) (k : Nat) (x : XOp) (y : YOp) : ((afterRegs s k x y).core k).acm = (seen s k).ac := by
  simp only [afterRegs_core, bundleHalt_acm, bundleRegs_seen, advance_acm, yControl_acm]

theorem afterRegs_sr {s : State} {k : Nat} (h : NoRestore s k) (x : XOp) (y : YOp) :
    ((afterRegs s k x y).core k).sr = ((xEval (seen s k) x).land (yView s k y)).sr := by
  simp only [afterRegs_core, bundleHalt_sr, bundleRegs_seen, advance_sr _ _ h, yControl_sr, wracLand_sr]

/-- R252: away from the end of an RTI, the X slot's results land on the registers as the Y slot left them. -/
theorem afterRegs_xLands {s : State} {k : Nat} (x : XOp) (y : YOp) (h : NoRestore s k) :
    XLands s k y ((afterRegs s k x y).core k) (xEval (seen s k) x).dW (xEval (seen s k) x).acW (xEval (seen s k) x).fl
      (xEval (seen s k) x).av := by
  refine ⟨?d, ?a, ?m, fun hy => afterRegs_ac hy s k x, afterRegs_acm s k x y, ?sr, ?iv, ?ipend, ?imask, ?epc, ?est, ?timer, ?pm, ?st⟩
  case d =>
    rw [afterRegs_d]
    cases hd : (xEval (seen s k) x).dW with
    | none => exact XRes.land_d_of_none hd _
    | some p => exact XRes.land_d_of_some hd _
  case a => simp only [afterRegs_core, bundleHalt_a, bundleRegs_seen, advance_a, yControl_a, wracLand_a, XRes.land_eq]
  case m => simp only [afterRegs_core, bundleHalt_m, bundleRegs_seen, advance_m, yControl_m, wracLand_m, XRes.land_eq]
  case sr => rw [afterRegs_sr h, XRes.land_eq]
  case iv => simp only [afterRegs_core, bundleHalt_iv, bundleRegs_seen, advance_iv, yControl_iv, wracLand_iv, XRes.land_eq]
  case ipend => simp only [afterRegs_core, bundleHalt_ipend, bundleRegs_seen, advance_ipend, yControl_ipend, wracLand_ipend, XRes.land_eq]
  case imask => simp only [afterRegs_core, bundleHalt_imask, bundleRegs_seen, advance_imask, yControl_imask, wracLand_imask, XRes.land_eq]
  case epc => simp only [afterRegs_core, bundleHalt_epc, bundleRegs_seen, advance_epc, yControl_epc, wracLand_epc, XRes.land_eq]
  case est => simp only [afterRegs_core, bundleHalt_est, bundleRegs_seen, advance_est, yControl_est, wracLand_est, XRes.land_eq]
  case timer => simp only [afterRegs_core, bundleHalt_timer, bundleRegs_seen, advance_timer, yControl_timer, wracLand_timer, XRes.land_eq]
  case pm => simp only [afterRegs_core, bundleHalt_pm, bundleRegs_seen, advance_pm, yControl_pm, wracLand_pm, XRes.land_eq]
  case st => simp only [afterRegs_core, bundleHalt_st, bundleRegs_seen, advance_st, yControl_st, wracLand_st, XRes.land_eq]

/-- A command that issues the bundle runs it, and its X slot leaves what it computes. -/
theorem xRun_xCmd {s : State} {k : Nat} {x : XOp} {r : XRes} (y : YOp) (h : xEval (seen s k) x = r) :
    XRun (xCmd k x y) s k x y r.dW r.acW r.fl r.av := by
  intro hrun hno
  subst h
  exact ⟨by rw [exec_xCmd, issue_runs hrun], afterRegs_xLands x y hno⟩

/-! ## 72-bit values -/

/-- R242: an exact value keeps its value in 72 bits unless it wraps. -/
theorem wrap72_eq (e : Int) : wrap72 e = (BitVec.ofInt 72 e, wraps72 e) := by
  unfold wrap72 wraps72
  congr 1
  rw [decide_eq_decide, BitVec.toInt_ofInt, Int.bmod_def]
  omega

/-- R241: ACSH to the left. -/
theorem acShift_of_nonneg (ac : BitVec 72) {sh : Int} (h : 0 ≤ sh) : acShift ac sh = wrap72 (ac.toInt * 2 ^ sh.toNat) := if_pos h

/-- R241: ACSH to the right. -/
theorem acShift_of_neg (ac : BitVec 72) {sh : Int} (h : sh < 0) : acShift ac sh = (BitVec.ofInt 72 (ac.toInt / 2 ^ (-sh).toNat), false) := by
  simp only [acShift, Int.not_le.mpr h, ↓reduceIte, fdiv, Int.natCast_pow, Int.cast_ofNat_Int]

/-! ## MAC -/

/-- R242: the exact value that a line of MAC gives its accumulator. -/
def macExact (op : Nat) (ac : BitVec 72) (p : Int) : Int :=
  if op = 1 then ac.toInt + p else if op = 2 then ac.toInt - p else if op = 3 then p else ac.toInt

/-- R242: a line of MAC that is in use leaves its exact value in 72 bits; to set the product never wraps. -/
theorem macLine_eq {op : Nat} (h4 : op < 4) (h0 : op ≠ 0) (ac : BitVec 72) (p : Int) :
    macLine op ac p = (BitVec.ofInt 72 (macExact op ac p), op != 3 && wraps72 (macExact op ac p)) := by
  obtain rfl | rfl | rfl : op = 1 ∨ op = 2 ∨ op = 3 := by omega
  · exact wrap72_eq _
  · exact wrap72_eq _
  · rfl

/-- R242: a line of MAC with operation 0 leaves its accumulator and does not wrap. -/
theorem macLine_unused (ac : BitVec 72) (p : Int) : macLine 0 ac p = (ac, false) := rfl

/-- R242: the product of two D registers. -/
def QCore.prod (c : QCore) (a b : Nat) : Int := (c.dreg a).toInt * (c.dreg b).toInt

/-- R242: both lines of MAC in use; on one accumulator the second sees what the first left. -/
theorem macEval_both (c : QCore) (d da1 da2 e db1 db2 : Nat) {opa opb : Nat} (ha : opa < 4) (hb : opb < 4) (ha0 : opa ≠ 0) (hb0 : opb ≠ 0) :
    let ra := macExact opa (nth 0 c.ac d) (c.prod da1 da2)
    let rb := macExact opb (if d = e then BitVec.ofInt 72 ra else nth 0 c.ac e) (c.prod db1 db2)
    macEval c d da1 da2 e db1 db2 opa opb
      = ⟨none, [(d, BitVec.ofInt 72 ra), (e, BitVec.ofInt 72 rb)], Flags.none, (opa != 3 && wraps72 ra) || (opb != 3 && wraps72 rb)⟩ := by
  simp only [macEval, ha0, ↓reduceIte, BitVec.ofNat_eq_ofNat, ha, ne_eq, not_false_eq_true, macLine_eq, hb0, decide_true, Bool.true_and,
    decide_eq_true_eq, hb, List.cons_append, List.nil_append, QCore.prod]

/-- R242: the first line of MAC alone in use. -/
theorem macEval_first (c : QCore) (d da1 da2 : Nat) {opa : Nat} (ha : opa < 4) (ha0 : opa ≠ 0) :
    let ra := macExact opa (nth 0 c.ac d) (c.prod da1 da2)
    macEval c d da1 da2 0 0 0 opa 0 = ⟨none, [(d, BitVec.ofInt 72 ra)], Flags.none, opa != 3 && wraps72 ra⟩ := by
  simp only [macEval, ha0, ↓reduceIte, BitVec.ofNat_eq_ofNat, macLine_eq ha ha0, List.append_nil, ne_eq, not_false_eq_true, decide_true,
    Bool.true_and, decide_eq_true_eq, macLine_unused, Bool.or_false, QCore.prod]

/-- R242: the second line of MAC alone in use. -/
theorem macEval_second (c : QCore) (e db1 db2 : Nat) {opb : Nat} (hb : opb < 4) (hb0 : opb ≠ 0) :
    let rb := macExact opb (nth 0 c.ac e) (c.prod db1 db2)
    macEval c 0 0 0 e db1 db2 0 opb = ⟨none, [(e, BitVec.ofInt 72 rb)], Flags.none, opb != 3 && wraps72 rb⟩ := by
  simp only [macEval, ↓reduceIte, hb0, ne_eq, not_true_eq_false, decide_false, Bool.false_and, Bool.false_eq_true, BitVec.ofNat_eq_ofNat,
    macLine_eq hb hb0, List.nil_append, macLine_unused, Bool.false_or, QCore.prod]

/-- Settles O5: each operation's result is what `xEval` computes, with the wraps of 72 bits told by the exact value. -/
theorem accumulatorResults : Obligations.AccumulatorResults := by
  unfold Obligations.AccumulatorResults
  intro s k d e ds da1 da2 db1 db2 opa opb sh y A B pa pb line ra rb
  have wrapped {a : Nat} {v : Int} {x : XOp} (h : xEval (seen s k) x = XRes.acc a (wrap72 v)) :
      XRun (xCmd k x y) s k x y none [(a, BitVec.ofInt 72 v)] Flags.none (wraps72 v) := xRun_xCmd y (wrap72_eq v ▸ h)
  refine ⟨?clr, ?mov, ?add, ?sub, ?neg, ?ld, ?left, ?right, ?both, ?first, ?second, ?unused⟩
  case clr => exact xRun_xCmd (x := .aclr d) y rfl
  case mov => exact xRun_xCmd (x := .acmov d e) y rfl
  case add => exact wrapped (x := .acadd d e) rfl
  case sub => exact wrapped (x := .acsub d e) rfl
  case neg => exact wrapped (x := .acneg d) rfl
  case ld => exact xRun_xCmd (x := .acld d ds) y rfl
  case left => exact fun h => wrapped (x := .acsh d sh) (congrArg (XRes.acc d) (acShift_of_nonneg A h))
  case right => exact fun h => xRun_xCmd (x := .acsh d sh) y (congrArg (XRes.acc d) (acShift_of_neg A h))
  case both => exact fun ha hb ha0 hb0 => xRun_xCmd (x := .mac ..) y (macEval_both (seen s k) d da1 da2 e db1 db2 ha hb ha0 hb0)
  case first => exact fun ha ha0 => xRun_xCmd (x := .mac ..) y (macEval_first (seen s k) d da1 da2 ha ha0)
  case second => exact fun hb hb0 => xRun_xCmd (x := .mac ..) y (macEval_second (seen s k) e db1 db2 hb hb0)
  case unused => exact xRun_xCmd (x := .mac 0 0 0 0 0 0 0 0) y rfl

end Sys2Proof.Machine
end

section
/-! Proofs about the Time unit's pins and time stamps (R304, R318, R319): what a master finds latched, and one equation for each case of
the pin edges and of the reads that take a stamp. -/

namespace Sys2Proof.Machine

/-! ## Latched words (R18) -/

theorem Tab.find_ins {α : Type} (m : List (Nat × α)) (k j : Nat) (v : α) : find (ins m k v) j = if j = k then some v else find m j := by
  induction m with
  | nil => rfl
  | cons p m ih =>
    obtain ⟨i, w⟩ := p
    by_cases hlt : k < i
    · simp only [ins, hlt, ↓reduceIte, find]
    · by_cases hki : k = i
      · subst hki
        by_cases hj : j = k <;> simp [ins, find, hj]
      · by_cases hj : j = i
        · simp [ins, find, hlt, hki, hj, Ne.symm hki]
        · simp [ins, find, hlt, hki, hj, ih]

/-- R18: what a master finds latched after a word was latched for it. -/
theorem State.latched_latch (s : State) (m : Master) (off a : Nat) (v : Word) :
    (s.latch m off v).latched m a = if a = off then some v else s.latched m a := by
  simp only [State.latched, State.latch, Tab.find_ins, Nat.add_left_cancel_iff]

@[simp] theorem State.latched_answer (s : State) (m : Master) (off : Nat) (v : Word) : (s.answer v).latched m off = s.latched m off := rfl

/-- R18: three words latched at offsets that follow one another are each found after the read is answered. -/
theorem State.latched_latch_three (s : State) (m : Master) (off : Nat) (v w x d : Word) :
    let u := (((s.latch m off v).latch m (off + 4) w).latch m (off + 8) x).answer d
    u.latched m off = some v ∧ u.latched m (off + 4) = some w ∧ u.latched m (off + 8) = some x := by
  simp [State.latched_latch]

@[simp] theorem State.answer_readData (s : State) (v : Word) : (s.answer v).readData = v := rfl

/-! ## PPS_OUT (R318) -/

theorem exec_ppsOutEdge (s : State) : exec .ppsOutEdge s = .next (ppsRise s) := rfl

theorem exec_ppsOutWidthEnd (s : State) : exec .ppsOutWidthEnd s = .next (ppsFall s) := rfl

theorem ppsRise_of_due {s : State} (h : s.time.ppsDue = true) :
    ppsRise s = { s with time := { s.time with pps := true, ppsDue := false, ppsAt := s.sched.up } } := if_pos h

theorem ppsRise_of_not_due {s : State} (h : s.time.ppsDue = false) : ppsRise s = s := if_neg (Bool.eq_false_iff.mp h)

/-- R318: PPS_OUT is high and its WIDTH milliseconds are over. -/
def PpsOver (s : State) : Prop := s.time.pps = true ∧ s.time.ppsAt + s.fget Reg.TIME_PPS_CTL 9 0 * 1000000 ≤ s.sched.up

theorem ppsFall_of_over {s : State} (h : PpsOver s) : ppsFall s = { s with time := { s.time with pps := false } } :=
  if_pos (by simpa only [Bool.and_eq_true, decide_eq_true_eq, PpsOver] using h)

theorem ppsFall_of_not_over {s : State} (h : ¬ PpsOver s) : ppsFall s = s :=
  if_neg (by simpa only [Bool.and_eq_true, decide_eq_true_eq, PpsOver] using h)

/-! ## PPS_IN (R319) -/

theorem exec_ppsInEdge (s : State) (n : Nat) : exec (.ppsInEdge n) s = .next (ppsIn n s) := rfl

theorem exec_timePpsinSubRead (s : State) (m : Master) : exec (.timePpsinSubRead m) s = .next (ppsInRead m s) := rfl

/-- R319: TIME_PPSIN with VALID = 1 and the counter at `t` sixteenths of a nanosecond. -/
def stampPpsIn (t : Nat) (s : State) : State :=
  (((s.wr Reg.TIME_PPSIN_SUB (2 ^ 31 + t % 16)).wr Reg.TIME_PPSIN_NS (t / 16 % 10 ^ 9)).wr Reg.TIME_PPSIN_SEC_LO
    (t / 16 / 10 ^ 9 % 2 ^ 32)).wr Reg.TIME_PPSIN_SEC_HI (t / 16 / 10 ^ 9 / 2 ^ 32 % 2 ^ 16)

/-- R319: an edge while IN_EN = 1 counts an overwrite if VALID is still 1, and leaves its stamp. -/
theorem ppsIn_of_enabled {s : State} (h : s.bget Reg.TIME_PPS_CTL 30 = true) (n : Nat) :
    ppsIn n s = stampPpsIn (s.now16 + n) (if s.bget Reg.TIME_PPSIN_SUB 31 then s.count Reg.TIME_PPSIN_OVW_CNT 1 else s) := if_pos h

theorem ppsIn_of_valid {s : State} (h : s.bget Reg.TIME_PPS_CTL 30 = true) (hv : s.bget Reg.TIME_PPSIN_SUB 31 = true) (n : Nat) :
    ppsIn n s = stampPpsIn (s.now16 + n) (s.count Reg.TIME_PPSIN_OVW_CNT 1) := by
  rw [ppsIn_of_enabled h, if_pos hv]

theorem ppsIn_of_not_valid {s : State} (h : s.bget Reg.TIME_PPS_CTL 30 = true) (hv : s.bget Reg.TIME_PPSIN_SUB 31 = false) (n : Nat) :
    ppsIn n s = stampPpsIn (s.now16 + n) s := by
  rw [ppsIn_of_enabled h, hv, if_neg Bool.false_ne_true]

theorem ppsIn_of_not_enabled {s : State} (h : s.bget Reg.TIME_PPS_CTL 30 = false) (n : Nat) : ppsIn n s = s := if_neg (Bool.eq_false_iff.mp h)

/-- R319: the read of TIME_PPSIN_SUB latches the other words of the stamp and clears VALID. -/
theorem ppsInRead_of_served {s : State} (h : s.served Reg.TIME_PPSIN_SUB = true) (m : Master) :
    ppsInRead m s = ((((s.latch m Reg.TIME_PPSIN_NS (toW (s.rd Reg.TIME_PPSIN_NS))).latch m Reg.TIME_PPSIN_SEC_LO
      (toW (s.rd Reg.TIME_PPSIN_SEC_LO))).latch m Reg.TIME_PPSIN_SEC_HI (toW (s.rd Reg.TIME_PPSIN_SEC_HI))).bset Reg.TIME_PPSIN_SUB 31
      false).answer (toW (s.rd Reg.TIME_PPSIN_SUB)) := if_pos h

/-! ## Transmit time stamps (R304) -/

theorem exec_timeTxtsIdRead (s : State) (m : Master) (p : Nat) : exec (.timeTxtsIdRead m p) s = .next (txtsRead m p s) := rfl

/-- R304: the transmit time stamps that wait on port `p`, the oldest first. -/
def State.txtsOf (s : State) (p : Nat) : List (Nat × Nat) := Tab.get (fun _ => []) s.time.txts p

/-- R304: port `p`'s queue of transmit time stamps becomes `q`. -/
def State.setTxts (s : State) (p : Nat) (q : List (Nat × Nat)) : State :=
  { s with time := { s.time with txts := Tab.put (fun _ => []) s.time.txts p q } }

@[simp] theorem State.setTxts_regs (s : State) (p : Nat) (q : List (Nat × Nat)) : (s.setTxts p q).regs = s.regs := rfl

@[simp] theorem State.setTxts_mem (s : State) (p : Nat) (q : List (Nat × Nat)) : (s.setTxts p q).mem = s.mem := rfl

theorem State.setTxts_get (s : State) (p : Nat) (q : List (Nat × Nat)) : Tab.get (fun _ => []) (s.setTxts p q).time.txts p = q :=
  Tab.get_put_self ..

/-- R304: a read while the queue is empty pops nothing. -/
theorem txtsRead_of_nil {s : State} {p : Nat} (hp : p < 16) (h : s.served (Reg.TIME_TXTS_ID p) = true) (hq : s.txtsOf p = [])
    (m : Master) : txtsRead m p s = s.answer 0 := by
  unfold State.txtsOf at hq
  simp only [txtsRead, hp, h, hq, decide_true, Bool.and_self, ↓reduceIte]

/-- R304: a read pops the oldest entry, latches its other words and answers VALID, what is left, the sixteenths and the ID. -/
theorem txtsRead_of_cons {s : State} {p id t : Nat} {rest : List (Nat × Nat)} (hp : p < 16) (h : s.served (Reg.TIME_TXTS_ID p) = true)
    (hq : s.txtsOf p = (id, t) :: rest) (m : Master) :
    txtsRead m p s = ((((s.setTxts p rest).latch m (Reg.TIME_TXTS_NS p) (toW (t / 16 % 10 ^ 9))).latch m (Reg.TIME_TXTS_NS p + 4)
      (toW (t / 16 / 10 ^ 9 % 2 ^ 32))).latch m (Reg.TIME_TXTS_NS p + 8) (toW (t / 16 / 10 ^ 9 / 2 ^ 32 % 2 ^ 16))).answer
      (toW (2 ^ 31 + rest.length * 2 ^ 20 + t % 16 * 2 ^ 16 + id)) := by
  unfold State.txtsOf at hq
  simp only [txtsRead, hp, h, hq, decide_true, Bool.and_self, ↓reduceIte]
  rfl

/-- Settles O17: each pin and each read follows the equation of its case; the popped stamp is found word by word. -/
theorem pinsAndTimestamps : Obligations.PinsAndTimestamps := by
  unfold Obligations.PinsAndTimestamps
  intro s m p id t n rest sub ns mark width
  refine ⟨?rise, ?noRise, ?fall, ?noFall, ?edge, ?overwrite, ?disabled, ?read, ?empty, ?pop⟩
  case rise => exact fun h => by rw [exec_ppsOutEdge, ppsRise_of_due h]
  case noRise => exact fun h => by rw [exec_ppsOutEdge, ppsRise_of_not_due h]
  case fall => exact fun h hw => by rw [exec_ppsOutWidthEnd, ppsFall_of_over ⟨h, hw⟩]
  case noFall =>
    intro h
    have hno : ¬ PpsOver s := fun ⟨hpps, hw⟩ => h.elim (fun hlow => Bool.false_ne_true (hlow.symm.trans hpps)) (Nat.not_lt.mpr hw)
    rw [exec_ppsOutWidthEnd, ppsFall_of_not_over hno]
  case edge => exact fun h hv => by rw [exec_ppsInEdge, ppsIn_of_not_valid h hv]; rfl
  case overwrite => exact fun h hv => by rw [exec_ppsInEdge, ppsIn_of_valid h hv]; rfl
  case disabled => exact fun h => by rw [exec_ppsInEdge, ppsIn_of_not_enabled h]
  case read => exact fun h => by rw [exec_timePpsinSubRead, ppsInRead_of_served h]
  case empty => exact fun hp h hq => by rw [exec_timeTxtsIdRead, txtsRead_of_nil hp h hq]
  case pop =>
    intro hp h hq
    refine ⟨_, (exec_timeTxtsIdRead s m p).trans (congrArg _ (txtsRead_of_cons hp h hq m)), State.answer_readData .., ?left, ?regs, ?mem,
      State.latched_latch_three ..⟩
    case left => simp only [State.answer_time, State.latch_time, State.setTxts_get]
    case regs => simp only [State.answer_regs, State.latch_regs, State.setTxts_regs]
    case mem => simp only [State.answer_mem, State.latch_mem, State.setTxts_mem]

end Sys2Proof.Machine
end

section
/-! Proofs about the panic mute, the partition's direct write and the counter snapshots (R149, R181, R550, R552, R553): what a write of a
register without an effect of its own leaves, what an opened shadow holds, and one equation for each case of the snapshot's registers. -/

namespace Sys2Proof.Machine

/-! ## Plain writes (R12, R14) -/

/-- R12, R563: an aligned write of a served register whose write has no effect of its own follows its fields' access codes. -/
theorem regWrite_of_plain {s : State} {m : Master} {off : Nat} {v : Word} {r : Desc} {is : List Nat} (ha : off % 4 = 0)
    (h : s.served off = true) (hd : descOf off = some (r, is)) (hp : specialWrite m r (nth 0 is 0) (nth 0 is 1) off v s = none) :
    regWrite m off v s = plainWrite r off v s := by
  simp only [regWrite, alignedWrite, ha, h, hd, hp, ↓reduceIte]

/-- R14: a write that opens no shadow leaves the live word its fields make. -/
theorem plainWrite_of_no_shadow {s : State} {r : Desc} {off : Nat} {v : Word} (h : r.fields.any (opensShadow s r.base off v.toNat) = false) :
    plainWrite r off v s = s.wr off (r.fields.foldl (writeField s r.base off v.toNat) (s.rd off)) := if_neg (Bool.eq_false_iff.mp h)

/-- R14: a field with code RW takes a value in its range. -/
theorem writeField_of_rw {s : State} {b off v w : Nat} {f : Fld} (ha : f.acc = .rw) (hok : fieldOk s b off f.hi (getF v f.hi f.lo) = true) :
    writeField s b off v w f = setF w f.hi f.lo (getF v f.hi f.lo) := by
  simp only [writeField, ha, hok, ↓reduceIte]

/-- A field of one bit is that bit. -/
theorem getF_bit (w b : Nat) : getF w b b = b2n (bitOf w b) := by
  simp only [getF, b2n, bitOf, beq_iff_eq, Nat.sub_self, Nat.zero_add, Nat.pow_one]
  split <;> omega

/-! ## The panic mute (R181) -/

theorem exec_panicMuteWrite (s : State) (m : Master) (v : Word) : exec (.panicMuteWrite m v) s = .next (regWrite m Reg.OUT_CTL v s) := rfl

/-- R186: the fields of OUT_CTL: PANIC_MUTE alone. -/
def outCtlRow : Desc := ⟨Reg.OUT_CTL, [], [⟨0, 0, .rw, 0⟩]⟩

theorem descOf_OUT_CTL : descOf Reg.OUT_CTL = some (outCtlRow, []) := rfl

/-- R181: a write of OUT_CTL sets PANIC_MUTE and nothing else. -/
theorem regWrite_OUT_CTL {s : State} (h : s.served Reg.OUT_CTL = true) (m : Master) (v : Word) :
    regWrite m Reg.OUT_CTL v s = s.bset Reg.OUT_CTL 0 (bitOf v.toNat 0) := by
  calc regWrite m Reg.OUT_CTL v s
      = plainWrite outCtlRow Reg.OUT_CTL v s := regWrite_of_plain rfl h descOf_OUT_CTL rfl
    _ = s.wr Reg.OUT_CTL (writeField s Reg.OUT_CTL Reg.OUT_CTL v.toNat (s.rd Reg.OUT_CTL) ⟨0, 0, .rw, 0⟩) := plainWrite_of_no_shadow rfl
    _ = s.fset Reg.OUT_CTL 0 0 (getF v.toNat 0 0) := congrArg (s.wr _) (writeField_of_rw rfl rfl)
    _ = s.bset Reg.OUT_CTL 0 (bitOf v.toNat 0) := congrArg (s.fset _ 0 0) (getF_bit ..)

/-! ## Open shadows (R188) -/

theorem mem_insNat_self (l : List Nat) (k : Nat) : k ∈ insNat l k := by
  induction l with
  | nil => exact List.mem_singleton_self k
  | cons i l ih =>
    by_cases hlt : k < i
    · rw [insNat, if_pos hlt]
      exact List.mem_cons_self
    · by_cases heq : k = i
      · rw [insNat, if_neg hlt, if_pos heq, heq]
        exact List.mem_cons_self
      · rw [insNat, if_neg hlt, if_neg heq]
        exact List.mem_cons_of_mem i ih

theorem openShadow_mem_openShadows (off w : Nat) (s : State) : off ∈ (openShadow off w s).sched.openShadows := mem_insNat_self ..

/-- R188: an opened shadow holds the word written; every other register is unchanged. -/
theorem openShadow_rd (off w a : Nat) (s : State) : (openShadow off w s).rd a = if a = shadowOf off then w % 2 ^ 32 else s.rd a :=
  State.rd_wr s (shadowOf off) w a

@[simp] theorem openShadow_mem (off w : Nat) (s : State) : (openShadow off w s).mem = s.mem := rfl

@[simp] theorem openShadow_scene (off w : Nat) (s : State) : (openShadow off w s).scene = s.scene := rfl

/-! ## The partition (R149) -/

theorem exec_nibPartitionWrite (s : State) (m : Master) (v : Word) : exec (.nibPartitionWrite m v) s = .next (partitionWrite v s) := rfl

/-- R154: the partition's shadow is the register behind it. -/
theorem shadowOf_NIB_PARTITION : shadowOf Reg.NIB_PARTITION = Reg.NIB_PARTITION_SHADOW := rfl

/-- R149: while an object is not FREE the write is ignored, with PART_REJECT. -/
theorem partitionWrite_of_not_free {s : State} (h : s.served Reg.NIB_PARTITION = true) (ho : ∃ p ∈ s.scene.objs, p.2.st ≠ .free) (v : Word) :
    partitionWrite v s = s.bset Reg.NIB_ARRAY_STATUS 2 true := by
  have hany : s.scene.objs.any (fun p => p.2.st != .free) = true :=
    let ⟨p, hp, hst⟩ := ho
    List.any_eq_true.mpr ⟨p, hp, bne_iff_ne.mpr hst⟩
  simp only [partitionWrite, h, hany, ↓reduceIte]

/-- R149: with every object FREE the write goes to the shadow. -/
theorem partitionWrite_of_free {s : State} (h : s.served Reg.NIB_PARTITION = true) (ho : ∀ p ∈ s.scene.objs, p.2.st = .free) (v : Word) :
    partitionWrite v s = openShadow Reg.NIB_PARTITION (v.toNat % 2) s := by
  have hany : s.scene.objs.any (fun p => p.2.st != .free) = false :=
    List.any_eq_false.mpr fun p hp hst => bne_iff_ne.mp hst (ho p hp)
  simp only [partitionWrite, h, hany, ↓reduceIte, Bool.false_eq_true]

/-! ## Counter snapshots (R550 to R553) -/

theorem exec_snapRequest (s : State) (m : Master) (v : Word) : exec (.snapRequest m v) s = .next (snapWrite v s) := rfl

theorem exec_snapDone (s : State) : exec .snapDone s = .next (snapDone s) := rfl

theorem exec_statShdDataRead (s : State) (m : Master) : exec (.statShdDataRead m) s = .next (shdRead s) := rfl

/-- R550: a request arms the snapshot, and joins one that is armed. -/
theorem snapWrite_of_request {s : State} {v : Word} (h : s.served Reg.STAT_SNAP = true) (hv : bitOf v.toNat 0 = true) :
    snapWrite v s = { s with stat := { s.stat with
      snapArmed := true, snapClear := (s.stat.snapArmed && s.stat.snapClear) || bitOf v.toNat 1 } } :=
  if_pos (Bool.and_eq_true_iff.mpr ⟨h, hv⟩)

/-- R552: once every domain has latched, the snapshot ends: its block number, its count and its event. -/
theorem snapDone_of_latched {s : State} (ha : s.stat.snapArmed = true) (hl : s.stat.latched = true) :
    snapDone s = fire 0x4C 0 ((State.wr64 { s with stat := { s.stat with snapArmed := false, snapClear := false, latched := false } }
      Reg.STAT_SNAP_BN_LO s.stat.snapAt).count Reg.STAT_SNAP_CNT 1) :=
  if_pos (Bool.and_eq_true_iff.mpr ⟨ha, hl⟩)

/-- R553: an offset answers from the shadows if no snapshot is under way, one was taken, and it holds an RC field of a present unit. -/
theorem shdWord_eq (s : State) (off : Nat) :
    shdWord s off = if s.stat.snapArmed = false ∧ s.stat.taken = true ∧ hasRC off = true ∧ present s.variant off = true then
      Tab.get resetWord s.stat.shadow off else 0 := by
  have hcond : ¬ ((s.stat.snapArmed || !s.stat.taken || !hasRC off || !present s.variant off) = true)
      ↔ s.stat.snapArmed = false ∧ s.stat.taken = true ∧ hasRC off = true ∧ present s.variant off = true := by
    simp only [Bool.or_eq_true, Bool.not_eq_true', not_or, Bool.not_eq_true, Bool.not_eq_false, and_assoc]
  by_cases h : (s.stat.snapArmed || !s.stat.taken || !hasRC off || !present s.variant off) = true
  · rw [shdWord, if_pos h, if_neg fun hs => hcond.mpr hs h]
  · rw [shdWord, if_neg h, if_pos (hcond.mp h)]

/-- R553: a read of STAT_SHD_DATA answers the shadow at STAT_SHD_ADDR, which moves on by one register. -/
theorem shdRead_of_served {s : State} (h : s.served Reg.STAT_SHD_DATA = true) :
    shdRead s = (s.wr Reg.STAT_SHD_ADDR ((s.rd Reg.STAT_SHD_ADDR + 4) % 2 ^ 24)).answer (shdWord s (s.rd Reg.STAT_SHD_ADDR)) := if_pos h

/-- Settles O20: each register's write or read follows the equation of its case. -/
theorem mutePartitionAndSnapshotRegisters : Obligations.MutePartitionAndSnapshotRegisters := by
  unfold Obligations.MutePartitionAndSnapshotRegisters
  intro s m v
  refine ⟨?mute, ?reject, ?stage, ?request, ?done, ?read⟩
  case mute => exact fun h => by rw [exec_panicMuteWrite, regWrite_OUT_CTL h]
  case reject => exact fun h ho => by rw [exec_nibPartitionWrite, partitionWrite_of_not_free h ho]
  case stage =>
    intro h ho
    refine ⟨_, (exec_nibPartitionWrite s m v).trans (congrArg _ (partitionWrite_of_free h ho v)), ?shadow, ?live,
      openShadow_mem_openShadows .., openShadow_mem .., openShadow_scene ..⟩
    case shadow =>
      rw [openShadow_rd, if_pos shadowOf_NIB_PARTITION.symm]
      omega
    case live => rw [openShadow_rd, shadowOf_NIB_PARTITION, if_neg (by decide)]
  case request => exact fun h hv => by rw [exec_snapRequest, snapWrite_of_request h hv]
  case done => exact fun ha hl => by rw [exec_snapDone, snapDone_of_latched ha hl]
  case read => exact fun h => by rw [exec_statShdDataRead, shdRead_of_served h, shdWord_eq]

end Sys2Proof.Machine
end
